-- ==== Sys2Proof/Word.lean ====
section
/-! DEFINITION. The words of the Tapejo T2410: what the manual treats as bits is a bit vector, what it
treats as an index is a bounded number. -/

namespace Sys2Proof

/-- One byte of the host window or of a frame payload. -/
abbrev Byte := BitVec 8

/-- A ticket, and serve, issue and offered (R5): all arithmetic is modulo 65536. -/
abbrev Ticket := BitVec 16

/-- A station's tag (R91, R100). -/
abbrev Tag := BitVec 16

/-- The group digest and the frame check (R115, R171). -/
abbrev Digest := BitVec 16

/-- A member's epoch, modulo 256 (R91, R96). -/
abbrev Epoch := BitVec 8

/-- A resource identifier: class in the top two bits, number in the low 22 (R187). -/
abbrev Resource := BitVec 24

/-- A station number as frames and answers carry it, 1 to 31, 0 = none (R113, R187). -/
abbrev StationNo := BitVec 5

/-- A requester context, 0 to 7 (R8). -/
abbrev Context := Fin 8

/-- The index of a request slot, 0 to 23; it advances modulo 24 (R141, R146). -/
abbrev SlotIx := Fin 24

/-- What is left of a running timer, in microseconds of the reference clock; 0 means due. -/
abbrev Timer := Nat

end Sys2Proof
end

