-- ==== Sys2Proof/Config.lean ====
section
/-! DEFINITION. What the part fixes: its capacities (00_scope.md, Summary of Capacities), and the values
the manual leaves free. The host's configuration RECORD is state, not this file. -/

namespace Sys2Proof

/-- R1: the lock table never has more than 32 entries in use. -/
def Config.lockEntries : Nat := 32

/-- R128: the lock engine's frames hold at most 6 places of the outbound queue. -/
def Config.lockPlaces : Nat := 6

/-- R127: the outbound queue never holds more than 8 frames. -/
def Config.queuePlaces : Nat := 8

/-- R131: the eighth failed attempt abandons a frame. -/
def Config.attempts : Nat := 8

/-- R159: the notice queue never holds more than 16 notices. -/
def Config.notices : Nat := 16

/-- R1, R189: at most one want per lock entry and per pending QUERY. -/
def Config.wants : Nat := 56

/-- FREE VALUE (log 3). Which of several events that come due at one moment the station takes first:
the manual lets either order occur (R103, R140, R151, R161). It has no body, so no proof can know it. -/
opaque Config.freeChoice : Nat → Nat

/-- FREE VALUE (log 35, log 41). What MISO carries at a rising edge of SCK where R177 and R175 give it no value:
in the header, in a write transaction, and once reset has been met. It has no body. -/
opaque Config.misoUnstated : Nat → Bool

end Sys2Proof
end

