-- ==== Sys2Proof/Syntax.lean ====
section
/-! DEFINITION. The commands and events of the lock station: one constructor of `Instr` for each row of
spec/opcode_table.json, with the operands the row's rule gives it. -/

namespace Sys2Proof

/-- The moments of a LEAD (R112): the lead begins; 3T later the arbitration field starts and the outbound
queue's head frame is taken as that queue then stands; or, before it begins, the line goes dominant under
another station's drive, and it does not begin (log 5, log 36). `lineRises`: a line that a frame's end found
dominant is released (log 43). -/
inductive LeadPhase
  | begins
  | arbitrationStart
  | lineFalls
  | lineRises
  deriving DecidableEq, Repr

/-- What the line shows where a frame ends (R111): it is recessive, its last release `since` quarter microseconds
ago; or a pulse that outlasts the frame's last bit still holds it dominant (R120, log 39). -/
inductive LineAtEnd
  | released (since : Nat)
  | dominant
  deriving DecidableEq, Repr

/-- What the line showed of an answer field: `field` as the other stations leave it, 1 where none of them drives
(R120, R122), and how the line stands at its end. -/
structure AnswerLine where
  field : BitVec 28
  atEnd : LineAtEnd
  deriving DecidableEq, Repr

/-- The moments of a VETO_SLOT_END: the last check bit has been sampled and the veto conditions are decided
(R115); and the slot ends, `vetoed` by another station or not, and the line stands as `atEnd` (R117, log 37). -/
inductive VetoMoment
  | checked
  | ends (vetoed : Bool) (atEnd : LineAtEnd)
  deriving DecidableEq, Repr

/-- The checked fields of a frame as a station samples them, and its check field (R114). `length` is the
field as received; `payload` is that many bytes. -/
structure LinkFrame where
  cls     : BitVec 2
  sender  : StationNo
  kind    : BitVec 3
  length  : BitVec 4
  payload : List Byte
  check   : Digest
  deriving DecidableEq, Repr

inductive Instr
  /-- Command COMMIT (R169, R170). -/
  | commit
  /-- Command START (R88). -/
  | start
  /-- Command LEAVE (R106). -/
  | leave
  /-- Command RESTART (R174). -/
  | restart
  /-- CONFIGURATION_WRITE: a byte written at 0x000 + `offset` (R167, R186). -/
  | configurationWrite (offset : Fin 19) (value : Byte)
  /-- SLOT_WRITE: the bytes of one write transaction that fall in the record of `slot`, as
  (offset, value) in their order (R143, R178, R185). -/
  | slotWrite (slot : SlotIx) (bytes : List (Fin 16 × Byte))
  /-- END_WRITE (R146). -/
  | endWrite (value : Byte)
  /-- POST_LOCK_READ; `whole`: the transaction clocked out the whole byte (R155, R179). -/
  | postLockRead (whole : Bool)
  /-- POST_LOCK_WRITE (R155). -/
  | postLockWrite (value : Byte)
  /-- REFUSED_WRITE_CLEAR: a byte written to the ring status location; bit 2 clears the flag (R154). -/
  | refusedWriteClear (value : Byte)
  /-- POP_READ: `count` bytes read from byte `offset` of the pop location on; `fresh`: the first of them
  is the transaction's first pop-location byte (R163, R179). -/
  | popRead (fresh : Bool) (offset : Fin 12) (count : Nat)
  /-- IGNORED_WRITE (R180). -/
  | ignoredWrite (address : BitVec 12) (value : Byte)
  /-- RESET_PIN: RESET_N goes low (R175). -/
  | resetPin
  /-- POWER_ON: power-on, or a fall of VDD below the release threshold (R175). -/
  | powerOn
  /-- TAKING: the slot processor's taking of the slot at CURRENT (R147). -/
  | taking
  /-- DEADLINE_EXPIRY of the entry that names `slot` (R38). -/
  | deadlineExpiry (slot : SlotIx)
  /-- PROBE_TIMER_EXPIRY of the entry that names `slot` (R69). -/
  | probeTimerExpiry (slot : SlotIx)
  /-- CLAIM_RETRY_EXPIRY of the entry that names `slot` (R36). -/
  | claimRetryExpiry (slot : SlotIx)
  /-- GRANT_RETRY_EXPIRY of the HANDING entry for `resource` (R59). -/
  | grantRetryExpiry (resource : Resource)
  /-- LEAD (R112). -/
  | lead (phase : LeadPhase)
  /-- LEAD_HEARD: the release of a pulse in the lead window (R111). -/
  | leadHeard
  /-- ARBITRATION_LOST: a 1 sent and a 0 sampled in the arbitration field (R113). -/
  | arbitrationLost
  /-- COLLISION (R118). -/
  | collision
  /-- VETO_SLOT_END: `heard` is the frame as a listener sampled it (a sender has sampled what it sent);
  `vetoed`: another station drives the veto slot (R116, R117). -/
  | vetoSlotEnd (heard : LinkFrame) (moment : VetoMoment)
  /-- ANSWER_START (R120). -/
  | answerStart
  /-- ANSWER_END (R120, R122). -/
  | answerEnd (line : AnswerLine)
  /-- TRUNCATION: the line stays recessive for 2T (R119). -/
  | truncation
  /-- LOSS_OF_SYNCHRONIZATION: a pattern that is neither a frame nor a truncation (R124). -/
  | lossOfSynchronization
  /-- IDLE_REGAINED: 12T of recessive line in SEEKING (R111). -/
  | idleRegained
  /-- SILENCE_TIMER_EXPIRY of the record of `station` (R97). -/
  | silenceTimerExpiry (station : StationNo)
  /-- BEACON_TIMER_EXPIRY (R101). -/
  | beaconTimerExpiry
  /-- FENCE_TIMER_EXPIRY (R102). -/
  | fenceTimerExpiry
  /-- RESET_RELEASE: RESET_N returns high and power is valid (R175). -/
  | resetRelease
  /-- ARBITRATION_FIELD_PASSED (R113). -/
  | arbitrationFieldPassed
  deriving DecidableEq, Repr

end Sys2Proof
end

