-- ==== Sys2Proof/Machine/State.lean ====
section
/-! DEFINITION. The state of the lock station, block by block as 00_scope.md lists the blocks, and the
state right after reset. Everything is plain data. -/

namespace Sys2Proof.Machine

open Sys2Proof

/-- No command of the spec stops the station, so there is no fault: an event that cannot apply in a
state changes nothing, and every failure the manual names is state (INVENTORY.md, Faults). -/
inductive Fault
  deriving DecidableEq, Repr

inductive Refusal
  /-- Raised by `exec` alone, for a command that has no meaning yet. Safe. -/
  | notModelled (mnemonic : String)
  /-- Raised by IGNORED_WRITE when its operand names a byte that R180 does not ignore: such a term is
  another row's command (log 20). Safe. -/
  | notAnIgnoredWrite
  deriving DecidableEq, Repr

/-! ### Configuration record (R166, R186) -/

structure ConfigRecord where
  stationNumber    : Byte
  bitTimeCode      : Byte
  beaconInterval   : Byte
  presenceMultiple : Byte
  probeInterval    : Byte
  spanLimit        : Byte
  policyVector     : BitVec 16
  contextClasses   : BitVec 16
  holdLimits       : Vector Byte 8
  interruptEnable  : Bool
  accepted         : Bool
  digest           : Option Digest
  rejected         : Bool
  deriving DecidableEq, Repr

/-! ### Lock engine (R1 to R18) -/

inductive WaitPolicy
  | nowait
  | wait
  | limited
  deriving DecidableEq, Repr

/-- R39: what is held behind a CLAIM on the link. -/
inductive HeldAction
  | deadline
  | cancel
  deriving DecidableEq, Repr

/-- R2: the six states of an entry in use, each with its own fields. A field the manual calls optional
is an Option. -/
inductive EntryState
  | deferred (context : Context) (slot : SlotIx) (policy : WaitPolicy) (deadline : Option Timer)
  | claiming (context : Context) (slot : SlotIx) (policy : WaitPolicy) (deadline : Option Timer)
      (retry : Option Timer)
  | waiting (context : Context) (slot : SlotIx) (ticket : Ticket) (holder : StationNo)
      (epoch : Option Epoch) (deadline : Option Timer) (probe : Option Timer)
  | holding (context : Context) (count : Byte) (serve issue : Ticket) (wantNoted : Bool)
  | handing (serve issue offered : Ticket) (grantRetry : Option Timer)
  | lost (context : Context) (count : Byte)
  deriving DecidableEq, Repr

/-- A lock entry in use (R1). `id` is its place in taking order (R13), which no other occupancy shares;
`held` are the actions held behind its CLAIM on the link (R39). -/
structure LockEntry where
  id       : Nat
  resource : Resource
  state    : EntryState
  held     : List HeldAction
  deriving DecidableEq, Repr

/-- R14: a pending QUERY, outside the lock table. `heldCancel`: a CANCEL held behind its frame (R40). -/
structure PendingQuery where
  id         : Nat
  slot       : SlotIx
  resource   : Resource
  heldCancel : Bool
  deriving DecidableEq, Repr

/-- R14: the owner of a want or of a lock-engine frame. -/
inductive Owner
  | entry (id : Nat)
  | query (id : Nat)
  deriving DecidableEq, Repr

/-- The lock engine: the entries in use and the pending queries, each in taking order; the want list,
oldest first; and the number of takings so far, from which places in taking order come. -/
structure LockEngine where
  entries : List LockEntry
  queries : List PendingQuery
  wants   : List Owner
  takings : Nat
  deriving DecidableEq, Repr

/-! ### Membership unit (R87 to R107) -/

inductive StationState
  | unconfigured
  | offline
  | joining
  | member
  | leaving
  | refused
  deriving DecidableEq, Repr

inductive Presence
  | unknown
  | present
  | absent
  deriving DecidableEq, Repr

/-- R91. -/
structure MemberRecord where
  state   : Presence
  tag     : Option Tag
  epoch   : Epoch
  silence : Option Timer
  deriving DecidableEq, Repr

/-- R103. -/
inductive FenceCause
  | silence
  | departed
  | sync
  deriving DecidableEq, Repr

/-- R99: the cause of a PEER_DOWN. -/
inductive DownCause
  | heard
  | timeout
  deriving DecidableEq, Repr

/-- `records[s - 1]` is the record of station s; `departs` is the pending list of R98. -/
structure MembershipUnit where
  station     : StationState
  ownTag      : Option Tag
  records     : Vector MemberRecord 31
  beaconTimer : Option Timer
  fenceTimer  : Option Timer
  departs     : List (StationNo × Tag)
  deriving DecidableEq, Repr

/-! ### Frames, outbound queue (R127) and link transceiver (R110) -/

/-- What a frame says, by its kind (R187). -/
inductive FrameContent
  | join (tag : Tag) (digest : Digest)
  | beacon (tag : Tag)
  | depart (station : StationNo) (tag : Tag)
  | grant (resource : Resource) (offered issue : Ticket)
  | claim (resource : Resource) (context : Context) (probe : Option Ticket) (nowait : Bool)
  | query (resource : Resource)
  deriving DecidableEq, Repr

inductive FrameKind
  | join
  | beacon
  | depart
  | grant
  | claim
  | query
  deriving DecidableEq, Repr

inductive FrameOwner
  | lock (owner : Owner)
  | membership
  deriving DecidableEq, Repr

/-- R127. The class is fixed by the kind; `payload` is present for membership frames alone. -/
structure FrameRecord where
  kind      : FrameKind
  owner     : FrameOwner
  age       : Nat
  attempts  : Nat
  payload   : Option FrameContent
  withdrawn : Bool
  deriving DecidableEq, Repr

/-- The frames in the order of their placement, and the next age. -/
structure OutboundQueue where
  frames  : List FrameRecord
  nextAge : Nat
  deriving DecidableEq, Repr

/-- An own frame taken for an attempt: which record of the outbound queue it is, and what it says. -/
structure OwnFrame where
  age     : Nat
  content : FrameContent
  deriving DecidableEq, Repr

/-- Another's frame that has passed its veto slot and goes on into its answer field: its sender and
content; whether this station has made its answer demand; the 28 bits it is writing; and the entry that
committed TAKEN to it (R77), for R4. -/
structure HeardFrame where
  sender    : StationNo
  content   : FrameContent
  demanded  : Bool
  answer    : Option (BitVec 28)
  committed : Option Nat
  deriving DecidableEq, Repr

/-- R110's six states with what each holds of the frame now passing. ARBITRATING has two parts (R112):
the lead, before a frame is taken, and the arbitration field. SENDING and LISTENING run to the veto slot
and then, for CLAIM, GRANT and QUERY, through the answer field. `vetoing`: what a listener has decided with the
last check bit (R115); it drives its veto slot, or not, by that. -/
inductive LinkState
  | off
  | seeking
  | idle
  | leading
  | arbitrating (own : OwnFrame)
  | sending (own : OwnFrame)
  | sendingAnswer (own : OwnFrame)
  | listening
  | vetoSlot (vetoing : Bool)
  | listeningAnswer (frame : HeardFrame)
  deriving DecidableEq, Repr

/-- R111: the line in IDLE and SEEKING: recessive; dominant under a pulse that has fallen and not yet released
(log 36); or dominant still from the frame that has ended (R120, log 43). -/
inductive LineLevel
  | recessive
  | pulse
  | tail
  deriving DecidableEq, Repr

/-- `idle` is R110's idle count (in SEEKING the recessive time of R111). `line`: the line's level in IDLE or
SEEKING; in the other states it is not read. `clock` is the time since the falling edge of the pulse that stands,
or since the lead edge of the frame now passing. Both times are in quarter microseconds (log 16). -/
structure Transceiver where
  state : LinkState
  idle  : Nat
  clock : Nat
  line  : LineLevel
  deriving DecidableEq, Repr

/-! ### Slot processor (R141 to R158) -/

inductive SlotState
  | empty
  | filled
  | pending
  | done
  deriving DecidableEq, Repr

/-- R153, R185: the completion codes, in the order of their numbers from 1. -/
inductive Code
  | granted
  | reentered
  | released
  | busy
  | timedOut
  | cancelled
  | policy
  | limit
  | tableFull
  | countLimit
  | duplicate
  | notHolder
  | lost
  | linkFail
  | fenced
  | offline
  | unfilled
  | malformed
  | answered
  | unowned
  | damaged
  | accepted
  | notPending
  deriving DecidableEq, Repr

/-- R141: the result part. An absent field is none. `context` is 0 to 7, or 0xFF for HANDING. -/
structure SlotResult where
  code    : Option Code
  count   : Option Byte
  station : Option StationNo
  context : Option Byte
  span    : Option Byte
  deriving DecidableEq, Repr

/-- R141: a request slot; the request word is kind, notify, context and policy, as written. -/
structure Slot where
  state     : SlotState
  kind      : BitVec 3
  notify    : Bool
  context   : BitVec 4
  policy    : BitVec 2
  resource  : Resource
  waitLimit : BitVec 16
  target    : Byte
  result    : SlotResult
  deriving DecidableEq, Repr

structure Ring where
  slots        : Vector Slot 24
  current      : SlotIx
  endIx        : SlotIx
  postLock     : Bool
  stalled      : Bool
  refusedWrite : Bool
  deriving DecidableEq, Repr

/-! ### Notice queue (R159 to R165) -/

/-- R160: the nine kinds, each with the fields it carries. -/
inductive NoticeBody
  | completed (slot : SlotIx) (code : Code)
  | wanted (resource : Resource) (context : Context) (span : Ticket)
  | fenced (cause : FenceCause) (lostCount : Nat)
  | joined (station : StationNo)
  | joinFailed
  | left
  | peerUp (station : StationNo)
  | peerDown (station : StationNo) (cause : DownCause)
  | peerRejoined (station : StationNo)
  deriving DecidableEq, Repr

/-- A notice record with its overflow-before mark (R159). -/
structure Notice where
  body : NoticeBody
  mark : Bool
  deriving DecidableEq, Repr

structure NoticeQueue where
  records  : List Notice
  overflow : Bool
  deriving DecidableEq, Repr

/-! ### Host port (R177 to R179) -/

/-- `popRecord`: the notice fixed by the pop read in progress (R179), none when there is none or when the
queue was empty. `miso`: the bytes the last side-effecting read returned (log 18). -/
structure HostPort where
  popRecord : Option Notice
  miso      : List Byte
  deriving DecidableEq, Repr

/-- The lock station. `elapsed` is the elapsed-time count in microseconds (R100); `resetHeld`: RESET_N is
low or power is not valid (R175); `freeCount` numbers the choices the manual leaves open (log 3);
`pending` is the queue of waiting commands, first in, first out. -/
structure State where
  config    : ConfigRecord
  lock      : LockEngine
  member    : MembershipUnit
  link      : Transceiver
  queue     : OutboundQueue
  ring      : Ring
  notices   : NoticeQueue
  port      : HostPort
  elapsed   : Nat
  resetHeld : Bool
  freeCount : Nat
  pending   : List Instr
  deriving DecidableEq, Repr

/-! ### Reset values -/

/-- R167. -/
def ConfigRecord.reset : ConfigRecord where
  stationNumber    := 0
  bitTimeCode      := 0
  beaconInterval   := 0
  presenceMultiple := 0
  probeInterval    := 0
  spanLimit        := 0
  policyVector     := 0
  contextClasses   := 0
  holdLimits       := Vector.replicate 8 0
  interruptEnable  := false
  accepted         := false
  digest           := none
  rejected         := false

/-- R16. -/
def LockEngine.reset : LockEngine := ⟨[], [], [], 0⟩

/-- R91. -/
def MemberRecord.reset : MemberRecord := ⟨.unknown, none, 0, none⟩

/-- R87, R91, R100; the station state is UNCONFIGURED after the reset pin and OFFLINE after RESTART. -/
def MembershipUnit.reset (station : StationState) : MembershipUnit where
  station     := station
  ownTag      := none
  records     := Vector.replicate 31 MemberRecord.reset
  beaconTimer := none
  fenceTimer  := none
  departs     := []

/-- R110. -/
def Transceiver.reset : Transceiver := ⟨.off, 0, 0, .recessive⟩

/-- R138. -/
def OutboundQueue.reset : OutboundQueue := ⟨[], 0⟩

/-- The result part of a slot that has not completed (R141). -/
def SlotResult.absent : SlotResult := ⟨none, none, none, none, none⟩

/-- R142. -/
def Slot.reset : Slot := ⟨.empty, 0, false, 0, 0, 0, 0, 0, .absent⟩

/-- R142. -/
def Ring.reset : Ring where
  slots        := Vector.replicate 24 Slot.reset
  current      := 0
  endIx        := 0
  postLock     := false
  stalled      := false
  refusedWrite := false

/-- R159. -/
def NoticeQueue.reset : NoticeQueue := ⟨[], false⟩

/-- R178: no transaction is in progress. -/
def HostPort.reset : HostPort := ⟨none, []⟩

/-- R174, R175: every block but the configuration record at its reset values, in the station state
given. The model's own `freeCount` and the queue of commands are no part of the station. -/
def State.cleared (s : State) (config : ConfigRecord) (station : StationState) (held : Bool) : State where
  config    := config
  lock      := .reset
  member    := .reset station
  link      := .reset
  queue     := .reset
  ring      := .reset
  notices   := .reset
  port      := .reset
  elapsed   := 0
  resetHeld := held
  freeCount := s.freeCount
  pending   := s.pending

/-- The station right after the release of reset (R175, log 1). -/
def State.reset : State where
  config    := .reset
  lock      := .reset
  member    := .reset .unconfigured
  link      := .reset
  queue     := .reset
  ring      := .reset
  notices   := .reset
  port      := .reset
  elapsed   := 0
  resetHeld := false
  freeCount := 0
  pending   := []

/-! ### Block updates -/

def State.withConfig (s : State) (x : ConfigRecord) : State := { s with config := x }
def State.withLock (s : State) (x : LockEngine) : State := { s with lock := x }
def State.withMember (s : State) (x : MembershipUnit) : State := { s with member := x }
def State.withLink (s : State) (x : Transceiver) : State := { s with link := x }
def State.withQueue (s : State) (x : OutboundQueue) : State := { s with queue := x }
def State.withRing (s : State) (x : Ring) : State := { s with ring := x }
def State.withNotices (s : State) (x : NoticeQueue) : State := { s with notices := x }
def State.withPort (s : State) (x : HostPort) : State := { s with port := x }
def State.withElapsed (s : State) (x : Nat) : State := { s with elapsed := x }
def State.withResetHeld (s : State) (x : Bool) : State := { s with resetHeld := x }
def State.withFreeCount (s : State) (x : Nat) : State := { s with freeCount := x }
def State.withPending (s : State) (x : List Instr) : State := { s with pending := x }

end Sys2Proof.Machine
end

