-- ==== Sys2Proof/Machine/Operands.lean ====
section
/-! DEFINITION. Formats: tickets and spans (R5), the check (R115, R171), frames (R114, R187), answers
(R120, R121), the request part of a slot (R184), the configuration area (R186) and the record at the
pop location (R183). -/

namespace Sys2Proof.Machine

open Sys2Proof

/-! ### Ticket arithmetic (R5) -/

/-- R5: the span of a holder entry, issue − serve − 1 modulo 65536. -/
def spanOf (serve issue : Ticket) : Ticket := issue - serve - 1

/-- R5: ticket t is in queue when (t − serve) is at least 1 and below (issue − serve), modulo 65536. -/
def inQueue (serve issue t : Ticket) : Bool :=
  decide (1 ≤ (t - serve).toNat) && decide ((t - serve).toNat < (issue - serve).toNat)

/-! ### The check (R115) -/

/-- One bit into the register of the CRC with polynomial x^16 + x^12 + x^5 + 1. -/
def crcBit (r : Digest) (b : Bool) : Digest :=
  if (r.msb != b) then (r <<< 1) ^^^ 0x1021 else r <<< 1

/-- R115, R171: the register starts at all ones; no final inversion. -/
def crc (bits : List Bool) : Digest := bits.foldl crcBit 0xFFFF

/-- The bits of a field, most significant first. -/
def bitsOf {n : Nat} (x : BitVec n) : List Bool := (List.range n).map (fun i => x.getMsbD i)

/-- R171: the five group fields, one byte each, in their order. -/
def groupDigest (c : ConfigRecord) : Digest :=
  crc (bitsOf c.bitTimeCode ++ bitsOf c.beaconInterval ++ bitsOf c.presenceMultiple
    ++ bitsOf c.probeInterval ++ bitsOf c.spanLimit)

/-! ### Frames (R114, R116, R187) -/

def FrameContent.kind : FrameContent → FrameKind
  | .join _ _ => .join
  | .beacon _ => .beacon
  | .depart _ _ => .depart
  | .grant _ _ _ => .grant
  | .claim _ _ _ _ => .claim
  | .query _ => .query

/-- R114: the kind codes. -/
def FrameKind.code : FrameKind → BitVec 3
  | .join => 0
  | .beacon => 1
  | .depart => 2
  | .grant => 3
  | .claim => 4
  | .query => 5

/-- R114: the class is fixed by the kind. -/
def FrameKind.cls : FrameKind → BitVec 2
  | .join => 0
  | .beacon => 0
  | .depart => 0
  | .grant => 1
  | .claim => 2
  | .query => 2

/-- R128: GRANT, CLAIM and QUERY are the lock engine's frames. They are also the frames that have an
answer field (R114). -/
def FrameKind.isLock : FrameKind → Bool
  | .join => false
  | .beacon => false
  | .depart => false
  | .grant => true
  | .claim => true
  | .query => true

/-- The two bytes of a 16-bit field, most significant first. -/
def bytes16 (x : BitVec 16) : List Byte := [x.extractLsb' 8 8, x.extractLsb' 0 8]

/-- The three bytes of a resource identifier, most significant first. -/
def bytes24 (x : BitVec 24) : List Byte := [x.extractLsb' 16 8, x.extractLsb' 8 8, x.extractLsb' 0 8]

/-- Two and three bytes as one field, most significant first. -/
def join16 (hi lo : Byte) : BitVec 16 := hi ++ lo
def join24 (hi mid lo : Byte) : BitVec 24 := hi ++ mid ++ lo

def contextBits (c : Context) : BitVec 3 := BitVec.ofNat 3 c.val

/-- R187: the CLAIM flags byte. -/
def claimFlags (context : Context) (probe nowait : Bool) : Byte :=
  (0 : BitVec 3) ++ BitVec.ofBool probe ++ BitVec.ofBool nowait ++ contextBits context

/-- R187: the payload of each kind. -/
def FrameContent.payload : FrameContent → List Byte
  | .join tag digest => bytes16 tag ++ bytes16 digest
  | .beacon tag => bytes16 tag
  | .depart station tag => ((0 : BitVec 3) ++ station) :: bytes16 tag
  | .grant resource offered issue => bytes24 resource ++ bytes16 offered ++ bytes16 issue
  | .claim resource context none nowait => bytes24 resource ++ [claimFlags context false nowait]
  | .claim resource context (some t) nowait =>
      bytes24 resource ++ claimFlags context true nowait :: bytes16 t
  | .query resource => bytes24 resource

/-- R115: the payload bytes a station takes are as many as the length field says; what an operand leaves
out reads as the recessive line, 1 (log 22). -/
def payloadTaken (f : LinkFrame) : List Byte :=
  (List.range f.length.toNat).map (fun i => f.payload.getD i 0xFF)

/-- R115: the bits the check covers, in sending order. -/
def checkedBits (f : LinkFrame) : List Bool :=
  bitsOf f.cls ++ bitsOf f.sender ++ bitsOf f.kind ++ bitsOf f.length ++ (payloadTaken f).flatMap bitsOf

/-- R115: the check computed over the bits sampled. -/
def computedCheck (f : LinkFrame) : Digest := crc (checkedBits f)

/-- R113 to R115, R187: the frame a sender sends for a content. -/
def linkFrame (sender : StationNo) (c : FrameContent) : LinkFrame :=
  let f : LinkFrame :=
    { cls := c.kind.cls, sender := sender, kind := c.kind.code,
      length := BitVec.ofNat 4 c.payload.length, payload := c.payload, check := 0 }
  { f with check := computedCheck f }

/-- R187: what a CLAIM's flags byte says of its reserved bits, probe flag, nowait flag and context. -/
def flagsReserved (flags : Byte) : BitVec 3 := flags.extractLsb' 5 3
def flagsProbe (flags : Byte) : Bool := flags.getLsbD 4
def flagsNowait (flags : Byte) : Bool := flags.getLsbD 3
def flagsContext (flags : Byte) : Context :=
  ⟨(flags.extractLsb' 0 3).toNat, (flags.extractLsb' 0 3).isLt⟩

/-- R114, R187: the content a kind code and payload bytes spell, with the reserved bits, the tags and the
lengths that R116 demands; none where R116 has the frame vetoed for one of them. -/
def parsePayload (kind : BitVec 3) (p : List Byte) : Option FrameContent :=
  if kind = 0 then
    match p with
    | [t1, t0, d1, d0] => if join16 t1 t0 = 0 then none else some (.join (join16 t1 t0) (join16 d1 d0))
    | _ => none
  else if kind = 1 then
    match p with
    | [t1, t0] => if join16 t1 t0 = 0 then none else some (.beacon (join16 t1 t0))
    | _ => none
  else if kind = 2 then
    match p with
    | [st, t1, t0] =>
        if st.extractLsb' 5 3 = 0 then some (.depart (st.extractLsb' 0 5) (join16 t1 t0)) else none
    | _ => none
  else if kind = 3 then
    match p with
    | [r2, r1, r0, o1, o0, i1, i0] => some (.grant (join24 r2 r1 r0) (join16 o1 o0) (join16 i1 i0))
    | _ => none
  else if kind = 4 then
    match p with
    | [r2, r1, r0, fl] =>
        if flagsReserved fl = 0 ∧ flagsProbe fl = false then
          some (.claim (join24 r2 r1 r0) (flagsContext fl) none (flagsNowait fl))
        else none
    | [r2, r1, r0, fl, t1, t0] =>
        if flagsReserved fl = 0 ∧ flagsProbe fl = true then
          some (.claim (join24 r2 r1 r0) (flagsContext fl) (some (join16 t1 t0)) (flagsNowait fl))
        else none
    | _ => none
  else if kind = 5 then
    match p with
    | [r2, r1, r0] => some (.query (join24 r2 r1 r0))
    | _ => none
  else none

/-- R116: what a frame says when no condition of R116 but the check and the digest condition vetoes it:
kind, length, class, reserved bits, station number and tag. -/
def frameContent (f : LinkFrame) : Option FrameContent :=
  match parsePayload f.kind (payloadTaken f) with
  | some c => if f.cls = c.kind.cls ∧ f.sender ≠ 0 then some c else none
  | none => none

/-- R116: whether a station drives the veto slot of a frame it has sampled: `digest` is its own group
digest where it is MEMBER, none elsewhere. -/
def frameVetoed (f : LinkFrame) (digest : Option Digest) : Bool :=
  if f.check = computedCheck f then
    match frameContent f, digest with
    | none, _ => true
    | some (.join _ d), some own => decide (d ≠ own)
    | some _, _ => false
  else true

/-! ### Answers (R120, R121, R187) -/

/-- R121: a decoded answer with its station and value fields. -/
inductive AnswerCode
  | held
  | requeued
  | full
  | taken
  | holder
  | busy
  deriving DecidableEq, Repr

inductive Answer
  | none
  | damaged
  | code (code : AnswerCode) (station : StationNo) (value : BitVec 16)
  deriving DecidableEq, Repr

def AnswerCode.bits : AnswerCode → BitVec 3
  | .held => 0
  | .requeued => 1
  | .full => 2
  | .taken => 3
  | .holder => 4
  | .busy => 5

/-- R121: 110 is not used, and 111 is no code. -/
def answerCode (b : BitVec 3) : Option AnswerCode :=
  if b = 0 then some .held
  else if b = 1 then some .requeued
  else if b = 2 then some .full
  else if b = 3 then some .taken
  else if b = 4 then some .holder
  else if b = 5 then some .busy
  else Option.none

/-- R121: the codes allowed for a frame's kind. -/
def AnswerCode.allowed : AnswerCode → FrameKind → Bool
  | .held, .claim => true
  | .requeued, .claim => true
  | .full, .claim => true
  | .busy, .claim => true
  | .taken, .grant => true
  | .holder, .query => true
  | _, _ => false

/-- R121: the inverse of the exclusive OR of the six 4-bit groups of code, station and value. -/
def answerCheck (x : BitVec 24) : BitVec 4 :=
  ~~~(x.extractLsb' 20 4 ^^^ x.extractLsb' 16 4 ^^^ x.extractLsb' 12 4 ^^^ x.extractLsb' 8 4
    ^^^ x.extractLsb' 4 4 ^^^ x.extractLsb' 0 4)

/-- R120: the 28 bits of an answer in sending order, bit 27 sent first. -/
def answerBits (code : AnswerCode) (station : StationNo) (value : BitVec 16) : BitVec 28 :=
  (code.bits ++ station ++ value) ++ answerCheck (code.bits ++ station ++ value)

/-- R121: the answer field as sampled, decoded for a frame of a kind. -/
def decodeAnswer (kind : FrameKind) (field : BitVec 28) : Answer :=
  if field = BitVec.allOnes 28 then .none
  else
    let fields : BitVec 24 := field.extractLsb' 4 24
    if field.extractLsb' 0 4 = answerCheck fields then
      match answerCode (fields.extractLsb' 21 3) with
      | some c =>
          if c.allowed kind then .code c (fields.extractLsb' 16 5) (fields.extractLsb' 0 16)
          else .damaged
      | Option.none => .damaged
    else .damaged

/-! ### The configuration area (R186) -/

/-- The high and the low byte of a 16-bit field, written alone. -/
def setHigh (x : BitVec 16) (b : Byte) : BitVec 16 := b ++ x.extractLsb' 0 8
def setLow (x : BitVec 16) (b : Byte) : BitVec 16 := x.extractLsb' 8 8 ++ b

/-- R167, R186: a byte written at an address of the configuration area. -/
def ConfigRecord.write (c : ConfigRecord) (offset : Fin 19) (b : Byte) : ConfigRecord :=
  if offset = 0 then { c with stationNumber := b }
  else if offset = 1 then { c with bitTimeCode := b }
  else if offset = 2 then { c with beaconInterval := b }
  else if offset = 3 then { c with presenceMultiple := b }
  else if offset = 4 then { c with probeInterval := b }
  else if offset = 5 then { c with spanLimit := b }
  else if offset = 6 then { c with policyVector := setHigh c.policyVector b }
  else if offset = 7 then { c with policyVector := setLow c.policyVector b }
  else if offset = 8 then { c with contextClasses := setHigh c.contextClasses b }
  else if offset = 9 then { c with contextClasses := setLow c.contextClasses b }
  else if h : 10 ≤ offset.val ∧ offset.val < 18 then
    { c with holdLimits := c.holdLimits.set (offset.val - 10) b (by omega) }
  else { c with interruptEnable := b.getLsbD 0 }

/-- R186: the byte read at an address of the configuration area. -/
def ConfigRecord.read (c : ConfigRecord) (offset : Fin 19) : Byte :=
  if offset = 0 then c.stationNumber
  else if offset = 1 then c.bitTimeCode
  else if offset = 2 then c.beaconInterval
  else if offset = 3 then c.presenceMultiple
  else if offset = 4 then c.probeInterval
  else if offset = 5 then c.spanLimit
  else if offset = 6 then c.policyVector.extractLsb' 8 8
  else if offset = 7 then c.policyVector.extractLsb' 0 8
  else if offset = 8 then c.contextClasses.extractLsb' 8 8
  else if offset = 9 then c.contextClasses.extractLsb' 0 8
  else if h : 10 ≤ offset.val ∧ offset.val < 18 then c.holdLimits[offset.val - 10]'(by omega)
  else (BitVec.ofBool c.interruptEnable).setWidth 8

/-- Whether a byte's value lies in a range. -/
def within (low high : Nat) (b : Byte) : Bool := decide (low ≤ b.toNat) && decide (b.toNat ≤ high)

/-- R169, R186: every field in its range. The policy vector, the context classes and interrupt enable
cannot be out of range at their widths. -/
def ConfigRecord.inRange (c : ConfigRecord) : Bool :=
  within 1 31 c.stationNumber && within 0 5 c.bitTimeCode && within 2 250 c.beaconInterval
    && within 3 15 c.presenceMultiple && within 1 255 c.probeInterval && within 1 48 c.spanLimit
    && c.holdLimits.toList.all (within 1 32)

/-- R8, R186: the class of a context. -/
def ConfigRecord.classOf (c : ConfigRecord) (context : Context) : Nat :=
  (c.contextClasses.extractLsb' (2 * context.val) 2).toNat

/-- R10: bit (class of context) × 4 + (class of resource) of the policy vector. -/
def ConfigRecord.permits (c : ConfigRecord) (context : Context) (resource : Resource) : Bool :=
  c.policyVector.getLsbD (c.classOf context * 4 + (resource.extractLsb' 22 2).toNat)

/-! ### The slot record (R184, R185) -/

/-- The bytes of a 24-bit field, most significant first, written one by one. -/
def setByte24 (x : BitVec 24) (i : Nat) (b : Byte) : BitVec 24 :=
  if i = 0 then b ++ x.extractLsb' 0 16
  else if i = 1 then x.extractLsb' 16 8 ++ b ++ x.extractLsb' 0 8
  else x.extractLsb' 8 16 ++ b

/-- R184: one byte into the request part; the other offsets are read-only and the byte is ignored. -/
def Slot.writeByte (sl : Slot) (w : Fin 16 × Byte) : Slot :=
  let o := w.1.val
  let b := w.2
  if o = 2 then
    { sl with kind := b.extractLsb' 5 3, notify := b.getLsbD 4, context := b.extractLsb' 0 4 }
  else if o = 3 then { sl with policy := b.extractLsb' 0 2 }
  else if o = 4 then { sl with resource := setByte24 sl.resource 0 b }
  else if o = 5 then { sl with resource := setByte24 sl.resource 1 b }
  else if o = 6 then { sl with resource := setByte24 sl.resource 2 b }
  else if o = 7 then { sl with target := b }
  else if o = 8 then { sl with waitLimit := setHigh sl.waitLimit b }
  else if o = 9 then { sl with waitLimit := setLow sl.waitLimit b }
  else sl

/-- R184: the offsets of the request part, and of the request word in it. -/
def isRequestOffset (o : Fin 16) : Bool := decide (2 ≤ o.val) && decide (o.val < 10)
def isWordOffset (o : Fin 16) : Bool := decide (o.val = 2) || decide (o.val = 3)

/-- R185: the number of a completion code. -/
def Code.number : Code → Byte
  | .granted => 1
  | .reentered => 2
  | .released => 3
  | .busy => 4
  | .timedOut => 5
  | .cancelled => 6
  | .policy => 7
  | .limit => 8
  | .tableFull => 9
  | .countLimit => 10
  | .duplicate => 11
  | .notHolder => 12
  | .lost => 13
  | .linkFail => 14
  | .fenced => 15
  | .offline => 16
  | .unfilled => 17
  | .malformed => 18
  | .answered => 19
  | .unowned => 20
  | .damaged => 21
  | .accepted => 22
  | .notPending => 23

/-- R181, R184: a slot state's number. -/
def SlotState.number : SlotState → Byte
  | .empty => 0
  | .filled => 1
  | .pending => 2
  | .done => 3

/-- A station number in the low bits of a byte. -/
def stationByte (st : StationNo) : Byte := st.setWidth 8

/-- A context in the low bits of a byte (R153). -/
def contextByte (c : Context) : Byte := (contextBits c).setWidth 8

/-- R184: the byte at an offset of a slot record; an absent field reads 0 (R141). -/
def Slot.read (sl : Slot) (offset : Fin 16) : Byte :=
  let o := offset.val
  if o = 0 then sl.state.number
  else if o = 1 then (sl.result.code.map Code.number).getD 0
  else if o = 2 then sl.kind ++ BitVec.ofBool sl.notify ++ sl.context
  else if o = 3 then sl.policy.setWidth 8
  else if o = 4 then sl.resource.extractLsb' 16 8
  else if o = 5 then sl.resource.extractLsb' 8 8
  else if o = 6 then sl.resource.extractLsb' 0 8
  else if o = 7 then sl.target
  else if o = 8 then sl.waitLimit.extractLsb' 8 8
  else if o = 9 then sl.waitLimit.extractLsb' 0 8
  else if o = 10 then sl.result.count.getD 0
  else if o = 11 then (sl.result.station.map stationByte).getD 0
  else if o = 12 then sl.result.context.getD 0
  else if o = 13 then sl.result.span.getD 0
  else 0

/-! ### The notice record (R183) -/

def FenceCause.number : FenceCause → Byte
  | .silence => 1
  | .departed => 2
  | .sync => 3

def DownCause.number : DownCause → Byte
  | .heard => 1
  | .timeout => 2

/-- R183: bytes 0 to 10 of the record; a field the kind does not carry reads 0. -/
def noticeHead (kind station : Byte) (resource : Resource) (context slot code : Byte)
    (value : BitVec 16) : List Byte :=
  kind :: station :: (bytes24 resource ++ context :: slot :: code :: (bytes16 value ++ [0]))

def NoticeBody.head : NoticeBody → List Byte
  | .completed slot code => noticeHead 1 0 0 0 (BitVec.ofNat 8 slot.val) code.number 0
  | .wanted resource context span => noticeHead 2 0 resource (contextByte context) 0 0 span
  | .fenced cause lostCount => noticeHead 3 0 0 0 0 cause.number (BitVec.ofNat 16 lostCount)
  | .joined station => noticeHead 4 (stationByte station) 0 0 0 0 0
  | .joinFailed => noticeHead 5 0 0 0 0 0 0
  | .left => noticeHead 6 0 0 0 0 0 0
  | .peerUp station => noticeHead 7 (stationByte station) 0 0 0 0 0
  | .peerDown station cause => noticeHead 8 (stationByte station) 0 0 0 cause.number 0
  | .peerRejoined station => noticeHead 9 (stationByte station) 0 0 0 0 0

/-- R183: the twelve bytes of a record, the mark in bit 0 of the last. -/
def Notice.bytes (n : Notice) : List Byte := n.body.head ++ [(BitVec.ofBool n.mark).setWidth 8]

/-- R163: a NONE record reads 0 in all twelve bytes. -/
def popBytes (n : Option Notice) : List Byte := (n.map Notice.bytes).getD (List.replicate 12 0)

end Sys2Proof.Machine
end

