-- ==== Sys2Proof/Machine/Ops.lean ====
section
/-! DEFINITION. The named operations over each block's state: configuration reads, notices, slots and
completions, lock entries, the outbound queue and the want list, member records. Every reader and writer
of a block goes through these. -/

namespace Sys2Proof.Machine

open Sys2Proof

/-! ### Reads of the accepted configuration record (R166) -/

/-- This station's own number. -/
def State.own (s : State) : StationNo := s.config.stationNumber.setWidth 5

def State.spanLimit (s : State) : Nat := s.config.spanLimit.toNat

/-- R166: the probe interval is in units of 10 ms. -/
def State.probeInterval (s : State) : Timer := s.config.probeInterval.toNat * 10000

def State.beaconInterval (s : State) : Timer := s.config.beaconInterval.toNat * 1000

/-- R97: the presence timeout is M × the beacon interval. -/
def State.presenceTimeout (s : State) : Timer :=
  s.config.presenceMultiple.toNat * s.beaconInterval

/-- R102: the fence time is (M − 2) × the beacon interval. -/
def State.fenceTime (s : State) : Timer :=
  (s.config.presenceMultiple.toNat - 2) * s.beaconInterval

/-- R108: T in quarter microseconds: codes 0 to 5 give 2, 4, 8, 16, 32 or 64 µs. -/
def State.bitTime (s : State) : Nat := 4 * 2 ^ (s.config.bitTimeCode.toNat + 1)

/-- R9. -/
def State.holdLimit (s : State) (c : Context) : Nat := (s.config.holdLimits[c]).toNat

/-- R116: the digest a station compares a JOIN's with, at a station that is MEMBER. -/
def State.vetoDigest (s : State) : Option Digest :=
  if s.member.station = .member then s.config.digest else none

/-! ### Notice queue (R161, R162) -/

/-- R161, R162: a notice enters at the tail, with the mark if the overflow flag is set, which it clears;
or the queue is full, the notice is dropped and the flag is set. -/
def State.enterNotice (s : State) (b : NoticeBody) : State :=
  if s.notices.records.length < Config.notices then
    s.withNotices { records := s.notices.records ++ [⟨b, s.notices.overflow⟩], overflow := false }
  else s.withNotices { s.notices with overflow := true }

/-! ### Slots (R141, R152) -/

def State.slot (s : State) (i : SlotIx) : Slot := s.ring.slots[i]

def State.setSlot (s : State) (i : SlotIx) (sl : Slot) : State :=
  s.withRing { s.ring with slots := s.ring.slots.set i.val sl i.isLt }

/-- A result with a code and no field. -/
def SlotResult.bare (c : Code) : SlotResult := ⟨some c, none, none, none, none⟩

/-- A result with a code and a reentry count. -/
def SlotResult.counted (c : Code) (n : Byte) : SlotResult := ⟨some c, some n, none, none, none⟩

/-- R153: the result of a request that finds this station holding. -/
def State.heldResult (s : State) (c : Code) (count : Option Byte) (context : Byte) (span : Ticket) :
    SlotResult :=
  ⟨some c, count, some s.own, some context, some (span.setWidth 8)⟩

/-- R152: a completion is written, with its COMPLETED notice where the slot asks for one, and ends the
stall of a ring stalled on this slot (R148). -/
def State.complete (s : State) (i : SlotIx) (c : Code) (r : SlotResult) : State :=
  let s₁ := (s.setSlot i { s.slot i with state := .done, result := { r with code := some c } })
  let s₂ := s₁.withRing { s₁.ring with stalled := s.ring.stalled && decide (i ≠ s.ring.current) }
  if (s.slot i).notify then s₂.enterNotice (.completed i c) else s₂

/-- A completion with no result field. -/
def State.completeBare (s : State) (i : SlotIx) (c : Code) : State := s.complete i c (.bare c)

/-- R152: the station field of a PENDING slot. -/
def State.setSlotStation (s : State) (i : SlotIx) (st : Option StationNo) : State :=
  s.setSlot i { s.slot i with result := { (s.slot i).result with station := st } }

/-! ### Lock entries (R1, R2) -/

/-- R12, R23: what an entry in DEFERRED, CLAIMING or WAITING keeps across those states. -/
structure Claimant where
  id       : Nat
  resource : Resource
  context  : Context
  slot     : SlotIx
  policy   : WaitPolicy
  deadline : Option Timer
  deriving DecidableEq, Repr

/-- R2: a WAITING entry's policy is LIMITED when its deadline is present and WAIT otherwise. -/
def waitingPolicy (deadline : Option Timer) : WaitPolicy :=
  if deadline.isSome then .limited else .wait

/-- The claimant of an entry in DEFERRED, CLAIMING or WAITING; none in the other states. -/
def LockEntry.claimant (e : LockEntry) : Option Claimant :=
  match e.state with
  | .deferred c sl p d => some ⟨e.id, e.resource, c, sl, p, d⟩
  | .claiming c sl p d _ => some ⟨e.id, e.resource, c, sl, p, d⟩
  | .waiting c sl _ _ _ d _ => some ⟨e.id, e.resource, c, sl, waitingPolicy d, d⟩
  | .holding _ _ _ _ _ => none
  | .handing _ _ _ _ => none
  | .lost _ _ => none

/-- R2: an entry carries a context in every state except HANDING. -/
def LockEntry.context (e : LockEntry) : Option Context :=
  match e.state with
  | .deferred c _ _ _ => some c
  | .claiming c _ _ _ _ => some c
  | .waiting c _ _ _ _ _ _ => some c
  | .holding c _ _ _ _ => some c
  | .handing _ _ _ _ => none
  | .lost c _ => some c

/-- R12: the slot an entry names. -/
def LockEntry.slot (e : LockEntry) : Option SlotIx := e.claimant.map Claimant.slot

/-- R3: a HOLDING or HANDING entry is the resource's holder entry. -/
def LockEntry.isHolder (e : LockEntry) : Bool :=
  match e.state with
  | .holding _ _ _ _ _ => true
  | .handing _ _ _ _ => true
  | _ => false

def LockEntry.isLost (e : LockEntry) : Bool :=
  match e.state with
  | .lost _ _ => true
  | _ => false

/-- R23: a CLAIMING entry counts whether or not it is in retry pending. -/
def LockEntry.isClaiming (e : LockEntry) : Bool :=
  match e.state with
  | .claiming _ _ _ _ _ => true
  | _ => false

def LockEntry.isDeferred (e : LockEntry) : Bool :=
  match e.state with
  | .deferred _ _ _ _ => true
  | _ => false

/-- R9: DEFERRED, CLAIMING, WAITING and HOLDING count against the context's hold limit. -/
def LockEntry.isCounted (e : LockEntry) : Bool :=
  match e.state with
  | .deferred _ _ _ _ => true
  | .claiming _ _ _ _ _ => true
  | .waiting _ _ _ _ _ _ _ => true
  | .holding _ _ _ _ _ => true
  | .handing _ _ _ _ => false
  | .lost _ _ => false

/-- The tickets of a holder entry (R5); 0 for an entry that holds none. -/
def LockEntry.serve (e : LockEntry) : Ticket :=
  match e.state with
  | .holding _ _ serve _ _ => serve
  | .handing serve _ _ _ => serve
  | _ => 0

def LockEntry.issue (e : LockEntry) : Ticket :=
  match e.state with
  | .holding _ _ _ issue _ => issue
  | .handing _ issue _ _ => issue
  | _ => 0

/-- R5: the span of a holder entry. -/
def LockEntry.span (e : LockEntry) : Ticket := spanOf e.serve e.issue

/-- R26, R48: the holding context, or 0xFF while the entry is HANDING. -/
def LockEntry.contextByte (e : LockEntry) : Byte :=
  match e.context with
  | some c => Machine.contextByte c
  | none => 0xFF

/-- The kept reentry count of a LOST entry, or the count of a HOLDING one. -/
def LockEntry.count (e : LockEntry) : Byte :=
  match e.state with
  | .holding _ n _ _ _ => n
  | .lost _ n => n
  | _ => 0

/-- R68: a WAITING entry whose holder station is not this station. -/
def LockEntry.isRemoteWaiter (e : LockEntry) (own : StationNo) : Bool :=
  match e.state with
  | .waiting _ _ _ holder _ _ _ => decide (holder ≠ own)
  | _ => false

def State.entry (s : State) (id : Nat) : Option LockEntry :=
  s.lock.entries.find? (fun e => decide (e.id = id))

/-- R21: the entry that carries a context and names a resource; at most one (R3). -/
def State.entryOf (s : State) (c : Context) (r : Resource) : Option LockEntry :=
  s.lock.entries.find? (fun e => decide (e.resource = r) && decide (e.context = some c))

/-- R23, R42: the holder entry of a resource at this station; at most one (R3). -/
def State.holderOf (s : State) (r : Resource) : Option LockEntry :=
  s.lock.entries.find? (fun e => decide (e.resource = r) && e.isHolder)

/-- The entry that names a slot (R12). -/
def State.entryAt (s : State) (i : SlotIx) : Option LockEntry :=
  s.lock.entries.find? (fun e => decide (e.slot = some i))

def State.queryAt (s : State) (i : SlotIx) : Option PendingQuery :=
  s.lock.queries.find? (fun q => decide (q.slot = i))

def State.query (s : State) (id : Nat) : Option PendingQuery :=
  s.lock.queries.find? (fun q => decide (q.id = id))

def State.withEntries (s : State) (l : List LockEntry) : State := s.withLock { s.lock with entries := l }
def State.withQueries (s : State) (l : List PendingQuery) : State := s.withLock { s.lock with queries := l }
def State.withWants (s : State) (l : List Owner) : State := s.withLock { s.lock with wants := l }

/-- An entry takes a new state; its resource, its place and what is held against it stay. -/
def State.setEntry (s : State) (id : Nat) (st : EntryState) : State :=
  s.withEntries (s.lock.entries.map (fun e => if e.id = id then { e with state := st } else e))

/-- R39: an action is held against an entry, after those that arrived before. -/
def State.holdAction (s : State) (id : Nat) (a : HeldAction) : State :=
  s.withEntries (s.lock.entries.map (fun e => if e.id = id then { e with held := e.held ++ [a] } else e))

/-- R39: what was held has been applied. -/
def State.clearHeld (s : State) (id : Nat) : State :=
  s.withEntries (s.lock.entries.map (fun e => if e.id = id then { e with held := [] } else e))

/-- An entry is taken into use, or the one it re-evaluates takes its new state (R23). -/
def State.putEntry (s : State) (c : Claimant) (st : EntryState) : State :=
  if s.lock.entries.any (fun e => decide (e.id = c.id)) then s.setEntry c.id st
  else s.withEntries (s.lock.entries ++ [⟨c.id, c.resource, st, []⟩])

def State.dropEntry (s : State) (id : Nat) : State :=
  s.withEntries (s.lock.entries.filter (fun e => decide (e.id ≠ id)))

def State.dropQuery (s : State) (id : Nat) : State :=
  s.withQueries (s.lock.queries.filter (fun q => decide (q.id ≠ id)))

/-- R9: a context's entries that count against its hold limit. -/
def State.countedEntries (s : State) (c : Context) : Nat :=
  s.lock.entries.countP (fun e => e.isCounted && decide (e.context = some c))

/-- R188: the entries in LOST. -/
def State.lostEntries (s : State) : Nat := s.lock.entries.countP LockEntry.isLost

/-- R23: a CLAIMING entry for the resource other than the one evaluated. -/
def State.claimInFlight (s : State) (r : Resource) (id : Nat) : Bool :=
  s.lock.entries.any (fun e => decide (e.resource = r) && e.isClaiming && decide (e.id ≠ id))

/-! ### Outbound queue (R127 to R135) and want list (R14, R15) -/

/-- The age of the own frame that is on the link (R131). -/
def LinkState.ownAge : LinkState → Option Nat
  | .arbitrating o => some o.age
  | .sending o => some o.age
  | .sendingAnswer o => some o.age
  | _ => none

/-- R131: a frame is on the link from the arbitration start that takes it to the end of the attempt. -/
def State.onLink (s : State) (f : FrameRecord) : Bool := decide (s.link.state.ownAge = some f.age)

def State.withFrames (s : State) (l : List FrameRecord) : State := s.withQueue { s.queue with frames := l }

/-- R128: the lock engine's frames in the queue. -/
def State.lockFrames (s : State) : Nat := s.queue.frames.countP (fun f => f.kind.isLock)

/-- R129: a frame is placed with the next age, attempt count 0 and the withdrawn mark clear. -/
def State.placeFrame (s : State) (kind : FrameKind) (owner : FrameOwner) (payload : Option FrameContent) :
    State :=
  s.withQueue
    { frames := s.queue.frames ++ [⟨kind, owner, s.queue.nextAge, 0, payload, false⟩]
      nextAge := s.queue.nextAge + 1 }

/-- R14: the frame an owner wants. -/
def State.wantedKind (s : State) : Owner → FrameKind
  | .query _ => .query
  | .entry id =>
    match s.entry id with
    | some e =>
      match e.state with
      | .handing _ _ _ _ => .grant
      | _ => .claim
    | none => .claim

def State.placeLock (s : State) (o : Owner) : State := s.placeFrame (s.wantedKind o) (.lock o) none

def State.hasFrame (s : State) (o : Owner) : Bool :=
  s.queue.frames.any (fun f => decide (f.owner = .lock o))

/-- R14: a want arises: the owner's present want or frame stands; otherwise it is admitted at once while
fewer than six lock-engine frames are queued, or joins the tail of the list. -/
def State.raiseWant (s : State) (o : Owner) : State :=
  if s.lock.wants.contains o || s.hasFrame o then s
  else if s.lockFrames < Config.lockPlaces then s.placeLock o
  else s.withWants (s.lock.wants ++ [o])

/-- R15, R135: at a freed place the oldest want is admitted and leaves the list. -/
def State.admitWant (s : State) : State :=
  match s.lock.wants with
  | [] => s
  | o :: rest => if s.lockFrames < Config.lockPlaces then (s.withWants rest).placeLock o else s

/-- R127, R135: a frame leaves the queue; a freed lock-engine place admits the oldest want. -/
def State.removeFrame (s : State) (f : FrameRecord) : State :=
  let s₁ := s.withFrames (s.queue.frames.filter (fun g => decide (g.age ≠ f.age)))
  if f.kind.isLock then s₁.admitWant else s₁

def State.updateFrame (s : State) (age : Nat) (g : FrameRecord → FrameRecord) : State :=
  s.withFrames (s.queue.frames.map (fun f => if f.age = age then g f else f))

/-- R133, R134: withdrawal: a frame not on the link leaves at once; one on the link is marked. -/
def State.withdrawFrame (s : State) (f : FrameRecord) : State :=
  if s.onLink f then s.updateFrame f.age (fun g => { g with withdrawn := true }) else s.removeFrame f

/-- R15: an owner's want is taken out of the list, or its frame withdrawn. -/
def State.withdrawOwner (s : State) (o : Owner) : State :=
  let s₁ := s.withWants (s.lock.wants.filter (fun w => decide (w ≠ o)))
  match s₁.queue.frames.find? (fun f => decide (f.owner = .lock o)) with
  | some f => s₁.withdrawFrame f
  | none => s₁

/-- R39: whether an owner's frame is on the link. -/
def State.ownerOnLink (s : State) (o : Owner) : Bool :=
  s.queue.frames.any (fun f => decide (f.owner = .lock o) && s.onLink f)

/-- R1: an entry is freed: its fields and timers go, its want is removed and its frame withdrawn. -/
def State.freeEntry (s : State) (id : Nat) : State := (s.dropEntry id).withdrawOwner (.entry id)

/-- A pending QUERY is discarded with its want or frame (R15, R40). -/
def State.freeQuery (s : State) (id : Nat) : State := (s.dropQuery id).withdrawOwner (.query id)

/-! ### Membership frames in the queue (R98, R128, R129) -/

/-- The station a DEPART in the queue names. -/
def FrameRecord.departNamed (f : FrameRecord) : Option StationNo :=
  match f.kind, f.payload with
  | .depart, some (.depart x _) => some x
  | _, _ => none

/-- Whether a frame is a DEPART naming another station. -/
def FrameRecord.departsOther (own : StationNo) (f : FrameRecord) : Bool :=
  match f.departNamed with
  | some x => decide (x ≠ own)
  | none => false

/-- R129: whether a membership frame in the queue makes the queue refuse a new one. -/
def memberConflict (own : StationNo) (present new : FrameContent) : Bool :=
  match present, new with
  | .join _ _, .join _ _ => true
  | .beacon _, .beacon _ => true
  | .depart a _, .depart b _ => decide (a = b) || (decide (a ≠ own) && decide (b ≠ own))
  | _, _ => false

/-- R129: a membership frame is placed unless it would break a limit; then the one there stands. -/
def State.placeMember (s : State) (c : FrameContent) : State :=
  if s.queue.frames.any (fun f =>
      match f.payload with
      | some p => memberConflict s.own p c
      | none => false)
  then s
  else s.placeFrame c.kind .membership (some c)

def State.withDeparts (s : State) (l : List (StationNo × Tag)) : State :=
  s.withMember { s.member with departs := l }

/-- R98: when no DEPART of another station is queued, the oldest pending one enters the queue. -/
def State.fillDepart (s : State) : State :=
  match s.member.departs with
  | [] => s
  | (x, t) :: rest =>
    if s.queue.frames.any (FrameRecord.departsOther s.own) then s
    else (s.withDeparts rest).placeMember (.depart x t)

/-- R98: a DEPART for another station is wanted: it enters the queue or joins the pending list, which
holds at most one per station. -/
def State.wantDepart (s : State) (x : StationNo) (t : Tag) : State :=
  if s.queue.frames.any (FrameRecord.departsOther s.own) then
    if s.member.departs.any (fun d => decide (d.1 = x)) then s
    else s.withDeparts (s.member.departs ++ [(x, t)])
  else s.placeMember (.depart x t)

/-- A queued DEPART naming x that is not on the link (R98). -/
def State.queuedDepart (s : State) (x : StationNo) : Option FrameRecord :=
  s.queue.frames.find? (fun f => !s.onLink f && decide (f.departNamed = some x))

/-- R93, R98: a DEPART for x that is pending, or queued and not on the link, is withdrawn. -/
def State.withdrawDepart (s : State) (x : StationNo) : State :=
  let s₁ := s.withDeparts (s.member.departs.filter (fun d => decide (d.1 ≠ x)))
  match s₁.queuedDepart x with
  | some f => (s₁.removeFrame f).fillDepart
  | none => s₁

/-! ### Member records (R91) -/

/-- The record of a station; number 0 has none and reads as UNKNOWN. -/
def State.record (s : State) (x : StationNo) : MemberRecord :=
  if h : x = 0 then .reset
  else s.member.records[x.toNat - 1]'(by have := x.isLt; omega)

def State.setRecord (s : State) (x : StationNo) (r : MemberRecord) : State :=
  if h : x = 0 then s
  else s.withMember
    { s.member with records := s.member.records.set (x.toNat - 1) r (by have := x.isLt; omega) }

/-- R97: a silence timer starts or restarts for one presence timeout. -/
def State.restartSilence (s : State) (x : StationNo) : State :=
  s.setRecord x { s.record x with silence := some s.presenceTimeout }

/-- R97, R98: a silence timer restarts if the record is PRESENT and the transceiver is not OFF. -/
def State.restartSilenceIfPresent (s : State) (x : StationNo) : State :=
  if (s.record x).state = .present ∧ s.link.state ≠ .off then s.restartSilence x else s

/-- R88: the silence timer of every other station whose record is PRESENT restarts. -/
def State.restartAllSilence (s : State) : State :=
  s.withMember
    { s.member with
      records := s.member.records.mapFinIdx (fun i r _ =>
        if r.state = .present ∧ i + 1 ≠ s.own.toNat then { r with silence := some s.presenceTimeout }
        else r) }

/-- R90, R107: every silence timer stops. -/
def State.stopAllSilence (s : State) : State :=
  s.withMember { s.member with records := s.member.records.map (fun r => { r with silence := none }) }

/-- R101, R102: the beacon and fence timers start or restart. -/
def State.startOwnTimers (s : State) : State :=
  s.withMember
    { s.member with beaconTimer := some s.beaconInterval, fenceTimer := some s.fenceTime }

/-- R104, R106: they stop. -/
def State.stopOwnTimers (s : State) : State :=
  s.withMember { s.member with beaconTimer := none, fenceTimer := none }

def State.setStation (s : State) (st : StationState) : State :=
  s.withMember { s.member with station := st }

/-! ### Link transceiver -/

def State.setLink (s : State) (st : LinkState) : State := s.withLink { s.link with state := st }

/-- R110: IDLE, LISTENING, ARBITRATING and SENDING are the synchronized states. -/
def LinkState.synchronized : LinkState → Bool
  | .off => false
  | .seeking => false
  | _ => true

/-- R111: the frame ends and the transceiver goes to IDLE, its idle count running from the frame's last
release; where the line is still dominant that release is to come, and nothing counts before it (log 43). -/
def State.linkIdle (s : State) (atEnd : LineAtEnd) : State :=
  s.withLink (match atEnd with
    | .released since => ⟨.idle, since, 0, .recessive⟩
    | .dominant => ⟨.idle, 0, 0, .tail⟩)

/-- R110, R126: the transceiver is sent to OFF; it drops the frame passing. R110 gives the idle count 0 after a
reset; that it is 0 in OFF also after REFUSED and the end of LEAVING is the model's choice (log 42). -/
def State.linkOff (s : State) : State := s.withLink ⟨.off, 0, 0, .recessive⟩

/-- R110, R124: to SEEKING with the recessive time at 0, as R124 has it at a loss of synchronization and R111 at a
pulse's release. That it starts at 0 too where START comes from OFF, with no pulse heard yet, is the model's choice
(log 42). -/
def State.linkSeeking (s : State) : State := s.withLink ⟨.seeking, 0, 0, .recessive⟩

end Sys2Proof.Machine
end

