-- ==== Sys2Proof/Machine/LockEngine.lean ====
section
/-! DEFINITION. The lock engine: ACQUIRE's step 7 and re-evaluation (R23 to R28), holding and handing on
(R47, R52 to R62), requests (R19 to R22, R40, R49, R50), outcomes of its frames (R30 to R35, R55 to R59,
R72 to R76), its answers (R42 to R48, R77, R78), followed GRANTs (R79), held actions (R39) and the
conversion at a fence or LEAVE (R17, R18). -/

namespace Sys2Proof.Machine

open Sys2Proof

/-! ### Tickets and holdings -/

/-- R46, R47: a holder entry hands out the value of its issue and raises it by 1; a HOLDING entry whose
span was 0 and whose want-noted flag was clear produces WANTED and sets the flag. -/
def State.issueTicket (s : State) (h : LockEntry) : State :=
  match h.state with
  | .holding c n serve issue noted =>
    let first := decide (spanOf serve issue = 0) && !noted
    let s₁ := s.setEntry h.id (.holding c n serve (issue + 1) (noted || first))
    if first then s₁.enterNotice (.wanted h.resource c (spanOf serve (issue + 1))) else s₁
  | .handing serve issue offered g => s.setEntry h.id (.handing serve (issue + 1) offered g)
  | _ => s

/-- R5, R7, R12, R47: an entry enters HOLDING with serve and issue; its want or queued frame goes, its
slot completes GRANTED, and a span above 0 produces WANTED. -/
def State.enterHolding (s : State) (e : LockEntry) (serve issue : Ticket) : State :=
  match e.claimant with
  | none => s
  | some c =>
    let span := spanOf serve issue
    let s₁ := (s.setEntry e.id (.holding c.context 1 serve issue (decide (span ≠ 0)))).withdrawOwner
      (.entry e.id)
    let s₂ := s₁.complete c.slot .granted
      (s.heldResult .granted (some 1) (contextByte c.context) span)
    if span ≠ 0 then s₂.enterNotice (.wanted e.resource c.context span) else s₂

/-- R14, R70: an immediate probe: the probe timer stops and a probe is wanted. -/
def State.immediateProbe (s : State) (e : LockEntry) : State :=
  match e.state with
  | .waiting c sl t holder epoch d _ =>
    (s.setEntry e.id (.waiting c sl t holder epoch d none)).raiseWant (.entry e.id)
  | _ => s

/-- R83: a raise of a station's epoch calls an immediate probe for every remote waiter on it. -/
def State.wakeWaiters (s : State) (x : StationNo) : State :=
  (s.lock.entries.filter (fun e => e.isRemoteWaiter s.own &&
    (match e.state with
      | .waiting _ _ _ holder _ _ _ => decide (holder = x)
      | _ => false))).foldl State.immediateProbe s

/-- R67: a WAITING entry whose holder station is x with x's current epoch. -/
def State.liveWaiter (s : State) (x : StationNo) (e : LockEntry) : Bool :=
  match e.state with
  | .waiting _ _ _ holder epoch _ _ => decide (holder = x) && decide (epoch = some (s.record x).epoch)
  | _ => false

/-! ### Step 7 of the ACQUIRE evaluation (R23) -/

/-- An entry in retry pending (R25, R34, R74). -/
def State.retryPending (s : State) (c : Claimant) : State :=
  (s.putEntry c (.claiming c.context c.slot c.policy c.deadline (some s.probeInterval))).setSlotStation
    c.slot none

/-- R23 to R29: step 7, for a new request or for an entry that is evaluated again. -/
def State.evaluate (s : State) (c : Claimant) : State :=
  match s.holderOf c.resource with
  | some h =>
    if c.policy = .nowait then
      (s.freeEntry c.id).complete c.slot .busy (s.heldResult .busy none h.contextByte h.span)
    else if h.span.toNat < s.spanLimit then
      ((s.putEntry c (.waiting c.context c.slot h.issue s.own none c.deadline none)).setSlotStation
        c.slot (some s.own)).issueTicket h
    else s.retryPending c
  | none =>
    if s.claimInFlight c.resource c.id then
      (s.putEntry c (.deferred c.context c.slot c.policy c.deadline)).setSlotStation c.slot none
    else
      ((s.putEntry c (.claiming c.context c.slot c.policy c.deadline none)).setSlotStation
        c.slot none).raiseWant (.entry c.id)

/-- R4, R23: an entry is evaluated again from step 7; its want is removed or its queued frame withdrawn. Where
its own frame is on the link, that frame is marked (R133, R134) and the evaluation waits for its end. -/
def State.reevaluate (s : State) (id : Nat) : State :=
  match s.entry id with
  | none => s
  | some e =>
    match e.claimant with
    | none => s
    | some c =>
      if s.ownerOnLink (.entry id) then s.withdrawOwner (.entry id)
      else (s.withdrawOwner (.entry id)).evaluate c

/-- R13, R28: every DEFERRED entry of the resource, oldest in taking order first. -/
def State.reevaluateDeferred (s : State) (r : Resource) : State :=
  (s.lock.entries.filter (fun e => decide (e.resource = r) && e.isDeferred)).foldl
    (fun s e => s.reevaluate e.id) s

/-! ### Under a new holder entry (R4, R68, R84) -/

/-- R4: the entries that look toward a remote station, and (R28) the DEFERRED ones. A CLAIMING entry in
retry pending is not changed (R37). -/
def LockEntry.looksElsewhere (own : StationNo) (e : LockEntry) : Bool :=
  match e.state with
  | .deferred _ _ _ _ => true
  | .claiming _ _ _ _ retry => retry.isNone
  | .waiting _ _ _ holder _ _ _ => decide (holder ≠ own)
  | .holding _ _ _ _ _ => false
  | .handing _ _ _ _ => false
  | .lost _ _ => false

/-- R4, R68: a remote waiter on the sender of the GRANT this station took becomes a local waiter: it
keeps its ticket, and its epoch, probe timer and want or queued probe go. -/
def State.becomeLocal (s : State) (e : LockEntry) : State :=
  match e.state with
  | .waiting c sl t _ _ d _ =>
    ((s.setEntry e.id (.waiting c sl t s.own none d none)).withdrawOwner (.entry e.id)).setSlotStation
      sl (some s.own)
  | _ => s

/-- R4: whether a waiter keeps its ticket under the new holder entry h, which took the GRANT of x: it
waits on x under x's current epoch and its ticket is in queue at h (log 10). -/
def State.keepsTicket (s : State) (x : Option StationNo) (h e : LockEntry) : Bool :=
  match x, e.state with
  | some x, .waiting _ _ t _ _ _ _ => s.liveWaiter x e && inQueue h.serve h.issue t
  | _, _ => false

/-- R4: the station's other entries for a resource are placed under its holder entry. `sender` is the
sender of the GRANT that the holder took, where it took one. Where that holding has been released before
its answer end and freed the resource, all of them are evaluated again from step 7 (log 29). -/
def State.placeOthers (s : State) (r : Resource) (sender : Option StationNo) : State :=
  let others := s.lock.entries.filter (fun e => decide (e.resource = r) && e.looksElsewhere s.own)
  match s.holderOf r with
  | none => others.foldl (fun s e => s.reevaluate e.id) s
  | some h =>
    let kept := others.filter (s.keepsTicket sender h)
    let rest := others.filter (fun e => !s.keepsTicket sender h e)
    rest.foldl (fun s e => s.reevaluate e.id) (kept.foldl State.becomeLocal s)

/-- R49: each pending QUERY for the resource that has no frame on the link is answered locally. The model's
choices: of several, the one taken earlier first (log 34); and none is answered where the holding that a GRANT
made has been released, with no holder entry left, before that GRANT's answer end (log 33). -/
def State.answerQueries (s : State) (r : Resource) : State :=
  match s.holderOf r with
  | none => s
  | some h =>
    (s.lock.queries.filter (fun q => decide (q.resource = r) && !s.ownerOnLink (.query q.id))).foldl
      (fun s q => (s.freeQuery q.id).complete q.slot .answered
        (s.heldResult .answered none h.contextByte h.span)) s

/-- R75 steps 3 and 5. For a fresh CLAIM answered NONE the rules give no order of the two: the model's choice
is that of R75 (log 32). -/
def State.settleHolder (s : State) (r : Resource) (sender : Option StationNo) : State :=
  (s.placeOthers r sender).answerQueries r

/-! ### Release, local handoff and the GRANT chain (R50 to R59) -/

/-- R4, R52: the sender of the GRANT now in its answer field to which an entry of this station has
committed TAKEN for the resource. -/
def State.grantTaken (s : State) (r : Resource) : Option StationNo :=
  match s.link.state with
  | .listeningAnswer f =>
    match f.content with
    | .grant r' _ _ => if r' = r ∧ f.committed.isSome then some f.sender else none
    | _ => none
  | _ => none

/-- R52: a local WAITING entry that holds a ticket: its holder station is this station's own number, or
R4 is to update it at the answer end of the GRANT just taken. Of two, the one taken earlier (log 11). -/
def State.localWaiter (s : State) (r : Resource) (ticket : Ticket) : Option LockEntry :=
  s.lock.entries.find? (fun e => decide (e.resource = r) &&
    (match e.state with
      | .waiting _ _ t holder _ _ _ => decide (t = ticket) &&
          (decide (holder = s.own) ||
            (match s.grantTaken r with
              | some x => s.liveWaiter x e
              | none => false))
      | _ => false))

/-- R53: local handoff from the holder entry h to the waiter w that holds ticket serve + 1. Where h's
holding came from a GRANT still in its answer field, R4 waits for that answer end (log 9). -/
def State.handoff (s : State) (h w : LockEntry) : State :=
  let s₁ := (s.freeEntry h.id).enterHolding w (h.serve + 1) h.issue
  if (s.grantTaken h.resource).isSome then s₁ else s₁.placeOthers h.resource none

/-- R52: the lock is released: freed at span 0, handed off locally, or HANDING (R54). -/
def State.releaseLock (s : State) (h : LockEntry) : State :=
  if h.span = 0 then s.freeEntry h.id
  else
    match s.localWaiter h.resource (h.serve + 1) with
    | some w => s.handoff h w
    | none =>
      (s.setEntry h.id (.handing h.serve h.issue (h.serve + 1) none)).raiseWant (.entry h.id)

/-- R55: a local waiter takes the taker of this station's GRANT as its holder; a ticket that is not in
queue there is probed at once. -/
def State.convertWaiter (s : State) (taker : StationNo) (offered issue : Ticket) (e : LockEntry) :
    State :=
  match e.state with
  | .waiting c sl t _ _ d _ =>
    let queued := decide ((t - offered).toNat < (issue - offered).toNat)
    let s₁ := (s.setEntry e.id (.waiting c sl t taker (some (s.record taker).epoch) d
      (if queued then some s.probeInterval else none))).setSlotStation sl (some taker)
    if queued then s₁ else s₁.raiseWant (.entry e.id)
  | _ => s

/-- R68: the station's local waiters for a resource, in taking order. -/
def State.localWaiters (s : State) (r : Resource) : List LockEntry :=
  s.lock.entries.filter (fun e => decide (e.resource = r) &&
    (match e.state with
      | .waiting _ _ _ holder _ _ _ => decide (holder = s.own)
      | _ => false))

/-- R55: this station's GRANT was taken. -/
def State.grantTakenBy (s : State) (e : LockEntry) (taker : StationNo) (offered issue : Ticket) :
    State :=
  (s.localWaiters e.resource).foldl (fun s w => s.convertWaiter taker offered issue w) (s.freeEntry e.id)

/-- R56, R57: the chain takes one step past the offered ticket. -/
def State.chainStep (s : State) (e : LockEntry) (issue offered : Ticket) : State :=
  if offered + 1 = issue then s.freeEntry e.id
  else
    let e₁ := { e with state := .handing offered issue (offered + 1) none }
    let s₁ := s.setEntry e.id e₁.state
    match s₁.localWaiter e.resource (offered + 1) with
    | some w => s₁.handoff e₁ w
    | none => s₁.raiseWant (.entry e.id)

/-- R58: a damaged answer to this station's GRANT: it gives up the resource. -/
def State.grantDamaged (s : State) (e : LockEntry) : State :=
  (s.localWaiters e.resource).foldl (fun s w => s.reevaluate w.id) (s.freeEntry e.id)

/-- R32, R73: a station field that names another station. -/
def State.validPeer (s : State) (st : StationNo) : Bool := decide (st ≠ 0) && decide (st ≠ s.own)

/-- R55, R79: a TAKEN's value: high byte 0 and a context byte of 7 or below. -/
def validTaker (value : BitVec 16) : Bool := decide (value.toNat ≤ 7)

/-- R55 to R58: the outcome of this station's GRANT at answer end, for the tickets the frame carried. An
outcome that finds no HANDING entry is discarded (R1). -/
def State.grantEnded (s : State) (id : Nat) (offered issue : Ticket) (a : Answer) : State :=
  match s.entry id with
  | none => s
  | some e =>
    match e.state with
    | .handing _ issue₀ offered₀ _ =>
      match a with
      | .none => s.chainStep e issue₀ offered₀
      | .code .taken st v =>
        if s.validPeer st && validTaker v then s.grantTakenBy e st offered issue else s.grantDamaged e
      | _ => s.grantDamaged e
    | _ => s

/-! ### The end of a wait, and held actions (R38 to R41) -/

/-- R38, R40: an entry in DEFERRED, CLAIMING or WAITING is freed and its slot completes; if it was
CLAIMING its DEFERRED siblings are evaluated again. -/
def State.endWait (s : State) (e : LockEntry) (code : Code) : State :=
  match e.claimant with
  | none => s
  | some c =>
    let s₁ := (s.freeEntry e.id).completeBare c.slot code
    if e.isClaiming then s₁.reevaluateDeferred e.resource else s₁

def HeldAction.code : HeldAction → Code
  | .deadline => .timedOut
  | .cancel => .cancelled

/-- R39: the held actions are applied to the entry as the outcome left it: the first one frees it if it
still waits, and the rest find nothing. -/
def State.applyHeld (s : State) (id : Nat) : State :=
  match s.entry id with
  | none => s
  | some e =>
    match e.held with
    | [] => s
    | a :: _ => if e.claimant.isSome then s.endWait e a.code else s.clearHeld id

/-- R40: a cancel held behind a QUERY acts if the query has not completed. -/
def State.applyHeldCancel (s : State) (id : Nat) : State :=
  match s.query id with
  | none => s
  | some q => if q.heldCancel then (s.freeQuery id).completeBare q.slot .cancelled else s

/-! ### Outcomes of CLAIM and QUERY frames (R30 to R35, R49, R72 to R76) -/

/-- R153: BUSY from the link. -/
def SlotResult.busyAt (st : StationNo) : SlotResult := ⟨some .busy, none, some st, none, none⟩

/-- R66: an entry becomes, or stays, a remote waiter with a ticket at a station. -/
def State.waitAt (s : State) (c : Claimant) (ticket : Ticket) (st : StationNo) : State :=
  (s.putEntry c (.waiting c.context c.slot ticket st (some (s.record st).epoch) c.deadline
    (some s.probeInterval))).setSlotStation c.slot (some st)

/-- R33: a NOWAIT claim is answered by a holder. -/
def State.claimBusy (s : State) (c : Claimant) (st : StationNo) : State :=
  (s.freeEntry c.id).complete c.slot .busy (.busyAt st)

/-- R31 to R34: a fresh CLAIM's answer, for its entry. -/
def State.freshOutcome (s : State) (e : LockEntry) (c : Claimant) (a : Answer) : State :=
  match a with
  | .none => s.enterHolding e 0 1
  | .damaged => s.retryPending c
  | .code code st v =>
    if s.validPeer st then
      match code with
      | .held => if c.policy = .nowait then s.claimBusy c st else s.waitAt c v st
      | .busy => if c.policy = .nowait then s.claimBusy c st else s.retryPending c
      | .full => if c.policy = .nowait then s.claimBusy c st else s.retryPending c
      | _ => s.retryPending c
    else s.retryPending c

/-- R69, R72, R76: a remote waiter stays as it is and its probe timer starts. -/
def State.restartProbe (s : State) (e : LockEntry) : State :=
  match e.state with
  | .waiting c sl t holder epoch d _ =>
    s.setEntry e.id (.waiting c sl t holder epoch d (some s.probeInterval))
  | _ => s

/-- R72: whether a HELD answer confirms the place of an entry that probed with ticket t. -/
def State.confirms (s : State) (e : LockEntry) (t : Ticket) (st : StationNo) (v : BitVec 16) : Bool :=
  s.liveWaiter st e && s.validPeer st && decide (v = t)

/-- R72 to R75: a probe's answer, for its entry; t is the ticket the probe carried. -/
def State.probeOutcome (s : State) (e : LockEntry) (c : Claimant) (t : Ticket) (a : Answer) : State :=
  match a with
  | .none => s.enterHolding e t (t + 1)
  | .code .held st v => if s.confirms e t st v then s.restartProbe e else s.retryPending c
  | .code .requeued st v => if s.validPeer st then s.waitAt c v st else s.retryPending c
  | _ => s.retryPending c

/-- R4, R28, R39: a CLAIM whose answer R4 discards is over: first its entry is evaluated again, then what was
held against it is applied, then, where it was the claim in flight, its DEFERRED siblings are evaluated
again. An entry that no longer waits has no part in it (R1). -/
def State.claimDiscarded (s : State) (id : Nat) : State :=
  match s.entry id with
  | none => s
  | some e =>
    if e.claimant.isSome then
      let s₁ := (s.reevaluate id).applyHeld id
      if e.isClaiming then s₁.reevaluateDeferred e.resource else s₁
    else s

/-- R30, R39, R75: the outcome of this station's CLAIM at answer end: first the entry, then what was held
against it, then the entry's siblings. An outcome that finds no entry is discarded (R1); so is one whose entry
finds a holder entry of this station (R4, log 8). -/
def State.claimEnded (s : State) (id : Nat) (probe : Option Ticket) (a : Answer) : State :=
  match s.entry id with
  | none => s
  | some e =>
    match e.claimant with
    | none => s
    | some c =>
      if (s.holderOf e.resource).isSome then s.claimDiscarded id
      else
        match e.state, probe with
        | .claiming _ _ _ _ _, none =>
          let s₁ := (s.freshOutcome e c a).applyHeld id
          if a = .none then s₁.settleHolder e.resource none else s₁.reevaluateDeferred e.resource
        | .waiting _ _ _ _ _ _ _, some t =>
          let s₁ := (s.probeOutcome e c t a).applyHeld id
          if a = .none then s₁.settleHolder e.resource none else s₁
        | _, _ => s

/-- R49: a HOLDER answer the query accepts. -/
def State.validHolder (s : State) (st : StationNo) (v : BitVec 16) : Bool :=
  s.validPeer st && (decide ((v.extractLsb' 8 8).toNat ≤ 7) || decide (v.extractLsb' 8 8 = 0xFF))
    && decide ((v.extractLsb' 0 8).toNat ≤ s.spanLimit)

/-- R49: the outcome of a pending QUERY's frame. -/
def State.queryEnded (s : State) (id : Nat) (a : Answer) : State :=
  match s.query id with
  | none => s
  | some q =>
    let s₁ := s.freeQuery id
    match a with
    | .none => s₁.completeBare q.slot .unowned
    | .code .holder st v =>
      if s.validHolder st v then
        s₁.complete q.slot .answered
          ⟨some .answered, none, some st, some (v.extractLsb' 8 8), some (v.extractLsb' 0 8)⟩
      else s₁.completeBare q.slot .damaged
    | _ => s₁.completeBare q.slot .damaged

/-- R35, R59, R76, R136: the abandonment of an entry's frame. -/
def State.entryAbandoned (s : State) (id : Nat) : State :=
  match s.entry id with
  | none => s
  | some e =>
    match e.state with
    | .claiming _ _ _ _ _ => s.endWait e .linkFail
    | .waiting _ _ _ _ _ _ _ => (s.restartProbe e).applyHeld id
    | .handing serve issue offered _ =>
      s.setEntry id (.handing serve issue offered (some s.probeInterval))
    | _ => s

/-- R49: the abandonment of a pending QUERY's frame. -/
def State.queryAbandoned (s : State) (id : Nat) : State :=
  match s.query id with
  | none => s
  | some q => (s.freeQuery id).completeBare q.slot .linkFail

/-! ### Requests (R19 to R22, R40, R49, R50) -/

/-- R19 to R23: an ACQUIRE is evaluated through its seven steps. -/
def State.acquire (s : State) (c : Claimant) : State :=
  if s.member.station ≠ .member then s.completeBare c.slot .offline
  else if s.config.permits c.context c.resource = false then s.completeBare c.slot .policy
  else
    match s.entryOf c.context c.resource with
    | some e =>
      match e.state with
      | .holding _ n serve issue noted =>
        if n.toNat < 255 then
          (s.setEntry e.id (.holding c.context (n + 1) serve issue noted)).complete c.slot .reentered
            (s.heldResult .reentered (some (n + 1)) (contextByte c.context) e.span)
        else s.complete c.slot .countLimit (.counted .countLimit n)
      | .lost _ n => s.complete c.slot .lost (.counted .lost n)
      | _ => s.completeBare c.slot .duplicate
    | none =>
      match s.lock.entries.find? (fun e => decide (e.resource = c.resource) && e.isLost) with
      | some e => s.complete c.slot .lost (.counted .lost e.count)
      | none =>
        if s.holdLimit c.context ≤ s.countedEntries c.context then s.completeBare c.slot .limit
        else if Config.lockEntries ≤ s.lock.entries.length then s.completeBare c.slot .tableFull
        else s.evaluate c

/-- R50 to R52: a RELEASE. -/
def State.release (s : State) (slot : SlotIx) (context : Context) (r : Resource) : State :=
  match s.entryOf context r with
  | none => s.completeBare slot .notHolder
  | some e =>
    match e.state with
    | .lost _ n => (s.freeEntry e.id).complete slot .lost (.counted .lost n)
    | .holding c n serve issue noted =>
      if 1 < n.toNat then
        (s.setEntry e.id (.holding c (n - 1) serve issue noted)).complete slot .released
          (.counted .released (n - 1))
      else (s.complete slot .released (.counted .released 0)).releaseLock e
    | _ => s.completeBare slot .notHolder

/-- R49: a QUERY request. -/
def State.queryRequest (s : State) (id : Nat) (slot : SlotIx) (r : Resource) : State :=
  if s.member.station ≠ .member then s.completeBare slot .offline
  else
    match s.holderOf r with
    | some h => s.complete slot .answered (s.heldResult .answered none h.contextByte h.span)
    | none => (s.withQueries (s.lock.queries ++ [⟨id, slot, r, false⟩])).raiseWant (.query id)

/-- R40: a CANCEL. Its own slot completes first. -/
def State.cancel (s : State) (slot target : SlotIx) : State :=
  match s.entryAt target with
  | some e =>
    let s₁ := s.completeBare slot .accepted
    if s.ownerOnLink (.entry e.id) then s₁.holdAction e.id .cancel else s₁.endWait e .cancelled
  | none =>
    match s.queryAt target with
    | some q =>
      let s₁ := s.completeBare slot .accepted
      if s.ownerOnLink (.query q.id) then
        s₁.withQueries (s₁.lock.queries.map (fun p =>
          if p.id = q.id then { p with heldCancel := true } else p))
      else (s₁.freeQuery q.id).completeBare target .cancelled
    | none => s.completeBare slot .notPending

/-! ### Answers (R42 to R48, R77, R78) -/

/-- R120: the answer demand is made; the transceiver writes the answer given, if one is. -/
def State.setAnswer (s : State) (f : HeardFrame) (answer : Option (BitVec 28)) (committed : Option Nat) :
    State :=
  s.setLink (.listeningAnswer { f with demanded := true, answer := answer, committed := committed })

/-- The answer of this station, its own number in the station field (R42). -/
def State.ownAnswer (s : State) (code : AnswerCode) (value : BitVec 16) : Option (BitVec 28) :=
  some (answerBits code s.own value)

/-- R44, R45: a holder entry answers a fresh CLAIM (`probe` none) or a probe. -/
def State.answerClaim (s : State) (f : HeardFrame) (h : LockEntry) (probe : Option Ticket)
    (nowait : Bool) : State :=
  match probe with
  | none =>
    if nowait then s.setAnswer f (s.ownAnswer .busy 0) none
    else if h.span.toNat < s.spanLimit then
      (s.issueTicket h).setAnswer f (s.ownAnswer .held h.issue) none
    else s.setAnswer f (s.ownAnswer .full 0) none
  | some t =>
    if inQueue h.serve h.issue t then s.setAnswer f (s.ownAnswer .held t) none
    else if h.span.toNat < s.spanLimit then
      (s.issueTicket h).setAnswer f (s.ownAnswer .requeued h.issue) none
    else s.setAnswer f (s.ownAnswer .full 0) none

/-- R77, R78: the WAITING entry that commits TAKEN to a GRANT: the earliest taken of those that qualify. -/
def State.grantTaker (s : State) (sender : StationNo) (r : Resource) (offered issue : Ticket) :
    Option LockEntry :=
  if 1 ≤ (issue - offered).toNat ∧ (issue - offered).toNat ≤ s.spanLimit then
    s.lock.entries.find? (fun e => decide (e.resource = r) && s.liveWaiter sender e &&
      (match e.state with
        | .waiting _ _ t _ _ _ _ => decide (t = offered)
        | _ => false))
  else none

/-- R42, R43, R48, R77: the answer demand of a CLAIM, GRANT or QUERY that this station is not sending. -/
def State.answerDemand (s : State) (f : HeardFrame) : State :=
  match f.content with
  | .claim r _ probe nowait =>
    match s.holderOf r with
    | some h => s.answerClaim f h probe nowait
    | none => s.setAnswer f none none
  | .query r =>
    match s.holderOf r with
    | some h => s.setAnswer f (s.ownAnswer .holder (h.contextByte ++ h.span.setWidth 8)) none
    | none => s.setAnswer f none none
  | .grant r offered issue =>
    match s.holderOf r, s.grantTaker f.sender r offered issue with
    | none, some e =>
      match e.context with
      | some c =>
        (s.enterHolding e offered issue).setAnswer f (s.ownAnswer .taken ((contextByte c).setWidth 16))
          (some e.id)
      | none => s.setAnswer f none none
    | _, _ => s.setAnswer f none none
  | _ => s.setAnswer f none none

/-- R79: a waiter follows the resource to a taker. -/
def State.followTaker (s : State) (taker : StationNo) (e : LockEntry) : State :=
  match e.state with
  | .waiting c sl t _ _ d p =>
    (s.setEntry e.id (.waiting c sl t taker (some (s.record taker).epoch) d p)).setSlotStation sl
      (some taker)
  | _ => s

/-- R79, R80: the live waiters on the sender of a heard GRANT act on the answer it drew. -/
def State.followGrant (s : State) (sender : StationNo) (r : Resource) (a : Answer) : State :=
  let waiters := s.lock.entries.filter (fun e => decide (e.resource = r) && s.liveWaiter sender e)
  match a with
  | .none => s
  | .code .taken st v =>
    if s.validPeer st && validTaker v then waiters.foldl (fun s e => s.followTaker st e) s
    else waiters.foldl State.immediateProbe s
  | _ => waiters.foldl State.immediateProbe s

/-- R77, R79: the lock engine's side of a heard frame at its answer end. Where an entry of this station
committed TAKEN, the others are handled under R4 and R68. -/
def State.lockHeard (s : State) (f : HeardFrame) (a : Answer) : State :=
  match f.content with
  | .grant r _ _ =>
    if f.committed.isSome then s.settleHolder r (some f.sender)
    else s.followGrant f.sender r a
  | _ => s

/-! ### Fence and LEAVE (R17, R18) -/

/-- Insertion by place in taking order. -/
def insertById (x : Nat × SlotIx) : List (Nat × SlotIx) → List (Nat × SlotIx)
  | [] => [x]
  | y :: l => if x.1 < y.1 then x :: y :: l else y :: insertById x l

/-- R17: the slots of the waiting entries and the pending queries, in the order they were taken. -/
def State.waitingSlots (s : State) : List SlotIx :=
  let places := s.lock.entries.filterMap (fun e => e.claimant.map (fun c => (c.id, c.slot)))
    ++ s.lock.queries.map (fun q => (q.id, q.slot))
  (places.foldl (fun l x => insertById x l) []).map (·.2)

/-- R17: HOLDING becomes LOST with its context and count; LOST stays; the others are freed. -/
def LockEntry.toLost (e : LockEntry) : Option LockEntry :=
  match e.state with
  | .holding c n _ _ _ => some { e with state := .lost c n, held := [] }
  | .lost _ _ => some e
  | _ => none

/-- R17, R18: the conversion: the want list is emptied, queued lock-engine frames are withdrawn (the one
on the link is marked), and the slots complete in taking order. -/
def State.convert (s : State) (code : Code) : State :=
  let s₁ := s.withLock
    { s.lock with entries := s.lock.entries.filterMap LockEntry.toLost, queries := [], wants := [] }
  let s₂ := s₁.withFrames (s.queue.frames.filterMap (fun f =>
    if f.kind.isLock then if s.onLink f then some { f with withdrawn := true } else none else some f))
  s.waitingSlots.foldl (fun s i => s.completeBare i code) s₂

end Sys2Proof.Machine
end

