-- ==== Sys2Proof/Machine/Membership.lean ====
section
/-! DEFINITION. The membership unit: what an accepted frame does to the member table (R92 to R99), the
own JOIN (R89, R90), the fence (R103, R104), and the end of LEAVING (R107). -/

namespace Sys2Proof.Machine

open Sys2Proof

/-! ### Own tag and own JOIN (R89, R100) -/

/-- R100: the tag of START: the low 16 bits of the elapsed-time count, with 0 replaced by 1. -/
def startTag (elapsed : Nat) : Tag :=
  if BitVec.ofNat 16 elapsed = 0 then 1 else BitVec.ofNat 16 elapsed

/-- R100: the tag after a fence: the previous tag + 1, with 65535 followed by 1. -/
def nextTag (t : Tag) : Tag := if t = 0xFFFF then 1 else t + 1

/-- R89: the own JOIN is placed, with the own tag and the group digest. -/
def State.wantJoin (s : State) : State :=
  match s.member.ownTag, s.config.digest with
  | some t, some d => s.placeMember (.join t d)
  | _, _ => s

/-! ### Fence and LEAVE (R98, R101, R104, R106) -/

/-- A frame that the fence and LEAVE withdraw: a BEACON, or a DEPART of another station. -/
def FrameRecord.endsWithMembership (own : StationNo) (f : FrameRecord) : Bool :=
  decide (f.kind = .beacon) || f.departsOther own

/-- R98: the stations whose DEPART the fence or LEAVE withdraws: the pending ones, and the one that is
queued and not on the link. -/
def State.withdrawnDeparts (s : State) : List StationNo :=
  s.member.departs.map (·.1) ++
    (s.queue.frames.filter (fun f => f.departsOther s.own && !s.onLink f)).filterMap
      FrameRecord.departNamed

/-- R104, R106 step 1: the beacon and fence timers stop; the BEACON and the DEPART of another station
leave the queue, or are marked when on the link (R139); the pending list is emptied; the silence timers of
the stations whose DEPART is withdrawn restart where they are still PRESENT (R98). -/
def State.withdrawMembership (s : State) : State :=
  let s₁ := s.stopOwnTimers.withDeparts []
  let s₂ := s₁.withFrames (s.queue.frames.filterMap (fun f =>
    if f.endsWithMembership s.own then
      if s.onLink f then some { f with withdrawn := true } else none
    else some f))
  s.withdrawnDeparts.foldl State.restartSilenceIfPresent s₂

/-- R91: the own record after the fence and after LEAVING: ABSENT, tag absent, epoch raised by 1. -/
def State.endOwnRecord (s : State) : State :=
  s.setRecord s.own
    { s.record s.own with state := .absent, tag := none, epoch := (s.record s.own).epoch + 1 }

/-- R104: the fence, for a station that is MEMBER. The own JOIN is wanted at once where the transceiver
is synchronized (R89). -/
def State.fence (s : State) (cause : FenceCause) : State :=
  let s₁ := s.withdrawMembership.convert .fenced
  let s₂ := (s₁.endOwnRecord.wakeWaiters s.own).enterNotice (.fenced cause s₁.lostEntries)
  let s₃ := s₂.withMember { s₂.member with ownTag := s.member.ownTag.map nextTag, station := .joining }
  if s.link.state.synchronized then s₃.wantJoin else s₃

/-- R103, R124: the transceiver reports a loss of synchronization. -/
def State.lossReported (s : State) : State :=
  if s.member.station = .member then s.fence .sync else s

/-- R107: the end of LEAVING. An own DEPART still queued is withdrawn. -/
def State.endLeaving (s : State) : State :=
  let s₁ := s.withFrames (s.queue.frames.filterMap (fun f =>
    if f.departNamed = some s.own then
      if s.onLink f then some { f with withdrawn := true } else none
    else some f))
  let s₂ := (s₁.endOwnRecord.wakeWaiters s.own).linkOff.stopAllSilence
  (s₂.setStation .offline).enterNotice .left

/-! ### Accepted frames of other stations (R92 to R99) -/

/-- R93: an accepted frame marks its sender present. -/
def State.presence (s : State) (x : StationNo) : State :=
  let r := s.record x
  let s₁ :=
    if r.state = .present then s
    else (s.setRecord x { r with state := .present, tag := none }).enterNotice (.peerUp x)
  (s₁.restartSilence x).withdrawDepart x

/-- R96: a station's epoch is raised, with the tag given, and the raise is handed to the lock engine. -/
def State.raiseEpoch (s : State) (x : StationNo) (r : MemberRecord) : State :=
  (s.setRecord x { r with epoch := r.epoch + 1 }).wakeWaiters x

/-- R94: the tag of an accepted BEACON; `before` is its sender's record before the frame. -/
def State.beaconTag (s : State) (x : StationNo) (before : MemberRecord) (t : Tag) : State :=
  let r := { s.record x with tag := some t }
  if before.state = .present ∧ before.tag.isSome ∧ before.tag ≠ some t then
    (s.raiseEpoch x r).enterNotice (.peerRejoined x)
  else s.setRecord x r

/-- R95: an accepted JOIN. -/
def State.joinHeard (s : State) (x : StationNo) (t : Tag) : State :=
  let r := { s.record x with state := .present, tag := some t, silence := some s.presenceTimeout }
  let s₁ :=
    if (s.record x).state = .present then (s.raiseEpoch x r).enterNotice (.peerRejoined x)
    else (s.setRecord x r).enterNotice (.peerUp x)
  s₁.withdrawDepart x

/-- R99: whether a DEPART with tag t makes the station of record r ABSENT. -/
def MemberRecord.departedBy (r : MemberRecord) (t : Tag) : Bool :=
  decide (r.state = .present) && (decide (t = 0) || r.tag.isNone || decide (r.tag = some t))

/-- R99: an accepted DEPART names another station d; one that names station 0 is ignored. -/
def State.departNames (s : State) (d : StationNo) (t : Tag) (cause : DownCause) : State :=
  if d ≠ 0 ∧ (s.record d).departedBy t then
    ((s.raiseEpoch d { s.record d with state := .absent, tag := none, silence := none }).enterNotice
      (.peerDown d cause)).withdrawDepart d
  else s

/-- R103, R107: an accepted DEPART names this station. -/
def State.departHere (s : State) (t : Tag) : State :=
  if t = 0 ∨ s.member.ownTag = some t then
    match s.member.station with
    | .member => s.fence .departed
    | .leaving => s.endLeaving
    | _ => s
  else s

/-- R92, R93: presence, for the frames that mark their sender present. A frame with this station's number
changes no record, and neither does a DEPART whose sender it names. -/
def State.heardPresence (s : State) (sender : StationNo) (c : FrameContent) : State :=
  if sender = s.own then s
  else
    match c with
    | .join t _ => s.joinHeard sender t
    | .beacon t => (s.presence sender).beaconTag sender (s.record sender) t
    | .depart d _ => if d = sender then s else s.presence sender
    | .grant _ _ _ => s.presence sender
    | .claim _ _ _ _ => s.presence sender
    | .query _ => s.presence sender

/-- R92: the membership unit's side of an accepted frame that this station did not send. -/
def State.heardFrame (s : State) (sender : StationNo) (c : FrameContent) : State :=
  let s₁ := s.heardPresence sender c
  match c with
  | .depart d t => if d = s.own then s₁.departHere t else s₁.departNames d t .heard
  | _ => s₁

/-! ### Own frames (R89, R90, R99, R101, R102) -/

/-- R92, R99, R101, R102: the membership unit's side of an accepted own frame. -/
def State.ownAccepted (s : State) (c : FrameContent) : State :=
  let s₁ := if s.member.station = .member then s.startOwnTimers else s
  match c with
  | .depart d t => if d = s.own then s₁ else s₁.departNames d t .timeout
  | _ => s₁

/-- R89: the own JOIN was accepted. -/
def State.joinAccepted (s : State) : State :=
  let s₁ := s.setStation .member
  let s₂ := s₁.setRecord s.own { s.record s.own with state := .present, tag := s.member.ownTag }
  s₂.startOwnTimers.enterNotice (.joined s.own)

/-- R90: the own JOIN was abandoned. -/
def State.joinAbandoned (s : State) : State :=
  ((s.setStation .refused).linkOff.stopAllSilence).enterNotice .joinFailed

end Sys2Proof.Machine
end

