-- ==== Sys2Proof/Machine/Attempts.lean ====
section
/-! DEFINITION. Attempts of own frames: the head frame and its payload (R15, R130, R132), and what the
outbound queue does at each reported result (R131, R134 to R137). -/

namespace Sys2Proof.Machine

open Sys2Proof

/-! ### Taking the head frame -/

/-- R114, R127: whether f goes ahead of g: lower class, or the same class and an earlier age. -/
def FrameRecord.ahead (f g : FrameRecord) : Bool :=
  decide (f.kind.cls.toNat < g.kind.cls.toNat) ||
    (decide (f.kind.cls = g.kind.cls) && decide (f.age < g.age))

/-- R130: the head of a list of frames. -/
def headOf : List FrameRecord → Option FrameRecord
  | [] => none
  | f :: l =>
    match headOf l with
    | none => some f
    | some g => if g.ahead f then some g else some f

/-- R130, R134: the head frame is chosen from the frames that are not on the link; a marked frame is
never offered again. -/
def State.headFrame (s : State) : Option FrameRecord :=
  headOf (s.queue.frames.filter (fun f => !s.onLink f && !f.withdrawn))

/-- R15, R29, R60, R71: the payload a lock entry gives its frame as it stands: a fresh CLAIM, a probe or
a GRANT. -/
def LockEntry.content (e : LockEntry) : Option FrameContent :=
  match e.state with
  | .claiming c _ p _ _ => some (.claim e.resource c none (decide (p = .nowait)))
  | .waiting c _ t _ _ _ _ => some (.claim e.resource c (some t) false)
  | .handing _ issue offered _ => some (.grant e.resource offered issue)
  | _ => none

/-- R15, R132: the content an attempt of a frame sends: a membership frame's payload is fixed; a
lock-engine frame's is taken from its owner. -/
def State.contentOf (s : State) (f : FrameRecord) : Option FrameContent :=
  match f.owner with
  | .membership => f.payload
  | .lock (.entry id) =>
    match s.entry id with
    | some e => e.content
    | none => none
  | .lock (.query id) =>
    match s.query id with
    | some q => some (.query q.resource)
    | none => none

/-! ### Results (R131, R134) -/

def State.frameAt (s : State) (age : Nat) : Option FrameRecord :=
  s.queue.frames.find? (fun f => decide (f.age = age))

/-- R39, R40: an attempt that ends with no outcome lets what is held against the frame's owner act. -/
def State.attemptOver (s : State) : FrameOwner → State
  | .membership => s
  | .lock (.entry id) => s.applyHeld id
  | .lock (.query id) => s.applyHeldCancel id

/-- R98, R133: a frame leaves the queue, and the place of a DEPART of another station is filled. -/
def State.leaveQueue (s : State) (f : FrameRecord) : State :=
  if f.departsOther s.own then (s.removeFrame f).fillDepart else s.removeFrame f

/-- R97, R98: a DEPART of another station x has left the queue without being accepted: x's silence timer
runs again where x is PRESENT and the transceiver is not OFF. -/
def State.departAbandoned (s : State) (x : StationNo) : State := s.restartSilenceIfPresent x

/-- R134: the attempt of a marked frame ends without ACCEPTED: it leaves the queue and nothing is reported.
The entry that R4 has placed while the frame was on the link is evaluated then (log 26). After a DEPART of
another station, that station's silence timer is no longer stopped for it (R97, log 19). -/
def State.markedLeaves (s : State) (f : FrameRecord) : State :=
  match f.owner with
  | .lock (.entry id) => (s.leaveQueue f).claimDiscarded id
  | .lock (.query _) => s.leaveQueue f
  | .membership =>
    match f.departNamed with
    | some x => if x = s.own then s.leaveQueue f else (s.leaveQueue f).departAbandoned x
    | none => s.leaveQueue f

/-- R131, R134: LOST ARBITRATION. -/
def State.reportLost (s : State) (age : Nat) : State :=
  match s.frameAt age with
  | none => s
  | some f => if f.withdrawn then s.markedLeaves f else s.attemptOver f.owner

/-- R136, R137: ABANDONED, told to the owner. -/
def State.abandoned (s : State) (f : FrameRecord) : State :=
  match f.owner with
  | .lock (.entry id) => s.entryAbandoned id
  | .lock (.query id) => s.queryAbandoned id
  | .membership =>
    match f.payload with
    | some (.join _ _) => if s.member.station = .joining then s.joinAbandoned else s
    | some (.depart d _) =>
      if d = s.own then (if s.member.station = .leaving then s.endLeaving else s)
      else s.departAbandoned d
    | _ => s

/-- R131, R134: FAILED. -/
def State.reportFailed (s : State) (age : Nat) : State :=
  match s.frameAt age with
  | none => s
  | some f =>
    if f.withdrawn then s.markedLeaves f
    else if f.attempts + 1 < Config.attempts then
      (s.updateFrame age (fun g => { g with attempts := g.attempts + 1 })).attemptOver f.owner
    else (s.leaveQueue f).abandoned f

/-- R136, R137: ACCEPTED, told to the owner. The answer to a CLAIM that R4 has marked is discarded. -/
def State.accepted (s : State) (f : FrameRecord) (c : FrameContent) (a : Answer) : State :=
  match f.owner with
  | .lock (.entry id) =>
    match c with
    | .claim _ _ probe _ => if f.withdrawn then s.claimDiscarded id else s.claimEnded id probe a
    | .grant _ offered issue => s.grantEnded id offered issue a
    | _ => s
  | .lock (.query id) => s.queryEnded id a
  | .membership =>
    match c with
    | .join _ _ => if s.member.station = .joining then s.joinAccepted else s
    | .depart d _ => if d = s.own ∧ s.member.station = .leaving then s.endLeaving else s
    | _ => s

/-- R131, R135: ACCEPTED: the frame leaves and a freed place is filled before the owner is told. -/
def State.reportAccepted (s : State) (age : Nat) (c : FrameContent) (a : Answer) : State :=
  match s.frameAt age with
  | none => s
  | some f => (s.leaveQueue f).accepted f c a

/-! ### The end of an own attempt -/

/-- R113, R118: the sender stops and goes to LISTENING. -/
def State.stopSending (s : State) : State := s.setLink .listening

/-- R118: a collision in an attempt of an own frame: FAILED, and the rest of the frame is heard. -/
def State.collide (s : State) (o : OwnFrame) : State := s.stopSending.reportFailed o.age

/-- R122: an accepted own frame: the membership unit first, then the outbound queue; the transceiver is
in IDLE after the result (R123). -/
def State.ownFrameAccepted (s : State) (o : OwnFrame) (atEnd : LineAtEnd) (a : Answer) : State :=
  ((s.ownAccepted o.content).linkIdle atEnd).reportAccepted o.age o.content a

end Sys2Proof.Machine
end

