-- ==== Sys2Proof/Machine/Commands.lean ====
section
/-! DEFINITION. COMMIT, START, LEAVE and RESTART (R169 to R174), and the reset pin, power-on and the
release of reset (R175). -/

namespace Sys2Proof.Machine

open Sys2Proof

/-- R175: what the host does at its port; while the station is held in reset the port takes nothing. -/
def State.atPort (s : State) (t : State) : State := if s.resetHeld then s else t

/-- R169: the record is accepted, with its digest, and the station goes OFFLINE (R88). -/
def State.acceptRecord (s : State) : State :=
  (s.withConfig
    { s.config with
      accepted := true
      digest := some (groupDigest s.config)
      rejected := false }).setStation .offline

/-- COMMIT (R169, R170): ignored while the accepted flag is set. -/
def State.commit (s : State) : State :=
  if s.config.accepted then s
  else if s.config.inRange then s.acceptRecord
  else s.withConfig { s.config with rejected := true }

def execCommit (s : State) : Host.Outcome State Fault Refusal := .next (s.atPort s.commit)

/-- R88: the join begins. -/
def State.beginJoin (s : State) : State :=
  (s.withMember
    { s.member with ownTag := some (startTag s.elapsed), station := .joining }).linkSeeking.restartAllSilence

/-- START (R88): taken in OFFLINE and REFUSED. -/
def State.startCommand (s : State) : State :=
  match s.member.station with
  | .offline => s.beginJoin
  | .refused => s.beginJoin
  | _ => s

def execStart (s : State) : Host.Outcome State Fault Refusal := .next (s.atPort s.startCommand)

/-- R106: the four steps of LEAVE; the own DEPART carries the own tag. -/
def State.beginLeave (s : State) : State :=
  let s₁ := s.withdrawMembership.convert .offline
  (s₁.placeMember (.depart s.own (s.member.ownTag.getD 0))).setStation .leaving

/-- LEAVE (R106): taken in MEMBER. -/
def State.leaveCommand (s : State) : State :=
  if s.member.station = .member then s.beginLeave else s

def execLeave (s : State) : Host.Outcome State Fault Refusal := .next (s.atPort s.leaveCommand)

/-- RESTART (R174): taken in every state but UNCONFIGURED. -/
def State.restartCommand (s : State) : State :=
  if s.member.station = .unconfigured then s else s.cleared s.config .offline false

def execRestart (s : State) : Host.Outcome State Fault Refusal := .next (s.atPort s.restartCommand)

/-- R175: every block at its reset values, the configuration record too, for as long as the station is
held in reset. -/
def State.heldInReset (s : State) : State := s.cleared .reset .unconfigured true

/-- RESET_PIN (R175). -/
def execResetPin (s : State) : Host.Outcome State Fault Refusal := .next s.heldInReset

/-- POWER_ON (R175): as the reset pin held low. -/
def execPowerOn (s : State) : Host.Outcome State Fault Refusal := .next s.heldInReset

/-- RESET_RELEASE (R175): the elapsed-time count starts from 0. -/
def execResetRelease (s : State) : Host.Outcome State Fault Refusal :=
  .next (if s.resetHeld then (s.withResetHeld false).withElapsed 0 else s)

end Sys2Proof.Machine
end

