-- ==== Sys2Proof/Decode.lean ====
section
/-! DEFINITION. From bits to commands. No row of spec/opcode_table.json has bits, so `decodeTableWord`
spells none; what has an encoding is the byte of an SPI write, which `writeCommand` turns into the
command its address names (R180). -/

namespace Sys2Proof

/-- The table gives no row any bits, so no word spells a command. -/
def decodeTableWord (_nbits _w : Nat) : Option Instr := none

/-- R172, 11.2: the command codes. -/
def commandOfCode (value : Byte) : Option Instr :=
  if value = 0x01 then some .commit
  else if value = 0x02 then some .start
  else if value = 0x03 then some .leave
  else if value = 0x04 then some .restart
  else none

/-- R180: the command that a byte written at an address is, by the window map. A byte that falls in the
request part of a slot record (offsets 2 to 9, R184) is a SLOT_WRITE of that one byte; the rest of the
record is read-only (R185). -/
def writeCommand (address : BitVec 12) (value : Byte) : Instr :=
  let a := address.toNat
  if h : a < 19 then .configurationWrite ⟨a, h⟩ value
  else if a = 0x018 then (commandOfCode value).getD (.ignoredWrite address value)
  else if a = 0x040 then .refusedWriteClear value
  else if a = 0x043 then .endWrite value
  else if a = 0x044 then .postLockWrite value
  else if h : (0x100 ≤ a ∧ a < 0x280) ∧ 2 ≤ a % 16 ∧ a % 16 < 10 then
    .slotWrite ⟨(a - 0x100) / 16, by omega⟩ [(⟨(a - 0x100) % 16, by omega⟩, value)]
  else .ignoredWrite address value

/-- R180: whether a byte written at an address is ignored whatever the state: a read-only location, an
unmapped address, or a command code that names no command. -/
def ignoredLocation (address : BitVec 12) (value : Byte) : Bool :=
  decide (writeCommand address value = .ignoredWrite address value)

end Sys2Proof
end

