-- ==== Sys2Proof/WellFormed.lean ====
section
/-! DEFINITION. Which terms of `Instr` are commands the station can receive. -/

namespace Sys2Proof

/-- R111, R119: a frame's end comes before the line has been recessive for 2T, 512 quarter microseconds at the
longest T. -/
def LineAtEnd.wellFormed : LineAtEnd → Bool
  | .released since => decide (since < 512)
  | .dominant => true

def VetoMoment.wellFormed : VetoMoment → Bool
  | .checked => true
  | .ends _ atEnd => atEnd.wellFormed

/-- A command as the ports can deliver it. SLOT_WRITE carries at least one byte (R178). POP_READ reads at
least one byte (R179). IGNORED_WRITE names a byte that R180 ignores. A heard frame has as many payload
bytes as its length field says (R115). The line at a frame's end has its last release less than 2T back (R119). A silence timer belongs to a station 1 to 31 (R91). -/
def Instr.wellFormed : Instr → Bool
  | .commit => true
  | .start => true
  | .leave => true
  | .restart => true
  | .configurationWrite _ _ => true
  | .slotWrite _ bytes => !bytes.isEmpty
  | .endWrite _ => true
  | .postLockRead _ => true
  | .postLockWrite _ => true
  | .refusedWriteClear _ => true
  | .popRead _ _ count => decide (0 < count)
  | .ignoredWrite address value => ignoredLocation address value
  | .resetPin => true
  | .powerOn => true
  | .taking => true
  | .deadlineExpiry _ => true
  | .probeTimerExpiry _ => true
  | .claimRetryExpiry _ => true
  | .grantRetryExpiry _ => true
  | .lead _ => true
  | .leadHeard => true
  | .arbitrationLost => true
  | .collision => true
  | .vetoSlotEnd heard moment =>
    decide (heard.payload.length = heard.length.toNat) && moment.wellFormed
  | .answerStart => true
  | .answerEnd line => line.atEnd.wellFormed
  | .truncation => true
  | .lossOfSynchronization => true
  | .idleRegained => true
  | .silenceTimerExpiry station => decide (station ≠ 0)
  | .beaconTimerExpiry => true
  | .fenceTimerExpiry => true
  | .resetRelease => true
  | .arbitrationFieldPassed => true

end Sys2Proof
end

