-- ==== Sys2Proof/Machine/HostPort.lean ====
section
/-! DEFINITION. The host port: writes to the window (R143, R144, R146, R154, R155, R167, R180), the two
reads that change state (R155, R163), and the split of a write transaction into commands (R177, R178). -/

namespace Sys2Proof.Machine

open Sys2Proof

/-! ### Configuration area -/

/-- CONFIGURATION_WRITE (R167): taken while the accepted flag is clear. -/
def execConfigurationWrite (offset : Fin 19) (value : Byte) (s : State) :
    Host.Outcome State Fault Refusal :=
  .next (s.atPort (if s.config.accepted then s else s.withConfig (s.config.write offset value)))

/-! ### Slot area -/

/-- R143, R185: a taken write: the request part bytes land; one of the request word clears the result and
makes the slot FILLED. -/
def Slot.take (sl : Slot) (bytes : List (Fin 16 × Byte)) : Slot :=
  let sl' := bytes.foldl Slot.writeByte sl
  if bytes.any (fun w => isWordOffset w.1) then { sl' with state := .filled, result := .absent } else sl'

/-- R143, R144, R178, R185: one write to a slot; a PENDING slot refuses it whole; read-only offsets count
for nothing. -/
def State.writeSlot (s : State) (i : SlotIx) (bytes : List (Fin 16 × Byte)) : State :=
  let request := bytes.filter (fun w => isRequestOffset w.1)
  if request.isEmpty then s
  else if (s.slot i).state = .pending then s.withRing { s.ring with refusedWrite := true }
  else s.setSlot i ((s.slot i).take request)

/-- SLOT_WRITE. -/
def execSlotWrite (slot : SlotIx) (bytes : List (Fin 16 × Byte)) (s : State) :
    Host.Outcome State Fault Refusal :=
  .next (s.atPort (s.writeSlot slot bytes))

/-! ### END, post lock, ring status -/

/-- R146, R148, R155: a value of 0 to 23 is taken; END equal to CURRENT ends a stall. -/
def State.writeEnd (s : State) (value : Byte) : State :=
  if h : value.toNat < 24 then
    s.withRing
      { s.ring with
        endIx := ⟨value.toNat, h⟩
        postLock := false
        stalled := s.ring.stalled && decide (value.toNat ≠ s.ring.current.val) }
  else s

/-- END_WRITE. -/
def execEndWrite (value : Byte) (s : State) : Host.Outcome State Fault Refusal :=
  .next (s.atPort (s.writeEnd value))

/-- R155, R179: a read of the whole byte takes the lock; one that ends inside the byte does not. -/
def State.readPostLock (s : State) (whole : Bool) : State :=
  if whole then
    (s.withRing { s.ring with postLock := true }).withPort
      { s.port with miso := [(BitVec.ofBool s.ring.postLock).setWidth 8] }
  else s.withPort { s.port with miso := [] }

/-- POST_LOCK_READ. -/
def execPostLockRead (whole : Bool) (s : State) : Host.Outcome State Fault Refusal :=
  .next (s.atPort (s.readPostLock whole))

/-- POST_LOCK_WRITE (R155): 0 frees the lock; another value is ignored. -/
def execPostLockWrite (value : Byte) (s : State) : Host.Outcome State Fault Refusal :=
  .next (s.atPort (if value = 0 then s.withRing { s.ring with postLock := false } else s))

/-- REFUSED_WRITE_CLEAR (R144, R154): bit 2 clears the flag; the other bits are ignored. -/
def execRefusedWriteClear (value : Byte) (s : State) : Host.Outcome State Fault Refusal :=
  .next (s.atPort
    (if value.getLsbD 2 then s.withRing { s.ring with refusedWrite := false } else s))

/-! ### Pop location -/

/-- R163, R179: the record the pop read returns: the head, fixed at the transaction's first byte. -/
def State.popRecord (s : State) (fresh : Bool) : Option Notice :=
  if fresh then s.notices.records.head? else s.port.popRecord

/-- R163, R179: the bytes returned; the head goes when byte 11 has been clocked out. -/
def State.readPop (s : State) (fresh : Bool) (offset : Fin 12) (count : Nat) : State :=
  let record := s.popRecord fresh
  let miso := (List.range count).map (fun i => (popBytes record).getD (offset.val + i) 0)
  if record.isSome ∧ 12 ≤ offset.val + count then
    (s.withNotices { s.notices with records := s.notices.records.tail }).withPort ⟨none, miso⟩
  else s.withPort ⟨record, miso⟩

/-- POP_READ. -/
def execPopRead (fresh : Bool) (offset : Fin 12) (count : Nat) (s : State) :
    Host.Outcome State Fault Refusal :=
  .next (s.atPort (s.readPop fresh offset count))

/-! ### Ignored writes -/

/-- IGNORED_WRITE (R180): no effect and no flag. An operand that R180 does not ignore is another row's
command, and is refused by name (log 20). -/
def execIgnoredWrite (address : BitVec 12) (value : Byte) (s : State) :
    Host.Outcome State Fault Refusal :=
  if ignoredLocation address value then .next s else .refused .notAnIgnoredWrite

/-! ### Write transactions (R177, R178) -/

/-- R177: the header's address. -/
def headerAddress (h₀ h₁ : Byte) : BitVec 12 := h₀.extractLsb' 0 4 ++ h₁

/-- R177: each data byte goes to the next address, which wraps from 0xFFF to 0x000. -/
def byteCommands (address : BitVec 12) : List Byte → List Instr
  | [] => []
  | b :: data => writeCommand address b :: byteCommands (address + 1) data

/-- R178: the bytes after one that issues RESTART are discarded (log 21). -/
def throughRestart : List Instr → List Instr
  | [] => []
  | c :: l => if c = .restart then [c] else c :: throughRestart l

/-- R178: bytes of a slot record join the write to that slot that the transaction has made, or make it. -/
def joinSlotWrite (i : SlotIx) (bytes : List (Fin 16 × Byte)) : List Instr → List Instr
  | [] => [.slotWrite i bytes]
  | .slotWrite j earlier :: l =>
    if i = j then .slotWrite i (earlier ++ bytes) :: l
    else .slotWrite j earlier :: joinSlotWrite i bytes l
  | c :: l => c :: joinSlotWrite i bytes l

/-- R178: the next byte's command joins those of the bytes before it. -/
def joinCommand (l : List Instr) : Instr → List Instr
  | .slotWrite i bytes => joinSlotWrite i bytes l
  | c => l ++ [c]

/-- R178: all bytes of one transaction that fall within one slot record form one write, which stands at the
place of the first of them (log 21). -/
def mergeSlotWrites (l : List Instr) : List Instr := l.foldl joinCommand []

/-- R177, R178: the commands of one write transaction, from the whole bytes it carried on MOSI. A
transaction that ends before its header is complete, a read, and a write without data bytes give none. -/
def writeTransaction : List Byte → List Instr
  | h₀ :: h₁ :: data =>
    if h₀.msb then []
    else mergeSlotWrites (throughRestart (byteCommands (headerAddress h₀ h₁) data))
  | _ => []

/-- R177, R178: whole bytes from bits, most significant first; an unfinished last byte is discarded. -/
def wholeBytes : List Bool → List Byte
  | b₇ :: b₆ :: b₅ :: b₄ :: b₃ :: b₂ :: b₁ :: b₀ :: l =>
    (BitVec.ofBool b₇ ++ BitVec.ofBool b₆ ++ BitVec.ofBool b₅ ++ BitVec.ofBool b₄ ++ BitVec.ofBool b₃
      ++ BitVec.ofBool b₂ ++ BitVec.ofBool b₁ ++ BitVec.ofBool b₀) :: wholeBytes l
  | _ => []

/-- R177: one SPI transaction, from the fall of CS_N to its rise: the bits sampled on MOSI, one for each rising
edge of SCK; and, where RESET_N was low or power not valid at any time in it, how many bits it had carried when
that was first so (R175, log 38). -/
structure Transaction where
  mosi    : List Bool
  resetAt : Option Nat
  deriving DecidableEq, Repr

/-- R175, R178: the commands of one write transaction. One that meets reset is discarded whole. -/
def Transaction.writes (t : Transaction) : List Instr :=
  if t.resetAt.isSome then [] else writeTransaction (wholeBytes t.mosi)

/-- R175: the bits of a transaction that the port takes: those before reset. -/
def Transaction.taken (t : Transaction) : List Bool :=
  match t.resetAt with
  | none => t.mosi
  | some n => t.mosi.take n

/-- R178: a write transaction is taken as one event, when CS_N rises: its commands stand together in the
queue. -/
def State.hostWrites (s : State) (t : Transaction) : State := s.withPending (s.pending ++ t.writes)

end Sys2Proof.Machine
end

