-- ==== Sys2Proof/Machine/Link.lean ====
section
/-! DEFINITION. The link transceiver's events (R110 to R126). An event that its state gives no meaning
changes nothing. -/

namespace Sys2Proof.Machine

open Sys2Proof

/-! ### Lead and arbitration (R111 to R113) -/

/-- R112: with the line recessive and a frame queued, the transceiver begins its lead. -/
def State.beginLead (s : State) : State :=
  match s.link.state with
  | .idle =>
    if s.queue.frames.isEmpty || s.link.line != .recessive then s
    else s.withLink ⟨.leading, 0, 0, .recessive⟩
  | _ => s

/-- R112, R130, R132: at the arbitration start the head frame is taken; with none the lead ends in
LISTENING. -/
def State.startArbitration (s : State) : State :=
  match s.link.state with
  | .leading =>
    match s.headFrame with
    | some f =>
      match s.contentOf f with
      | some c => s.setLink (.arbitrating ⟨f.age, c⟩)
      | none => s.setLink .listening
    | none => s.setLink .listening
  | _ => s

/-- R111, R112: the line goes dominant in IDLE or SEEKING: until the release it is not recessive, so no idle
time counts and no lead begins, and the pulse is measured from here (log 36). -/
def State.pulseFalls (s : State) : State :=
  match s.link.state with
  | .idle => s.withLink { s.link with clock := 0, line := .pulse }
  | .seeking => s.withLink { s.link with clock := 0, line := .pulse }
  | _ => s

/-- R111, R120: the line that a frame's end found dominant is released: the frame's last release, from which the
idle count runs. Such a pulse is no loss of synchronization and no lead (log 43). -/
def State.tailRises (s : State) : State :=
  match s.link.state with
  | .idle => if s.link.line = .tail then s.linkIdle (.released 0) else s
  | _ => s

/-- LEAD (R112). -/
def execLead (phase : LeadPhase) (s : State) : Host.Outcome State Fault Refusal :=
  .next (match phase with
    | .begins => s.beginLead
    | .arbitrationStart => s.startArbitration
    | .lineFalls => s.pulseFalls
    | .lineRises => s.tailRises)

/-- R111: the length of the pulse that now releases, from its falling edge. One whose edge this station was
not given counts as 2T, the lead its sender drives (R108, log 36). -/
def State.pulseLength (s : State) : Nat :=
  if s.link.line = .pulse then s.link.clock else 2 * s.bitTime

/-- LEAD_HEARD (R111): in IDLE the pulse opens a frame, whose bit timing runs from the falling edge; in
SEEKING any pulse sets the recessive time back to 0. -/
def execLeadHeard (s : State) : Host.Outcome State Fault Refusal :=
  .next (match s.link.state with
    | .idle => s.withLink ⟨.listening, 0, s.pulseLength, .recessive⟩
    | .seeking => s.linkSeeking
    | _ => s)

/-- ARBITRATION_LOST (R113, R131): the frame stays queued with no attempt counted. -/
def execArbitrationLost (s : State) : Host.Outcome State Fault Refusal :=
  .next (match s.link.state with
    | .arbitrating o => s.stopSending.reportLost o.age
    | _ => s)

/-- ARBITRATION_FIELD_PASSED (R113). -/
def execArbitrationFieldPassed (s : State) : Host.Outcome State Fault Refusal :=
  .next (match s.link.state with
    | .arbitrating o => s.setLink (.sending o)
    | _ => s)

/-- COLLISION (R118). During the lead no frame has been taken, so no attempt fails (log 12). -/
def execCollision (s : State) : Host.Outcome State Fault Refusal :=
  .next (match s.link.state with
    | .leading => s.stopSending
    | .arbitrating o => s.collide o
    | .sending o => s.collide o
    | _ => s)

/-! ### Veto slot (R116, R117, R122) -/

/-- R116: whether this station drives the veto slot of a frame as it has sampled it. -/
def State.vetoes (s : State) (f : LinkFrame) : Bool := frameVetoed f s.vetoDigest

/-- The end of the veto slot of an own frame, which the sender has sampled as it sent it. -/
def State.ownVetoEnd (s : State) (o : OwnFrame) (vetoed : Bool) (atEnd : LineAtEnd) : State :=
  if vetoed || s.vetoes (linkFrame s.own o.content) then (s.linkIdle atEnd).reportFailed o.age
  else if o.content.kind.isLock then s.setLink (.sendingAnswer o)
  else s.ownFrameAccepted o atEnd .none

/-- The end of the veto slot of another's frame, vetoed by any station or not. -/
def State.heardVetoEnd (s : State) (heard : LinkFrame) (vetoed : Bool) (atEnd : LineAtEnd) : State :=
  if vetoed then s.linkIdle atEnd
  else
    match frameContent heard with
    | none => s.linkIdle atEnd
    | some c =>
      if c.kind.isLock then s.setLink (.listeningAnswer ⟨heard.sender, c, false, none, none⟩)
      else (s.linkIdle atEnd).heardFrame heard.sender c

/-- R115: the last check bit of another's frame has been sampled: the veto is decided, whatever becomes of
this station in the slot (R126). A sender's conditions on its own frame do not change in the slot. -/
def State.decideVeto (s : State) (heard : LinkFrame) : State :=
  match s.link.state with
  | .listening => s.setLink (.vetoSlot (s.vetoes heard))
  | _ => s

/-- R117: the end of the veto slot. Where the moment of the decision was not given it is now (log 37). -/
def State.endVetoSlot (s : State) (heard : LinkFrame) (vetoed : Bool) (atEnd : LineAtEnd) : State :=
  match s.link.state with
  | .sending o => s.ownVetoEnd o vetoed atEnd
  | .listening => s.heardVetoEnd heard (vetoed || s.vetoes heard) atEnd
  | .vetoSlot vetoing => s.heardVetoEnd heard (vetoed || vetoing) atEnd
  | _ => s

/-- VETO_SLOT_END (R115, R117). -/
def execVetoSlotEnd (heard : LinkFrame) (moment : VetoMoment) (s : State) :
    Host.Outcome State Fault Refusal :=
  .next (match moment with
    | .checked => s.decideVeto heard
    | .ends vetoed atEnd => s.endVetoSlot heard vetoed atEnd)

/-! ### Answer field (R120 to R122) -/

/-- ANSWER_START (R120): the answer demand, made once, at a station that is not the sender. -/
def execAnswerStart (s : State) : Host.Outcome State Fault Refusal :=
  .next (match s.link.state with
    | .listeningAnswer f => if f.demanded then s else s.answerDemand f
    | _ => s)

/-- R120: the answer field as sampled: the AND of what this station writes and what the others leave. -/
def sampledAnswer (own : Option (BitVec 28)) (field : BitVec 28) : BitVec 28 :=
  own.getD (BitVec.allOnes 28) &&& field

/-- R122: the commit point of another's frame: the membership unit first, then the lock engine. -/
def State.heardAnswerEnd (s : State) (f : HeardFrame) (line : AnswerLine) : State :=
  ((s.linkIdle line.atEnd).heardFrame f.sender f.content).lockHeard f
    (decodeAnswer f.content.kind (sampledAnswer f.answer line.field))

/-- ANSWER_END (R121, R122). -/
def execAnswerEnd (line : AnswerLine) (s : State) : Host.Outcome State Fault Refusal :=
  .next (match s.link.state with
    | .sendingAnswer o => s.ownFrameAccepted o line.atEnd (decodeAnswer o.content.kind line.field)
    | .listeningAnswer f => s.heardAnswerEnd f line
    | _ => s)

/-! ### Truncation and loss of synchronization (R119, R124) -/

/-- R119: the frame is dropped; the line has been recessive for 2T. -/
def State.truncated (s : State) : State := s.linkIdle (.released (2 * s.bitTime))

/-- TRUNCATION (R119). In the answer field too it hands the lock engine nothing: what an answer start did
stands, and a GRANT's waiters stay as they are (R79, log 8). At a sender every other sender's stop is a
collision first (log 13). -/
def execTruncation (s : State) : Host.Outcome State Fault Refusal :=
  .next (match s.link.state with
    | .listening => s.truncated
    | .vetoSlot _ => s.truncated
    | .listeningAnswer _ => s.truncated
    | .arbitrating o =>
      if (s.collide o).link.state = .listening then (s.collide o).truncated else s.collide o
    | .sending o =>
      if (s.collide o).link.state = .listening then (s.collide o).truncated else s.collide o
    | _ => s)

/-- R124: SEEKING, and the membership unit is told. -/
def State.loseSync (s : State) : State := s.linkSeeking.lossReported

/-- R124: a sender meets the pattern as a collision and then as a listener. -/
def State.collideAndLoseSync (s : State) (o : OwnFrame) : State :=
  let s₁ := s.collide o
  if s₁.link.state = .listening then s₁.loseSync else s₁

/-- LOSS_OF_SYNCHRONIZATION (R124). In SEEKING a pulse sets the recessive time back to 0 (R111). A listener that
has sampled the last check bit and decided its veto still measures that bit's pulse (R109), and stops the veto
where it loses synchronization on it. The answer field knows no loss of synchronization (R120). -/
def execLossOfSynchronization (s : State) : Host.Outcome State Fault Refusal :=
  .next (match s.link.state with
    | .idle => s.loseSync
    | .listening => s.loseSync
    | .vetoSlot _ => s.loseSync
    | .leading => s.loseSync
    | .arbitrating o => s.collideAndLoseSync o
    | .sending o => s.collideAndLoseSync o
    | .seeking => s.linkSeeking
    | _ => s)

/-! ### Idle regained (R111) -/

/-- R111: 12T of recessive line. -/
def State.idleGap (s : State) : Nat := 12 * s.bitTime

/-- R89, R111: IDLE after 12T; in JOINING the own JOIN is wanted. -/
def State.regainIdle (s : State) : State :=
  let s₁ := s.linkIdle (.released s.idleGap)
  if s.member.station = .joining then s₁.wantJoin else s₁

/-- IDLE_REGAINED (R111): the line is recessive. -/
def execIdleRegained (s : State) : Host.Outcome State Fault Refusal :=
  .next (match s.link.state with
    | .seeking => if s.link.line = .recessive then s.regainIdle else s
    | _ => s)

end Sys2Proof.Machine
end

