-- ==== Sys2Proof/Machine/Ring.lean ====
section
/-! DEFINITION. The slot processor's taking of the slot at CURRENT (R147 to R150). -/

namespace Sys2Proof.Machine

open Sys2Proof

/-- R150: a well-formed request, with the fields its kind uses. -/
inductive Request
  | acquire (context : Context) (resource : Resource) (policy : WaitPolicy) (waitLimit : Option (BitVec 16))
  | release (context : Context) (resource : Resource)
  | query (resource : Resource)
  | cancel (target : SlotIx)
  deriving DecidableEq, Repr

/-- R149: the wait policy of an ACQUIRE with its wait limit; none for policy 3 and for LIMITED with 0. -/
def Slot.waitPolicy (sl : Slot) : Option (WaitPolicy × Option (BitVec 16)) :=
  if sl.policy = 0 then some (.nowait, none)
  else if sl.policy = 1 then some (.wait, none)
  else if sl.policy = 2 then
    if sl.waitLimit = 0 then none else some (.limited, some sl.waitLimit)
  else none

/-- R149: the context of an ACQUIRE or RELEASE; none above 7. -/
def Slot.requestContext (sl : Slot) : Option Context :=
  if h : sl.context.toNat < 8 then some ⟨sl.context.toNat, h⟩ else none

/-- R149, R150: the request in a slot; none when it is MALFORMED. -/
def Slot.request (sl : Slot) : Option Request :=
  if sl.kind = 1 then
    match sl.requestContext, sl.waitPolicy with
    | some c, some (p, limit) => some (.acquire c sl.resource p limit)
    | _, _ => none
  else if sl.kind = 2 then sl.requestContext.map (fun c => .release c sl.resource)
  else if sl.kind = 3 then some (.query sl.resource)
  else if sl.kind = 4 then
    if h : sl.target.toNat < 24 then some (.cancel ⟨sl.target.toNat, h⟩) else none
  else none

/-- R38: a deadline is the wait limit in ms, counted from the taking. -/
def deadlineOf (waitLimit : BitVec 16) : Timer := waitLimit.toNat * 1000

/-- R150: a request is handed to the lock engine, with the slot's index. -/
def State.hand (s : State) (id : Nat) (i : SlotIx) : Request → State
  | .acquire c r p limit => s.acquire ⟨id, r, c, i, p, limit.map deadlineOf⟩
  | .release c r => s.release i c r
  | .query r => s.queryRequest id i r
  | .cancel target => s.cancel i target

/-- R146, R147: CURRENT is raised by 1, modulo 24. -/
def State.advance (s : State) : State := s.withRing { s.ring with current := s.ring.current + 1 }

/-- R147: a well-formed request is taken: the slot goes PENDING with its result part absent. -/
def State.takeRequest (s : State) (i : SlotIx) (q : Request) : State :=
  let s₁ := s.setSlot i { s.slot i with state := .pending, result := .absent }
  (s₁.withLock { s₁.lock with takings := s₁.lock.takings + 1 }).hand s.lock.takings i q

/-- R147: the slot at CURRENT is handled by its state. -/
def State.take (s : State) (i : SlotIx) : State :=
  match (s.slot i).state with
  | .pending => s.withRing { s.ring with stalled := true }
  | .empty => (s.completeBare i .unfilled).advance
  | .done => (s.completeBare i .unfilled).advance
  | .filled =>
    match (s.slot i).request with
    | some q => (s.takeRequest i q).advance
    | none => (s.completeBare i .malformed).advance

/-- R147: slots are taken while CURRENT differs from END and the ring is not stalled. -/
def State.takingDue (s : State) : Bool :=
  !s.ring.stalled && decide (s.ring.current ≠ s.ring.endIx)

/-- TAKING. -/
def execTaking (s : State) : Host.Outcome State Fault Refusal :=
  .next (if s.takingDue then s.take s.ring.current else s)

end Sys2Proof.Machine
end

