-- ==== Sys2Proof/Machine/Flags.lean ====
section
/-! DEFINITION. What the pins and the window show of the state: IRQ_N (R165), the ring status (R154), the
views (R181, R182), the byte at each address of the window (R180), and what this station drives onto the
link (R113, R114, R116, R120). Reads of the window change nothing but at the two locations whose reads are
commands (R178). -/

namespace Sys2Proof.Machine

open Sys2Proof

/-! ### Pins -/

/-- R165, R168: whether IRQ_N is asserted (driven low). -/
def State.irqAsserted (s : State) : Bool :=
  !s.notices.records.isEmpty && s.config.accepted && s.config.interruptEnable

/-- R113, R114: the bits a sender sends from the arbitration field to the check field. -/
def frameBits (f : LinkFrame) : List Bool := checkedBits f ++ bitsOf f.check

/-- R116: the bit a sender sends in the veto slot of an own frame: a 1, whose bit start it makes, unless it finds a
condition of its own, which it drives into the slot as any station does. -/
def State.sentVetoBit (s : State) (o : OwnFrame) : Bool := !s.vetoes (linkFrame s.own o.content)

/-- R120: what a sender sends in the answer field: 28 bits, each a 1. -/
def sentAnswerField : List Bool := List.replicate 28 true

/-- R112 to R116, R120: the bits whose bit starts a sender makes: from the arbitration field to the veto slot, and
then, where the frame has passed it, the answer field. -/
def State.sentBits (s : State) : Option (List Bool) :=
  match s.link.state with
  | .arbitrating o => some (frameBits (linkFrame s.own o.content) ++ [s.sentVetoBit o])
  | .sending o => some (frameBits (linkFrame s.own o.content) ++ [s.sentVetoBit o])
  | .sendingAnswer _ => some sentAnswerField
  | _ => none

/-- R112: whether this station drives the line dominant as its lead: for 2T from the lead's begin. -/
def State.drivesLead (s : State) : Bool :=
  match s.link.state with
  | .leading => decide (s.link.clock < 2 * s.bitTime)
  | _ => false

/-- R115, R116: whether this station drives the veto slot of the frame now passing, its own included. -/
def State.drivesVeto (s : State) : Bool :=
  match s.link.state with
  | .vetoSlot vetoing => vetoing
  | .sending o => !s.sentVetoBit o
  | _ => false

/-- R120: the answer this station is writing into the frame now passing. -/
def State.drivenAnswer (s : State) : Option (BitVec 28) :=
  match s.link.state with
  | .listeningAnswer f => f.answer
  | _ => none

/-! ### Ring status (R154) -/

def State.pendingCount (s : State) : Nat :=
  s.ring.slots.toList.countP (fun sl => decide (sl.state = .pending))

def State.ringIdle (s : State) : Bool :=
  decide (s.ring.current = s.ring.endIx) && decide (s.pendingCount = 0)

/-- R180: bit 0 IDLE, bit 1 STALLED, bit 2 REFUSED_WRITE, bit 3 post lock. -/
def State.ringStatus (s : State) : Byte :=
  (0 : BitVec 4) ++ BitVec.ofBool s.ring.postLock ++ BitVec.ofBool s.ring.refusedWrite
    ++ BitVec.ofBool s.ring.stalled ++ BitVec.ofBool s.ringIdle

/-! ### Views (R181, R182) -/

def StationState.number : StationState → Byte
  | .unconfigured => 0
  | .offline => 1
  | .joining => 2
  | .member => 3
  | .leaving => 4
  | .refused => 5

/-- R110, R181: ARBITRATING runs from the lead's begin; SENDING and LISTENING to the frame's end. -/
def LinkState.number : LinkState → Byte
  | .off => 0
  | .seeking => 1
  | .idle => 2
  | .leading => 3
  | .arbitrating _ => 3
  | .sending _ => 4
  | .sendingAnswer _ => 4
  | .listening => 5
  | .vetoSlot _ => 5
  | .listeningAnswer _ => 5

def Presence.number : Presence → Byte
  | .unknown => 0
  | .present => 1
  | .absent => 2

/-- R181: bit 0 accepted, bit 1 CONFIG_REJECTED. -/
def State.configFlags (s : State) : Byte :=
  (0 : BitVec 6) ++ BitVec.ofBool s.config.rejected ++ BitVec.ofBool s.config.accepted

/-- R181: the fourteen bytes of the station status view. -/
def State.statusView (s : State) : List Byte :=
  [s.member.station.number, s.link.state.number, s.configFlags,
    if s.config.accepted then s.config.stationNumber else 0]
    ++ bytes16 (s.member.ownTag.getD 0) ++ bytes16 (s.config.digest.getD 0)
    ++ [BitVec.ofNat 8 s.notices.records.length, (BitVec.ofBool s.notices.overflow).setWidth 8,
      BitVec.ofNat 8 s.queue.frames.length, BitVec.ofNat 8 s.lock.wants.length,
      BitVec.ofNat 8 s.lock.entries.length, BitVec.ofNat 8 s.lostEntries]

/-- R182: the four bytes of a member record; those of station 0 read 0. -/
def State.memberView (s : State) (x : StationNo) : List Byte :=
  if x = 0 then [0, 0, 0, 0]
  else (s.record x).state.number :: (bytes16 ((s.record x).tag.getD 0) ++ [(s.record x).epoch])

/-! ### The window (R180) -/

/-- R180: the byte a read of an address returns. At the post lock and pop locations it is the byte, while
the read's effect is POST_LOCK_READ's and POP_READ's. -/
def State.windowByte (s : State) (address : BitVec 12) : Byte :=
  let a := address.toNat
  if h : a < 19 then s.config.read ⟨a, h⟩
  else if 0x020 ≤ a ∧ a < 0x02E then s.statusView.getD (a - 0x020) 0
  else if a = 0x040 then s.ringStatus
  else if a = 0x041 then BitVec.ofNat 8 s.pendingCount
  else if a = 0x042 then BitVec.ofNat 8 s.ring.current.val
  else if a = 0x043 then BitVec.ofNat 8 s.ring.endIx.val
  else if a = 0x044 then (BitVec.ofBool s.ring.postLock).setWidth 8
  else if 0x050 ≤ a ∧ a < 0x05C then (popBytes s.notices.records.head?).getD (a - 0x050) 0
  else if h : 0x100 ≤ a ∧ a < 0x280 then
    (s.slot ⟨(a - 0x100) / 16, by omega⟩).read ⟨(a - 0x100) % 16, by omega⟩
  else if 0x300 ≤ a ∧ a < 0x380 then
    (s.memberView (BitVec.ofNat 5 ((a - 0x300) / 4))).getD ((a - 0x300) % 4) 0
  else 0

end Sys2Proof.Machine
end

