-- ==== Sys2Proof/Machine/Timers.lean ====
section
/-! DEFINITION. Expiries of the lock engine's timers (R11, R36, R38, R59, R69) and of the membership
unit's (R97, R101, R102). An expiry of a timer that does not run changes nothing (log 4). -/

namespace Sys2Proof.Machine

open Sys2Proof

/-- The deadline of an entry in DEFERRED, CLAIMING or WAITING, while it runs. -/
def LockEntry.deadline (e : LockEntry) : Option Timer := e.claimant.bind Claimant.deadline

def LockEntry.probe (e : LockEntry) : Option Timer :=
  match e.state with
  | .waiting _ _ _ _ _ _ p => p
  | _ => none

def LockEntry.claimRetry (e : LockEntry) : Option Timer :=
  match e.state with
  | .claiming _ _ _ _ r => r
  | _ => none

def LockEntry.grantRetry (e : LockEntry) : Option Timer :=
  match e.state with
  | .handing _ _ _ g => g
  | _ => none

/-- R38, R39: the expiry acts at once, or is held while a CLAIM of the entry is on the link. -/
def State.expireDeadline (s : State) (e : LockEntry) : State :=
  if s.ownerOnLink (.entry e.id) then
    if e.held.contains .deadline then s else s.holdAction e.id .deadline
  else s.endWait e .timedOut

/-- DEADLINE_EXPIRY (R38). -/
def execDeadlineExpiry (slot : SlotIx) (s : State) : Host.Outcome State Fault Refusal :=
  .next (match s.entryAt slot with
    | some e => if e.deadline.isSome then s.expireDeadline e else s
    | none => s)

/-- PROBE_TIMER_EXPIRY (R69): the timer becomes absent and a probe is wanted. -/
def execProbeTimerExpiry (slot : SlotIx) (s : State) : Host.Outcome State Fault Refusal :=
  .next (match s.entryAt slot with
    | some e => if e.probe.isSome then s.immediateProbe e else s
    | none => s)

/-- R36: the timer becomes absent and the entry is evaluated again; its DEFERRED siblings follow unless
it was left in local retry pending. -/
def State.expireClaimRetry (s : State) (e : LockEntry) : State :=
  match e.state with
  | .claiming c sl p d _ =>
    let s₁ := (s.setEntry e.id (.claiming c sl p d none)).reevaluate e.id
    match s₁.entry e.id with
    | some e₁ => if e₁.claimRetry.isSome then s₁ else s₁.reevaluateDeferred e.resource
    | none => s₁.reevaluateDeferred e.resource
  | _ => s

/-- CLAIM_RETRY_EXPIRY (R36). -/
def execClaimRetryExpiry (slot : SlotIx) (s : State) : Host.Outcome State Fault Refusal :=
  .next (match s.entryAt slot with
    | some e => if e.claimRetry.isSome then s.expireClaimRetry e else s
    | none => s)

/-- R59: the timer becomes absent and a GRANT for the same offered ticket is wanted. -/
def State.expireGrantRetry (s : State) (e : LockEntry) : State :=
  match e.state with
  | .handing serve issue offered _ =>
    (s.setEntry e.id (.handing serve issue offered none)).raiseWant (.entry e.id)
  | _ => s

/-- GRANT_RETRY_EXPIRY (R59). -/
def execGrantRetryExpiry (resource : Resource) (s : State) : Host.Outcome State Fault Refusal :=
  .next (match s.holderOf resource with
    | some e => if e.grantRetry.isSome then s.expireGrantRetry e else s
    | none => s)

/-- R97: in MEMBER a DEPART is wanted, with the recorded tag or 0; in JOINING and LEAVING the timer
restarts. -/
def State.expireSilence (s : State) (x : StationNo) : State :=
  match s.member.station with
  | .member =>
    (s.setRecord x { s.record x with silence := none }).wantDepart x ((s.record x).tag.getD 0)
  | .joining => s.restartSilence x
  | .leaving => s.restartSilence x
  | _ => s

/-- SILENCE_TIMER_EXPIRY (R97). -/
def execSilenceTimerExpiry (station : StationNo) (s : State) : Host.Outcome State Fault Refusal :=
  .next (if (s.record station).silence.isSome then s.expireSilence station else s)

/-- R101: the timer restarts and a BEACON with the own tag is wanted; one already queued stands. -/
def State.expireBeacon (s : State) : State :=
  let s₁ := s.withMember { s.member with beaconTimer := some s.beaconInterval }
  match s.member.ownTag with
  | some t => s₁.placeMember (.beacon t)
  | none => s₁

/-- BEACON_TIMER_EXPIRY (R101): the timer runs in MEMBER alone. -/
def execBeaconTimerExpiry (s : State) : Host.Outcome State Fault Refusal :=
  .next (if s.member.station = .member ∧ s.member.beaconTimer.isSome then s.expireBeacon else s)

/-- FENCE_TIMER_EXPIRY (R102, R103): the timer runs in MEMBER alone. -/
def execFenceTimerExpiry (s : State) : Host.Outcome State Fault Refusal :=
  .next (if s.member.station = .member ∧ s.member.fenceTimer.isSome then s.fence .silence else s)

end Sys2Proof.Machine
end

