-- ==== Sys2Proof/Machine/Clock.lean ====
section
/-! DEFINITION. What the station does of itself: the events that are due, and the passing of one
microsecond (log 2). Which of several due events comes first is a free value (log 3). -/

namespace Sys2Proof.Machine

open Sys2Proof

/-! ### Events that are due -/

/-- The expiries of one lock entry that are due; a deadline already held is due no more (R39). -/
def LockEntry.due (e : LockEntry) : List Instr :=
  match e.slot with
  | some i =>
    (if e.deadline = some 0 ∧ e.held.contains .deadline = false then [.deadlineExpiry i] else [])
      ++ (if e.probe = some 0 then [.probeTimerExpiry i] else [])
      ++ (if e.claimRetry = some 0 then [.claimRetryExpiry i] else [])
  | none => if e.grantRetry = some 0 then [.grantRetryExpiry e.resource] else []

/-- R97: the silence timers that are due. -/
def State.silenceDue (s : State) : List Instr :=
  (List.range 32).flatMap (fun n =>
    if (s.record (BitVec.ofNat 5 n)).silence = some 0 then [.silenceTimerExpiry (BitVec.ofNat 5 n)]
    else [])

/-- R101, R102: the beacon and fence timers, where due. -/
def State.ownTimersDue (s : State) : List Instr :=
  (if s.member.station = .member ∧ s.member.beaconTimer = some 0 then [.beaconTimerExpiry] else [])
    ++ (if s.member.station = .member ∧ s.member.fenceTimer = some 0 then [.fenceTimerExpiry] else [])

/-- R111, R112, R120: idle regained, a lead, its arbitration start, or an answer start. The first two wait
for a recessive line. -/
def State.linkDue (s : State) : List Instr :=
  match s.link.state with
  | .seeking => if s.idleGap ≤ s.link.idle ∧ s.link.line = .recessive then [.idleRegained] else []
  | .idle =>
    if s.idleGap ≤ s.link.idle ∧ s.link.line = .recessive ∧ s.queue.frames.isEmpty = false then
      [.lead .begins]
    else []
  | .leading => if 3 * s.bitTime ≤ s.link.clock then [.lead .arbitrationStart] else []
  | .listeningAnswer f => if f.demanded then [] else [.answerStart]
  | _ => []

/-- The station's own events that are due. In reset there is none (R175). -/
def State.due (s : State) : List Instr :=
  if s.resetHeld then []
  else
    (if s.takingDue then [.taking] else []) ++ s.lock.entries.flatMap LockEntry.due ++ s.silenceDue
      ++ s.ownTimersDue ++ s.linkDue

/-- Log 3: one due event is taken; of several, the one that the free value names. -/
def State.chooseDue (s : State) : Option (Instr × State) :=
  match s.due with
  | [] => none
  | [c] => some (c, s)
  | c :: l =>
    some ((c :: l).getD (Config.freeChoice s.freeCount % (c :: l).length) c,
      s.withFreeCount (s.freeCount + 1))

/-! ### One microsecond (R11, R97, R100 to R102, R110, R111) -/

def tickTimer (t : Option Timer) : Option Timer := t.map (· - 1)

def EntryState.tick : EntryState → EntryState
  | .deferred c sl p d => .deferred c sl p (tickTimer d)
  | .claiming c sl p d r => .claiming c sl p (tickTimer d) (tickTimer r)
  | .waiting c sl t h ep d p => .waiting c sl t h ep (tickTimer d) (tickTimer p)
  | .holding c n serve issue noted => .holding c n serve issue noted
  | .handing serve issue offered g => .handing serve issue offered (tickTimer g)
  | .lost c n => .lost c n

def MembershipUnit.tick (m : MembershipUnit) : MembershipUnit :=
  { m with
    records := m.records.map (fun r => { r with silence := tickTimer r.silence })
    beaconTimer := tickTimer m.beaconTimer
    fenceTimer := tickTimer m.fenceTimer }

/-- R111: in IDLE and SEEKING the idle count runs while the line is recessive, and a pulse is measured
while it is not. -/
def Transceiver.countIdle (t : Transceiver) : Transceiver :=
  if t.line = .recessive then { t with idle := t.idle + 4 } else { t with clock := t.clock + 4 }

/-- The idle count runs in IDLE and SEEKING, the time since the lead edge while a frame passes; both in
quarter microseconds (log 16). -/
def Transceiver.tick (t : Transceiver) : Transceiver :=
  match t.state with
  | .off => t
  | .seeking => t.countIdle
  | .idle => t.countIdle
  | _ => { t with clock := t.clock + 4 }

/-- One microsecond of the reference clock; in reset nothing counts. -/
def State.tick (s : State) : State :=
  if s.resetHeld then s
  else
    { s with
      lock := { s.lock with entries := s.lock.entries.map (fun e => { e with state := e.state.tick }) }
      member := s.member.tick
      link := s.link.tick
      elapsed := s.elapsed + 1 }

end Sys2Proof.Machine
end

