-- ==== Sys2Proof/Machine/Dispatch.lean ====
section
/-! DEFINITION. The effect of every command on everything but the queue of commands: one arm per
constructor of Instr. -/

namespace Sys2Proof.Machine

open Sys2Proof

def exec (i : Instr) (s : State) : Host.Outcome State Fault Refusal :=
  match i with
  | .commit => Sys2Proof.Machine.execCommit s
  | .start => Sys2Proof.Machine.execStart s
  | .leave => Sys2Proof.Machine.execLeave s
  | .restart => Sys2Proof.Machine.execRestart s
  | .configurationWrite offset value => Sys2Proof.Machine.execConfigurationWrite offset value s
  | .slotWrite slot bytes => Sys2Proof.Machine.execSlotWrite slot bytes s
  | .endWrite value => Sys2Proof.Machine.execEndWrite value s
  | .postLockRead whole => Sys2Proof.Machine.execPostLockRead whole s
  | .postLockWrite value => Sys2Proof.Machine.execPostLockWrite value s
  | .refusedWriteClear value => Sys2Proof.Machine.execRefusedWriteClear value s
  | .popRead fresh offset count => Sys2Proof.Machine.execPopRead fresh offset count s
  | .ignoredWrite address value => Sys2Proof.Machine.execIgnoredWrite address value s
  | .resetPin => Sys2Proof.Machine.execResetPin s
  | .powerOn => Sys2Proof.Machine.execPowerOn s
  | .taking => Sys2Proof.Machine.execTaking s
  | .deadlineExpiry slot => Sys2Proof.Machine.execDeadlineExpiry slot s
  | .probeTimerExpiry slot => Sys2Proof.Machine.execProbeTimerExpiry slot s
  | .claimRetryExpiry slot => Sys2Proof.Machine.execClaimRetryExpiry slot s
  | .grantRetryExpiry resource => Sys2Proof.Machine.execGrantRetryExpiry resource s
  | .lead phase => Sys2Proof.Machine.execLead phase s
  | .leadHeard => Sys2Proof.Machine.execLeadHeard s
  | .arbitrationLost => Sys2Proof.Machine.execArbitrationLost s
  | .collision => Sys2Proof.Machine.execCollision s
  | .vetoSlotEnd heard moment => Sys2Proof.Machine.execVetoSlotEnd heard moment s
  | .answerStart => Sys2Proof.Machine.execAnswerStart s
  | .answerEnd line => Sys2Proof.Machine.execAnswerEnd line s
  | .truncation => Sys2Proof.Machine.execTruncation s
  | .lossOfSynchronization => Sys2Proof.Machine.execLossOfSynchronization s
  | .idleRegained => Sys2Proof.Machine.execIdleRegained s
  | .silenceTimerExpiry station => Sys2Proof.Machine.execSilenceTimerExpiry station s
  | .beaconTimerExpiry => Sys2Proof.Machine.execBeaconTimerExpiry s
  | .fenceTimerExpiry => Sys2Proof.Machine.execFenceTimerExpiry s
  | .resetRelease => Sys2Proof.Machine.execResetRelease s
  | .arbitrationFieldPassed => Sys2Proof.Machine.execArbitrationFieldPassed s

end Sys2Proof.Machine
end

