-- ==== Sys2Proof/Machine/Step.lean ====
section
/-! DEFINITION. One step: the command at the front of the queue; on an empty queue one of the station's
own events that are due, or one microsecond (log 2). -/

namespace Sys2Proof.Machine

open Sys2Proof

/-- A step on an empty queue (log 2, log 3). -/
def ownStep (s : State) : Host.Outcome State Fault Refusal :=
  match s.chooseDue with
  | some (c, s') => exec c s'
  | none => .next s.tick

def step (s : State) : Host.Outcome State Fault Refusal :=
  match s.pending with
  | c :: rest => exec c (s.withPending rest)
  | [] => ownStep s

/-- The command that a word spells is put at the front of the queue; the table's words spell none. -/
def State.withFetchWord (s : State) (nbits w : Nat) : State :=
  match decodeTableWord nbits w with
  | some c => s.withPending (c :: s.pending)
  | none => s

end Sys2Proof.Machine
end

