-- ==== Sys2Proof/Machine/Reads.lean ====
section
/-! DEFINITION. Read transactions (R177, R179): which bytes are fixed together, which parts of a read are
commands, and what the transaction clocks out. -/

namespace Sys2Proof.Machine

open Sys2Proof

/-- A part of a read transaction: bytes of one record or location that change nothing, fixed at this part's
moment (`view`) or, for a record that the transaction has reached before, at that earlier one (`kept`); one of
the two reads that change state; or the byte in which the transaction ends (`begun`). -/
inductive ReadPart
  | view (address : BitVec 12) (count : Nat)
  | kept (address : BitVec 12) (count : Nat)
  | effect (command : Instr)
  | begun (address : BitVec 12)
  deriving DecidableEq, Repr

/-- R179: the first address of the record that an address lies in; none for a location fixed at its own
byte. -/
def recordBase (a : Nat) : Option Nat :=
  if 0x020 ≤ a ∧ a < 0x02E then some 0x020
  else if 0x040 ≤ a ∧ a < 0x044 then some 0x040
  else if 0x050 ≤ a ∧ a < 0x05C then some 0x050
  else if 0x100 ≤ a ∧ a < 0x280 then some (a - a % 16)
  else if 0x300 ≤ a ∧ a < 0x380 then some (a - a % 4)
  else none

/-- R179: how many bytes of the record that an address lies in stand from that address on. -/
def recordRest (a : Nat) : Nat :=
  if 0x020 ≤ a ∧ a < 0x02E then 0x02E - a
  else if 0x040 ≤ a ∧ a < 0x044 then 0x044 - a
  else if 0x050 ≤ a ∧ a < 0x05C then 0x05C - a
  else if 0x100 ≤ a ∧ a < 0x280 then 16 - a % 16
  else if 0x300 ≤ a ∧ a < 0x380 then 4 - a % 4
  else 1

/-- R155, R163, R179: the part that `count` bytes from an address are, all of one record; `seen`: the records
that the transaction has reached before. That the 0 past byte 11 of a pop record is read at the pop location and
where nothing is mapped, and other locations that the same transaction reaches return their content, is the
model's choice (log 40). -/
def readPart (seen : List Nat) (address : BitVec 12) (count : Nat) : ReadPart :=
  let a := address.toNat
  if a = 0x044 then .effect (.postLockRead true)
  else if h : 0x050 ≤ a ∧ a < 0x05C then
    .effect (.popRead (!seen.contains 0x050) ⟨a - 0x050, by omega⟩ count)
  else if (recordBase a).any seen.contains then .kept address count
  else .view address count

/-- R177: the address goes up by 1 after each byte and wraps; R179: each record is one part. The number of
bytes bounds the number of parts. -/
def readParts (seen : List Nat) (address : BitVec 12) : (parts : Nat) → (count : Nat) → List ReadPart
  | 0, _ => []
  | _, 0 => []
  | parts + 1, count + 1 =>
    let n := min (count + 1) (recordRest address.toNat)
    readPart seen address n
      :: readParts ((recordBase address.toNat).toList ++ seen) (address + BitVec.ofNat 12 n) parts
        (count + 1 - n)

/-- R177, R179: the parts of the byte in which a read ends: its first bits are clocked out, and at the post
lock it takes nothing. -/
def cutParts (address : BitVec 12) : List ReadPart :=
  if address = 0x044 then [.effect (.postLockRead false), .begun address] else [.begun address]

/-- R177, R179: a read transaction that clocks out `count` whole bytes; `cut`: it ends inside one more. -/
def readTransaction (h₀ h₁ : Byte) (count : Nat) (cut : Bool) : List ReadPart :=
  if h₀.msb then
    readParts [] (headerAddress h₀ h₁) count count
      ++ (if cut then cutParts (headerAddress h₀ h₁ + BitVec.ofNat 12 count) else [])
  else []

/-- R177: the bits of the header, and of the header with the turnaround byte. -/
def headerBits : Nat := 16
def turnaroundEnd : Nat := 24

/-- R177: the parts of a read transaction from the bits that MOSI carried in it, one for each rising edge of
SCK: after the header and the turnaround byte every eight edges clock a byte out, and MOSI is ignored. -/
def readTransactionBits (mosi : List Bool) : List ReadPart :=
  match wholeBytes (mosi.take headerBits) with
  | [h₀, h₁] =>
    readTransaction h₀ h₁ ((mosi.length - turnaroundEnd) / 8)
      (decide ((mosi.length - turnaroundEnd) % 8 ≠ 0))
  | _ => []

/-- R175, R178: the parts of a read transaction. One that meets reset has those before it, whose effects the
reset undoes (R174), and none after it. -/
def Transaction.reads (t : Transaction) : List ReadPart := readTransactionBits t.taken

/-- R178, R179: the bytes a view part returns, as they stand at its moment. While reset is held the port takes
no transaction (R175), and that nothing is then clocked out is the model's choice (log 35). -/
def State.viewBytes (s : State) (address : BitVec 12) (count : Nat) : List Byte :=
  if s.resetHeld then []
  else (List.range count).map (fun i => s.windowByte (address + BitVec.ofNat 12 i))

/-- R179: whether a part fixed the record that an address lies in; a location outside the records is fixed at its
own byte. -/
def ReadPart.fixes (p : ReadPart) (address : BitVec 12) : Bool :=
  match p with
  | .view a _ => (recordBase address.toNat).any (fun b => decide (recordBase a.toNat = some b))
  | .kept _ _ => false
  | .effect _ => false
  | .begun _ => false

/-- R179: whether a part is a read of the pop location, which fixes its record. -/
def ReadPart.isPop : ReadPart → Bool
  | .effect (.popRead _ _ _) => true
  | _ => false

/-- R179: the state in which the record that an address lies in was fixed. -/
def fixedIn (earlier : List (ReadPart × State)) (address : BitVec 12) (s : State) : State :=
  match earlier.find? (fun q => q.1.fixes address) with
  | some q => q.2
  | none => s

/-- R179: the byte whose first bits a read clocks out before it ends: that of its record as fixed, the pop
record's where the transaction has fixed one. -/
def State.begunByte (s : State) (earlier : List (ReadPart × State)) (address : BitVec 12) : List Byte :=
  if earlier.any (fun q => q.1.isPop) && decide (0x050 ≤ address.toNat ∧ address.toNat < 0x05C) then
    [(popBytes s.port.popRecord).getD (address.toNat - 0x050) 0]
  else (fixedIn earlier address s).viewBytes address 1

/-- R179: the bytes of one part. `s` is the state at its moment, for a command the state after it; `earlier`:
the parts before it, each with its own state. -/
def ReadPart.bytes (earlier : List (ReadPart × State)) (p : ReadPart) (s : State) : List Byte :=
  match p with
  | .view a n => s.viewBytes a n
  | .kept a n => (fixedIn earlier a s).viewBytes a n
  | .effect _ => s.port.miso
  | .begun a => s.begunByte earlier a

/-- R179: the data bytes of a read transaction, its parts each with the state at its moment. -/
def readBytes (earlier : List (ReadPart × State)) : List (ReadPart × State) → List Byte
  | [] => []
  | (p, s) :: l => p.bytes earlier s ++ readBytes (earlier ++ [(p, s)]) l

/-- R177: what MISO carries after the header: 0 through the turnaround byte, then the data, most significant
bit first. -/
def misoBits (data : List Byte) : List Bool := List.replicate 8 false ++ data.flatMap bitsOf

/-- R177: the direction bit comes first. -/
def Transaction.isRead (t : Transaction) : Bool := t.taken.head?.getD false

/-- R177: the MISO pin: high-impedance (none) while CS_N is high, as `edge` none says; at the rising edge `edge`
of SCK the bit it carries, for the bytes that the transaction reads (`readBytes`). A transaction that ends inside
a byte carries the first bits of it. Where neither R177 nor R175 gives a value it is a free one (log 35, log 41). -/
def Transaction.misoPin (t : Transaction) (data : List Byte) (edge : Option Nat) : Option Bool :=
  edge.map (fun i =>
    if t.isRead && decide (headerBits ≤ i ∧ i < t.taken.length) then
      (misoBits data)[i - headerBits]?.getD (Config.misoUnstated i)
    else Config.misoUnstated i)

end Sys2Proof.Machine
end

