-- ==== Sys2Proof/Safety.lean ====
section
/-! DEFINITION. The properties that every step keeps and that hold after reset: the capacities, the
configuration record and the station state, the notice a pop read has fixed, one owner per resource, the
spans of holder entries, the hold limits, what the lock engine holds outside MEMBER, the PENDING slots, and the
frames and wants that their owners allow. -/

namespace Sys2Proof.Machine

open Sys2Proof

/-- R1, R128, R159: at most 16 notices, 32 lock entries and 6 lock-engine frames. -/
def State.WithinCapacities (s : State) : Prop :=
  s.notices.records.length ≤ 16 ∧ s.lock.entries.length ≤ 32 ∧
    s.queue.frames.countP (fun f => f.kind.isLock) ≤ 6

/-- R87, R169, R171: the accepted flag is set in every station state but UNCONFIGURED; the digest is
present with it, computed from the record; and an accepted record is in range and not rejected. -/
def State.RecordAgrees (s : State) : Prop :=
  (s.config.accepted = true ↔ s.member.station ≠ .unconfigured) ∧
  s.config.digest = (if s.config.accepted then some (groupDigest s.config) else none) ∧
  (s.config.accepted = true → s.config.inRange = true ∧ s.config.rejected = false)

/-- R163: the notice a pop read has fixed is the head of the queue until it is removed. -/
def State.PopHoldsTheHead (s : State) : Prop :=
  ∀ x, s.port.popRecord = some x → s.notices.records.head? = some x

/-- R3, R13: two entries have different places in taking order, and do not share resource and context; of
one resource, at most one is in HOLDING or HANDING, and a LOST entry stands alone. -/
def LockEntry.Compatible (a b : LockEntry) : Prop :=
  a.id ≠ b.id ∧
    (a.resource = b.resource →
      (∀ c, a.context = some c → b.context ≠ some c) ∧ a.isLost = false ∧ b.isLost = false ∧
      (a.isHolder = true → b.isHolder = false))

/-- R3. -/
def State.OneOwnerPerResource (s : State) : Prop :=
  s.lock.entries.Pairwise LockEntry.Compatible ∧ ∀ e ∈ s.lock.entries, e.id < s.lock.takings

/-- R46: a HOLDING entry has a reentry count of at least 1 and a span of at most the span limit; a HANDING
entry has such a span, and offers ticket serve + 1, which is in queue. -/
def LockEntry.SpanWithin (limit : Nat) (e : LockEntry) : Prop :=
  match e.state with
  | .holding _ n serve issue _ => 1 ≤ n.toNat ∧ (issue - serve - 1).toNat ≤ limit
  | .handing serve issue offered _ =>
    offered = serve + 1 ∧ 1 ≤ (issue - serve - 1).toNat ∧ (issue - serve - 1).toNat ≤ limit
  | _ => True

/-- R46, R87: every holder entry within the span limit, and an empty lock table while UNCONFIGURED. -/
def State.SpansWithinLimit (s : State) : Prop :=
  (s.member.station = .unconfigured → s.lock.entries = []) ∧
  (s.config.accepted = true ↔ s.member.station ≠ .unconfigured) ∧
  ∀ e ∈ s.lock.entries, e.SpanWithin s.spanLimit

/-- R9: no context has more entries that count against its hold limit than that. -/
def State.WithinHoldLimits (s : State) : Prop := ∀ c : Context, s.countedEntries c ≤ s.holdLimit c

/-- R18, R87: outside MEMBER every lock entry is LOST, no QUERY is pending and no want waits. -/
def State.LostOutsideMember (s : State) : Prop :=
  s.member.station ≠ .member →
    (∀ e ∈ s.lock.entries, e.isLost = true) ∧ s.lock.queries = [] ∧ s.lock.wants = []

/-- The slots that an entry in DEFERRED, CLAIMING or WAITING, or a pending QUERY, names (R12, R14). -/
def State.namedSlots (s : State) : List SlotIx :=
  s.lock.entries.filterMap LockEntry.slot ++ s.lock.queries.map PendingQuery.slot

/-- R12, R13, R14, R141: a slot is PENDING exactly when one entry or one pending QUERY names it; the places
in taking order are distinct among entries and among queries, and none is yet to come. -/
def State.PendingSlotsAreNamed (s : State) : Prop :=
  s.namedSlots.Nodup ∧ (∀ i, (s.slot i).state = .pending ↔ i ∈ s.namedSlots) ∧
    (s.lock.entries.map LockEntry.id).Nodup ∧ (s.lock.queries.map PendingQuery.id).Nodup ∧
    (∀ e ∈ s.lock.entries, e.id < s.lock.takings) ∧ ∀ q ∈ s.lock.queries, q.id < s.lock.takings

/-- R14: at most one want per owner, and each of an owner that is there. -/
def State.WantsAreOwned (s : State) : Prop :=
  s.lock.wants.Nodup ∧
    ∀ o ∈ s.lock.wants,
      match o with
      | .entry id => ∃ e ∈ s.lock.entries, e.id = id
      | .query id => ∃ q ∈ s.lock.queries, q.id = id

/-- R127: the lock engine's frames carry no payload of their own; a membership frame carries the payload of its
kind. -/
def FrameRecord.Agrees (f : FrameRecord) : Prop :=
  match f.owner with
  | .lock _ => f.kind.isLock = true ∧ f.payload = none
  | .membership => f.kind.isLock = false ∧ f.payload.map FrameContent.kind = some f.kind

/-- R128: the membership frames that each station state allows: in JOINING and LEAVING a BEACON or a DEPART of
another station only while it is on the link, marked. -/
def State.Allows (s : State) (f : FrameRecord) : Prop :=
  let carried := s.onLink f = true ∧ f.withdrawn = true
  match s.member.station with
  | .member => f.kind = .beacon ∨ f.departsOther s.own = true
  | .joining => f.kind = .join ∨ carried
  | .leaving => f.departNamed = some s.own ∨ carried
  | .unconfigured => False
  | .offline => False
  | .refused => False

/-- R129: two frames in the queue keep its limits for the membership unit, and have different ages. -/
def FramesApart (own : StationNo) (f g : FrameRecord) : Prop :=
  f.age ≠ g.age ∧ ∀ p q, f.payload = some p → g.payload = some q → memberConflict own p q = false

/-- R98, R128: the pending DEPARTs are of other stations and only a MEMBER has any; the own record has no
silence timer (R97); and while UNCONFIGURED the transceiver is OFF and none runs. -/
def State.DepartsFit (s : State) : Prop :=
  (∀ d ∈ s.member.departs, d.1 ≠ s.own) ∧ (s.member.station ≠ .member → s.member.departs = []) ∧
  (s.record s.own).silence = none ∧
  (s.config.accepted = true ↔ s.member.station ≠ .unconfigured) ∧
  (s.member.station = .unconfigured → s.link.state = .off ∧ ∀ x, (s.record x).silence = none)

/-- R112, R132: the own frame on the link is older than any frame to come, and a membership frame goes as it
was placed. -/
def State.SendsWhatIsQueued (s : State) : Prop :=
  ∀ o, (s.link.state = .arbitrating o ∨ s.link.state = .sending o ∨ s.link.state = .sendingAnswer o) →
    o.age < s.queue.nextAge ∧
    ∀ f ∈ s.queue.frames, f.age = o.age → f.owner = .membership → f.payload = some o.content

/-- R14, R127 to R129, R189: the wants and the queued frames that their owners and the station state allow. -/
def State.QueuesFit (s : State) : Prop :=
  s.WantsAreOwned ∧ (∀ f ∈ s.queue.frames, f.Agrees ∧ f.age < s.queue.nextAge) ∧
  (∀ f ∈ s.queue.frames, f.kind.isLock = false → s.Allows f) ∧
  s.queue.frames.Pairwise (FramesApart s.own) ∧ s.DepartsFit ∧ s.SendsWhatIsQueued

end Sys2Proof.Machine
end

