-- ==== Sys2Proof/Certificates/Slice0/Obligations.lean ====
section
/-! DEFINITION. The statements about the lock station, from the numbered rules of spec/. Each is a
`def Obligations.<Name> : Prop`; OBLIGATIONS.json lists them. A statement that an instruction runs is an
equation `exec c s = .next t`, so it also says what stays as it was. -/

open Sys2Proof Sys2Proof.Machine

/-! ### The block and its queue of commands -/

/-- A step takes the command at the front of the queue and runs it on the queue's rest. -/
def Obligations.StepRunsTheFrontCommand : Prop :=
  ∀ (c : Instr) (rest : List Instr) (s : Machine.State), s.pending = c :: rest →
    step s = exec c (s.withPending rest)

/-- The model's choice (log 2, log 3): on an empty queue the station runs one of its own events that are
due, or, with none due, one microsecond passes. Holds for every value of the free choice. -/
def Obligations.EmptyQueueRunsADueEventOrTheClock : Prop :=
  ∀ s : Machine.State, s.pending = [] →
    (s.due = [] → step s = .next s.tick) ∧
    (∀ c, s.due = [c] → step s = exec c s) ∧
    (2 ≤ s.due.length → ∃ c ∈ s.due, step s = exec c (s.withFreeCount (s.freeCount + 1)))

/-- An entry's state without its timers. -/
def Sys2Proof.Machine.EntryState.Untimed : EntryState → EntryState
  | .deferred c sl p _ => .deferred c sl p none
  | .claiming c sl p _ _ => .claiming c sl p none none
  | .waiting c sl t h ep _ _ => .waiting c sl t h ep none none
  | .holding c n serve issue noted => .holding c n serve issue noted
  | .handing serve issue offered _ => .handing serve issue offered none
  | .lost c n => .lost c n

/-- The model's clock (log 2, log 16): one microsecond lowers every running timer by 1, raises the
elapsed-time count by 1 and the running one of idle count and pulse or frame clock by four quarters; nothing
else changes. The idle count runs in IDLE and SEEKING while the line is recessive (R111). In reset nothing
counts (R175). -/
def Obligations.ClockTickCountsEveryTimer : Prop :=
  ∀ s : Machine.State,
    (s.resetHeld = true → s.tick = s) ∧
    (s.resetHeld = false →
      s.tick.elapsed = s.elapsed + 1 ∧
      s.tick.member.beaconTimer = s.member.beaconTimer.map (· - 1) ∧
      s.tick.member.fenceTimer = s.member.fenceTimer.map (· - 1) ∧
      (∀ x : StationNo, s.tick.record x
        = { s.record x with silence := (s.record x).silence.map (· - 1) }) ∧
      s.tick.member.station = s.member.station ∧ s.tick.member.ownTag = s.member.ownTag ∧
      s.tick.member.departs = s.member.departs ∧
      s.tick.lock.entries.map (fun e => { e with state := e.state.Untimed })
        = s.lock.entries.map (fun e => { e with state := e.state.Untimed }) ∧
      s.tick.lock.entries.map LockEntry.deadline
        = s.lock.entries.map (fun e => e.deadline.map (· - 1)) ∧
      s.tick.lock.entries.map LockEntry.probe = s.lock.entries.map (fun e => e.probe.map (· - 1)) ∧
      s.tick.lock.entries.map LockEntry.claimRetry
        = s.lock.entries.map (fun e => e.claimRetry.map (· - 1)) ∧
      s.tick.lock.entries.map LockEntry.grantRetry
        = s.lock.entries.map (fun e => e.grantRetry.map (· - 1)) ∧
      s.tick.lock.wants = s.lock.wants ∧ s.tick.lock.queries = s.lock.queries ∧
      s.tick.lock.takings = s.lock.takings ∧
      s.tick.link.state = s.link.state ∧ s.tick.link.line = s.link.line ∧
      s.tick.link.idle
        = (if (s.link.state = .idle ∨ s.link.state = .seeking) ∧ s.link.line = .recessive
          then s.link.idle + 4 else s.link.idle) ∧
      s.tick.link.clock
        = (if s.link.state = .off ∨
              ((s.link.state = .idle ∨ s.link.state = .seeking) ∧ s.link.line = .recessive)
          then s.link.clock else s.link.clock + 4) ∧
      s.tick.queue = s.queue ∧ s.tick.ring = s.ring ∧ s.tick.notices = s.notices ∧
      s.tick.config = s.config ∧ s.tick.port = s.port ∧ s.tick.resetHeld = s.resetHeld ∧
      s.tick.freeCount = s.freeCount ∧ s.tick.pending = s.pending)

/-- What each event that is not the host's or the board's leaves alone: the configuration record, the
host port, the clock, the reset line and the queue of commands. A taking and the lock engine's timers
leave the membership unit and the transceiver too; the beacon and silence timers leave the lock engine, the
slots, the notices and the transceiver; a lead and the arbitration field change the transceiver alone. -/
def Obligations.StationEventsLeaveHostSideAlone : Prop :=
  ∀ (c : Instr) (s t : Machine.State), exec c s = .next t →
    (c = .taking ∨ (∃ i, c = .deadlineExpiry i) ∨ (∃ i, c = .probeTimerExpiry i) ∨
      (∃ i, c = .claimRetryExpiry i) ∨ (∃ r, c = .grantRetryExpiry r) ∨ (∃ p, c = .lead p) ∨
      c = .leadHeard ∨ c = .arbitrationLost ∨ c = .arbitrationFieldPassed ∨ c = .collision ∨
      (∃ f b, c = .vetoSlotEnd f b) ∨ c = .answerStart ∨ (∃ l, c = .answerEnd l) ∨ c = .truncation ∨
      c = .lossOfSynchronization ∨ c = .idleRegained ∨ (∃ x, c = .silenceTimerExpiry x) ∨
      c = .beaconTimerExpiry ∨ c = .fenceTimerExpiry) →
    t.config = s.config ∧ t.port = s.port ∧ t.elapsed = s.elapsed ∧ t.resetHeld = s.resetHeld ∧
      t.freeCount = s.freeCount ∧ t.pending = s.pending ∧
      ((c = .taking ∨ (∃ i, c = .deadlineExpiry i) ∨ (∃ i, c = .probeTimerExpiry i) ∨
        (∃ i, c = .claimRetryExpiry i) ∨ (∃ r, c = .grantRetryExpiry r)) →
        t.member = s.member ∧ t.link = s.link) ∧
      ((c = .beaconTimerExpiry ∨ (∃ x, c = .silenceTimerExpiry x)) →
        t.lock = s.lock ∧ t.ring = s.ring ∧ t.notices = s.notices ∧ t.link = s.link) ∧
      (((∃ p, c = .lead p) ∨ c = .leadHeard ∨ c = .arbitrationFieldPassed) →
        t = s.withLink t.link)

/-! ### Reset, RESTART and the configuration record -/

/-- Every block but the configuration record at the values R174 gives for RESTART. -/
def Sys2Proof.Machine.State.AtRestartValues (t : Machine.State) : Prop :=
  t.lock.entries = [] ∧ t.lock.queries = [] ∧ t.lock.wants = [] ∧ t.queue.frames = [] ∧
  t.link.state = .off ∧ t.link.idle = 0 ∧ t.link.clock = 0 ∧ t.link.line = .recessive ∧
  t.member.ownTag = none ∧ t.member.beaconTimer = none ∧ t.member.fenceTimer = none ∧
  t.member.departs = [] ∧ (∀ x : StationNo, t.record x = ⟨.unknown, none, 0, none⟩) ∧
  (∀ i : SlotIx, t.slot i = ⟨.empty, 0, false, 0, 0, 0, 0, 0, ⟨none, none, none, none, none⟩⟩) ∧
  t.ring.current = 0 ∧ t.ring.endIx = 0 ∧ t.ring.postLock = false ∧ t.ring.stalled = false ∧
  t.ring.refusedWrite = false ∧ t.notices.records = [] ∧ t.notices.overflow = false ∧
  t.irqAsserted = false ∧ t.elapsed = 0 ∧ t.port.popRecord = none

/-- R174. -/
def Obligations.RestartReturnsEveryBlockButTheRecord : Prop :=
  ∀ s : Machine.State, s.resetHeld = false →
    (s.member.station = .unconfigured → exec .restart s = .next s) ∧
    (s.member.station ≠ .unconfigured →
      ∃ t, exec .restart s = .next t ∧ t.AtRestartValues ∧ t.config = s.config ∧
        t.member.station = .offline ∧ t.resetHeld = false ∧ t.pending = s.pending)

/-- R175: the reset pin and power-on; what is held in reset takes nothing from the host; and the release,
after which the station stands as `State.reset` (log 1). -/
def Obligations.ResetPinPowerOnAndRelease : Prop :=
  ∀ s : Machine.State,
    (∃ t, exec .resetPin s = .next t ∧ exec .powerOn s = .next t ∧ t.AtRestartValues ∧
      t.config = ⟨0, 0, 0, 0, 0, 0, 0, 0, Vector.replicate 8 0, false, false, none, false⟩ ∧
      t.member.station = .unconfigured ∧ t.resetHeld = true ∧ t.pending = s.pending ∧
      exec .resetRelease t
        = .next ((State.reset.withPending s.pending).withFreeCount s.freeCount)) ∧
    (s.resetHeld = true →
      exec .resetRelease s = .next { s with resetHeld := false, elapsed := 0 } ∧
      (∀ c : Instr, (c = .commit ∨ c = .start ∨ c = .leave ∨ c = .restart ∨
          (∃ o v, c = .configurationWrite o v) ∨ (∃ i bs, c = .slotWrite i bs) ∨
          (∃ v, c = .endWrite v) ∨ (∃ b, c = .postLockRead b) ∨ (∃ v, c = .postLockWrite v) ∨
          (∃ v, c = .refusedWriteClear v) ∨ (∃ b o n, c = .popRead b o n)) →
        exec c s = .next s)) ∧
    (s.resetHeld = false → exec .resetRelease s = .next s)

/-- The ranges of R166 and R186. -/
def Sys2Proof.Machine.ConfigRecord.InRanges (c : ConfigRecord) : Prop :=
  (1 ≤ c.stationNumber.toNat ∧ c.stationNumber.toNat ≤ 31) ∧ c.bitTimeCode.toNat ≤ 5 ∧
  (2 ≤ c.beaconInterval.toNat ∧ c.beaconInterval.toNat ≤ 250) ∧
  (3 ≤ c.presenceMultiple.toNat ∧ c.presenceMultiple.toNat ≤ 15) ∧
  1 ≤ c.probeInterval.toNat ∧ (1 ≤ c.spanLimit.toNat ∧ c.spanLimit.toNat ≤ 48) ∧
  ∀ i : Context, 1 ≤ (c.holdLimits[i]).toNat ∧ (c.holdLimits[i]).toNat ≤ 32

/-- R169: a COMMIT with every field in range, and R165's consequence for IRQ_N. -/
def Obligations.CommitAcceptsARecordInRange : Prop :=
  ∀ s : Machine.State, s.resetHeld = false → s.config.accepted = false → s.config.InRanges →
    ∃ t, exec .commit s = .next t ∧
      t = { s with
        config := { s.config with
          accepted := true, digest := some (groupDigest s.config), rejected := false }
        member := { s.member with station := .offline } } ∧
      t.irqAsserted = (s.config.interruptEnable && !s.notices.records.isEmpty)

/-- R170, R172: a COMMIT with a field out of range, and one that finds the accepted flag set. -/
def Obligations.CommitRejectsARecordOutOfRange : Prop :=
  ∀ s : Machine.State, s.resetHeld = false →
    (s.config.accepted = false → ¬ s.config.InRanges →
      exec .commit s = .next { s with config := { s.config with rejected := true } }) ∧
    (s.config.accepted = true → exec .commit s = .next s)

/-- R167: a write to the configuration area stores the byte while the accepted flag is clear, and only
there; it is ignored once the flag is set. -/
def Obligations.ConfigurationWriteStoresUntilAccepted : Prop :=
  ∀ (o : Fin 19) (v : Byte) (s : Machine.State), s.resetHeld = false →
    (s.config.accepted = true → exec (.configurationWrite o v) s = .next s) ∧
    (s.config.accepted = false →
      ∃ c, exec (.configurationWrite o v) s = .next { s with config := c } ∧
        (∀ p : Fin 19, c.read p
          = if p = o then (if o = 18 then v &&& 1 else v) else s.config.read p) ∧
        c.accepted = s.config.accepted ∧ c.digest = s.config.digest ∧
        c.rejected = s.config.rejected)

/-- R176 (the record changes by the configuration write, COMMIT and the resets alone). -/
def Obligations.OnlyItsCommandsChangeTheRecord : Prop :=
  ∀ (c : Instr) (s t : Machine.State), exec c s = .next t → c ≠ .commit → c ≠ .resetPin →
    c ≠ .powerOn → (∀ o v, c ≠ .configurationWrite o v) → t.config = s.config

/-! ### START, LEAVE and the fence -/

/-- R88, R100: START. That SEEKING counts its recessive time from 0 there is the model's choice (log 42). -/
def Obligations.StartBeginsTheJoin : Prop :=
  ∀ s : Machine.State, s.resetHeld = false →
    ((s.member.station = .offline ∨ s.member.station = .refused) →
      ∃ t, exec .start s = .next t ∧ t.member.station = .joining ∧
        t.member.ownTag = some (if BitVec.ofNat 16 s.elapsed = 0 then 1 else BitVec.ofNat 16 s.elapsed) ∧
        t.link = ⟨.seeking, 0, 0, .recessive⟩ ∧
        (∀ x : StationNo, x ≠ 0 → t.record x =
          if (s.record x).state = .present ∧ x ≠ s.own then
            { s.record x with
              silence := some (s.config.presenceMultiple.toNat * (s.config.beaconInterval.toNat * 1000)) }
          else s.record x) ∧
        t.lock = s.lock ∧ t.queue = s.queue ∧ t.ring = s.ring ∧ t.notices = s.notices ∧
        t.config = s.config ∧ t.elapsed = s.elapsed ∧ t.port = s.port ∧ t.resetHeld = s.resetHeld ∧
        t.freeCount = s.freeCount ∧ t.pending = s.pending ∧
        t.member.beaconTimer = s.member.beaconTimer ∧ t.member.fenceTimer = s.member.fenceTimer ∧
        t.member.departs = s.member.departs) ∧
    (s.member.station ≠ .offline → s.member.station ≠ .refused → exec .start s = .next s)

/-- R17: the entries a conversion leaves: LOST with context and count for HOLDING, LOST as it was. -/
def Sys2Proof.Machine.LockEntry.Converted (e : LockEntry) : Option LockEntry :=
  match e.state with
  | .holding c n _ _ _ => some ⟨e.id, e.resource, .lost c n, []⟩
  | .lost _ _ => some e
  | _ => none

/-- Whether a slot is named by an entry in DEFERRED, CLAIMING or WAITING or by a pending QUERY (R12). -/
def Sys2Proof.Machine.State.Names (s : Machine.State) (i : SlotIx) : Prop :=
  (∃ e ∈ s.lock.entries, e.slot = some i) ∨ ∃ q ∈ s.lock.queries, q.slot = i

/-- R17, R18, R139: what the conversion at a fence and at LEAVE leaves of the lock table, the want list,
the queued lock-engine frames and the slots. -/
def Sys2Proof.Machine.ConvertsTo (s t : Machine.State) (code : Code) : Prop :=
  t.lock.entries = s.lock.entries.filterMap LockEntry.Converted ∧
  t.lock.queries = [] ∧ t.lock.wants = [] ∧
  t.queue.frames.filter (fun f => f.kind.isLock)
    = (s.queue.frames.filter (fun f => f.kind.isLock && s.onLink f)).map
        (fun f => { f with withdrawn := true }) ∧
  (∀ i, s.Names i → (t.slot i).state = .done ∧ (t.slot i).result = ⟨some code, none, none, none, none⟩) ∧
  (∀ i, ¬ s.Names i → t.slot i = s.slot i)

/-- R17, R18, R104, R106: the fence timer's expiry and LEAVE convert the lock table, with FENCED and
OFFLINE. -/
def Obligations.FenceAndLeaveConvertTheLockTable : Prop :=
  ∀ s : Machine.State, s.member.station = .member →
    (s.resetHeld = false → ∃ t, exec .leave s = .next t ∧ ConvertsTo s t .offline) ∧
    (s.member.fenceTimer.isSome = true →
      ∃ t, exec .fenceTimerExpiry s = .next t ∧ ConvertsTo s t .fenced)

/-- The state after a notice that is produced where `told` says so. -/
def Sys2Proof.Machine.State.Tell (s : Machine.State) (told : Bool) (b : NoticeBody) : Machine.State :=
  if told then s.enterNotice b else s

/-- R104, R106, R139: the frames that the fence and LEAVE leave: a lock-engine frame, the BEACON and a DEPART of
another station leave the queue, or are marked when on the link. -/
def Sys2Proof.Machine.State.FramesAfterFence (s : Machine.State) : List FrameRecord :=
  s.queue.frames.filterMap (fun f =>
    if f.kind.isLock || decide (f.kind = .beacon) || f.departNamed.any (fun x => decide (x ≠ s.own)) then
      if s.onLink f then some { f with withdrawn := true } else none
    else some f)

/-- R100: the own tag after a fence. -/
def Sys2Proof.TagAfterFence (g : Tag) : Tag := if g = 0xFFFF then 1 else g + 1

/-- R89: behind the frames given the own JOIN is queued, with the tag after the fence and the digest, unless one
is queued. -/
def Sys2Proof.Machine.JoinIsQueued (s t : Machine.State) (frames : List FrameRecord) : Prop :=
  ∀ g d, s.member.ownTag = some g → s.config.digest = some d →
    ((∀ f ∈ frames, ∀ g' d', f.payload ≠ some (.join g' d')) →
      t.queue = ⟨frames ++ [⟨.join, .membership, s.queue.nextAge, 0, some (.join (TagAfterFence g) d), false⟩],
        s.queue.nextAge + 1⟩) ∧
    ((∃ f ∈ frames, ∃ g' d', f.payload = some (.join g' d')) → t.queue = ⟨frames, s.queue.nextAge⟩)

/-- R17, R18: the COMPLETED notices of a conversion, of the slots that were named in the order they were taken;
`u` the state whose notices stand before them. -/
def Sys2Proof.Machine.State.TellWaiting (s u : Machine.State) (code : Code) : Machine.State :=
  s.waitingSlots.foldl (fun v i => v.Tell (s.slot i).notify (.completed i code)) u

/-- R17, R104: the notices of a fence: those of the conversion, and FENCED with the number of LOST entries. -/
def Sys2Proof.Machine.State.NoticesOfFence (s u : Machine.State) (cause : FenceCause) : NoticeQueue :=
  ((s.TellWaiting u .fenced).enterNotice
    (.fenced cause ((s.lock.entries.filterMap LockEntry.Converted).countP LockEntry.isLost))).notices

/-- The presence timeout (R97), in microseconds. -/
def Sys2Proof.Machine.State.Timeout (s : Machine.State) : Timer :=
  s.config.presenceMultiple.toNat * (s.config.beaconInterval.toNat * 1000)

/-- R98: a conversion's effect on another station's record: the silence timer runs again where its DEPART is
withdrawn while it is PRESENT. -/
def Sys2Proof.Machine.OthersKept (s t : Machine.State) : Prop :=
  ∀ x : StationNo, x ≠ s.own → (t.record x).state = (s.record x).state ∧
    (t.record x).tag = (s.record x).tag ∧ (t.record x).epoch = (s.record x).epoch ∧
    (x ∉ s.withdrawnDeparts → t.record x = s.record x) ∧
    (x ∈ s.withdrawnDeparts → (s.record x).state = .present → s.link.state ≠ .off →
      t.record x = { s.record x with silence := some s.Timeout }) ∧
    (((s.record x).state ≠ .present ∨ s.link.state = .off) → t.record x = s.record x)

/-- R17, R89, R97, R98, R104, R139: the fence on the fence timer's expiry: the own record, tag and timers; the
frames it leaves, behind which the own JOIN is queued where the transceiver is synchronized; the silence timers
of stations whose DEPART it withdraws, which run again where they are PRESENT; and the notices. -/
def Obligations.FenceTimerExpiryFencesTheStation : Prop :=
  ∀ s : Machine.State, s.member.station = .member → s.member.fenceTimer.isSome = true → s.own ≠ 0 →
    ∃ t, exec .fenceTimerExpiry s = .next t ∧ t.member.station = .joining ∧
      t.member.beaconTimer = none ∧ t.member.fenceTimer = none ∧ t.member.departs = [] ∧
      (t.record s.own).state = .absent ∧ (t.record s.own).tag = none ∧
      (t.record s.own).epoch = (s.record s.own).epoch + 1 ∧
      t.member.ownTag = s.member.ownTag.map TagAfterFence ∧ t.link = s.link ∧
      ((s.link.state = .off ∨ s.link.state = .seeking) →
        t.queue = ⟨s.FramesAfterFence, s.queue.nextAge⟩) ∧
      (s.link.state ≠ .off → s.link.state ≠ .seeking → JoinIsQueued s t s.FramesAfterFence) ∧
      OthersKept s t ∧
      t.notices = s.NoticesOfFence s .silence

/-- R18, R98, R106, R139: LEAVE, and the states in which it is ignored. -/
def Obligations.LeaveBeginsTheFarewell : Prop :=
  ∀ s : Machine.State, s.resetHeld = false →
    (s.member.station = .member →
      ∃ t, exec .leave s = .next t ∧ t.member.station = .leaving ∧ t.member.beaconTimer = none ∧
        t.member.fenceTimer = none ∧ t.member.departs = [] ∧ t.member.ownTag = s.member.ownTag ∧
        t.link = s.link ∧
        (∀ x : StationNo, (t.record x).state = (s.record x).state ∧
          (t.record x).tag = (s.record x).tag ∧ (t.record x).epoch = (s.record x).epoch) ∧
        OthersKept s t ∧
        (∀ g, s.member.ownTag = some g →
          (∀ f ∈ s.FramesAfterFence, ∀ g', f.payload ≠ some (.depart s.own g')) →
          t.queue = ⟨s.FramesAfterFence
              ++ [⟨.depart, .membership, s.queue.nextAge, 0, some (.depart s.own g), false⟩],
            s.queue.nextAge + 1⟩) ∧
        t.notices = (s.TellWaiting s .offline).notices) ∧
    (s.member.station ≠ .member → exec .leave s = .next s)

/-! ### The host port -/

/-- The byte a list of (offset, byte) writes leaves at an offset: the last one, else the old. -/
def Sys2Proof.Machine.writtenAt (bytes : List (Fin 16 × Byte)) (o : Fin 16) (old : Byte) : Byte :=
  ((bytes.filter (fun w => decide (w.1 = o))).getLast?.map (·.2)).getD old

/-- R143, R144, R178, R185: a write that reaches a slot's request part (offsets 2 to 9). A PENDING slot
refuses it whole. Elsewhere its bytes land; one of the request word (offsets 2 and 3) makes the slot
FILLED and its result part absent. A write that reaches read-only offsets alone changes nothing. -/
def Obligations.SlotWriteIsTakenOrRefusedByTheSlotState : Prop :=
  ∀ (i : SlotIx) (bytes : List (Fin 16 × Byte)) (s : Machine.State), s.resetHeld = false →
    ((∀ w ∈ bytes, w.1.val < 2 ∨ 10 ≤ w.1.val) → exec (.slotWrite i bytes) s = .next s) ∧
    ((∃ w ∈ bytes, 2 ≤ w.1.val ∧ w.1.val < 10) →
      ((s.slot i).state = .pending →
        exec (.slotWrite i bytes) s = .next { s with ring := { s.ring with refusedWrite := true } }) ∧
      ((s.slot i).state ≠ .pending →
        ∃ x : Slot, exec (.slotWrite i bytes) s = .next (s.setSlot i x) ∧
          (∀ o : Fin 16, 2 ≤ o.val → o.val < 10 →
            x.read o = (if o = 3 then writtenAt bytes o ((s.slot i).read o) &&& 3
              else writtenAt bytes o ((s.slot i).read o))) ∧
          ((∃ w ∈ bytes, w.1.val = 2 ∨ w.1.val = 3) →
            x.state = .filled ∧ x.result = ⟨none, none, none, none, none⟩) ∧
          ((∀ w ∈ bytes, w.1.val ≠ 2 ∧ w.1.val ≠ 3) →
            x.state = (s.slot i).state ∧ x.result = (s.slot i).result)))

/-- R146, R148, R155: a write of END. -/
def Obligations.EndWriteSetsEndAndFreesThePostLock : Prop :=
  ∀ (v : Byte) (s : Machine.State), s.resetHeld = false →
    (∀ h : v.toNat < 24, exec (.endWrite v) s = .next { s with
      ring := { s.ring with
        endIx := ⟨v.toNat, h⟩
        postLock := false
        stalled := s.ring.stalled && decide ((⟨v.toNat, h⟩ : SlotIx) ≠ s.ring.current) } }) ∧
    (24 ≤ v.toNat → exec (.endWrite v) s = .next s)

/-- R155: the table of the post lock, its value after the resets, and LEAVE and the events that can fence
(R103: the fence timer, a DEPART at its veto slot's end, a loss of synchronization), which leave it as it
stands. -/
def Obligations.PostLockFollowsItsTable : Prop :=
  ∀ s : Machine.State,
    (s.resetHeld = false →
      (∃ t, exec (.postLockRead true) s = .next t ∧
        t = { s with ring := { s.ring with postLock := true }
                     port := { s.port with miso := [if s.ring.postLock then 1 else 0] } }) ∧
      exec (.postLockWrite 0) s = .next { s with ring := { s.ring with postLock := false } } ∧
      (∀ v, v ≠ 0 → exec (.postLockWrite v) s = .next s) ∧
      (∀ v : Byte, v.toNat < 24 → ∃ t, exec (.endWrite v) s = .next t ∧ t.ring.postLock = false) ∧
      (∀ v : Byte, 24 ≤ v.toNat → exec (.endWrite v) s = .next s) ∧
      (s.member.station ≠ .unconfigured →
        ∃ t, exec .restart s = .next t ∧ t.ring.postLock = false) ∧
      (∃ t, exec .leave s = .next t ∧ t.ring.postLock = s.ring.postLock)) ∧
    (∃ t, exec .resetPin s = .next t ∧ t.ring.postLock = false) ∧
    (∃ t, exec .powerOn s = .next t ∧ t.ring.postLock = false) ∧
    (∃ t, exec .fenceTimerExpiry s = .next t ∧ t.ring.postLock = s.ring.postLock) ∧
    (∀ heard b, ∃ t, exec (.vetoSlotEnd heard b) s = .next t ∧ t.ring.postLock = s.ring.postLock) ∧
    (∃ t, exec .lossOfSynchronization s = .next t ∧ t.ring.postLock = s.ring.postLock)

/-- R179: a read of the post lock location that ends inside its byte does not take the lock. -/
def Obligations.PostLockReadEndedEarlyTakesNothing : Prop :=
  ∀ s : Machine.State, s.resetHeld = false →
    exec (.postLockRead false) s = .next { s with port := { s.port with miso := [] } }

/-- R144, R154: a 1 in bit 2 clears REFUSED_WRITE; the other bits are ignored. -/
def Obligations.RefusedWriteClearsOnBitTwo : Prop :=
  ∀ (v : Byte) (s : Machine.State), s.resetHeld = false →
    (v.getLsbD 2 = true →
      exec (.refusedWriteClear v) s = .next { s with ring := { s.ring with refusedWrite := false } }) ∧
    (v.getLsbD 2 = false → exec (.refusedWriteClear v) s = .next s)

/-- R163, R179: a pop read returns the record at the head, fixed at the transaction's first byte of the
pop location, whichever of the twelve that is, whatever enters since; the head goes with byte 11; what is read
after it, or with no record, is 0. -/
def Obligations.PopReadReturnsTheFixedHeadAndRemovesIt : Prop :=
  ∀ s : Machine.State, s.resetHeld = false →
    (∀ (o : Fin 12) (n : Nat),
      (s.notices.records = [] →
        exec (.popRead true o n) s = .next { s with port := ⟨none, List.replicate n 0⟩ }) ∧
      (∀ x l, s.notices.records = x :: l → o.val + n < 12 →
        exec (.popRead true o n) s = .next { s with port := ⟨some x, (x.bytes.drop o.val).take n⟩ }) ∧
      (∀ x l, s.notices.records = x :: l → 12 ≤ o.val + n →
        exec (.popRead true o n) s
          = .next { s with notices := { s.notices with records := l }
                           port := ⟨none, x.bytes.drop o.val ++ List.replicate (o.val + n - 12) 0⟩ })) ∧
    (∀ (o : Fin 12) (n : Nat),
      (∀ x, s.port.popRecord = some x → o.val + n < 12 →
        exec (.popRead false o n) s
          = .next { s with port := ⟨some x, (x.bytes.drop o.val).take n⟩ }) ∧
      (∀ x, s.port.popRecord = some x → 12 ≤ o.val + n →
        exec (.popRead false o n) s
          = .next { s with notices := { s.notices with records := s.notices.records.tail }
                           port := ⟨none, x.bytes.drop o.val ++ List.replicate (o.val + n - 12) 0⟩ }) ∧
      (s.port.popRecord = none →
        exec (.popRead false o n) s = .next { s with port := ⟨none, List.replicate n 0⟩ }))

/-- R180: a byte written to a read-only location, to an address outside every location, or to the command
location with a code that names no command, is ignored in every state. -/
def Obligations.IgnoredWriteChangesNothing : Prop :=
  ∀ (a : BitVec 12) (v : Byte) (s : Machine.State),
    0x012 < a.toNat → (a.toNat = 0x018 → v = 0 ∨ 4 < v.toNat) →
    a.toNat ≠ 0x040 → a.toNat ≠ 0x043 → a.toNat ≠ 0x044 →
    ¬ ((0x100 ≤ a.toNat ∧ a.toNat < 0x280) ∧ 2 ≤ a.toNat % 16 ∧ a.toNat % 16 < 10) →
    writeCommand a v = .ignoredWrite a v ∧ exec (.ignoredWrite a v) s = .next s

/-- R172, R180, R184: the command that a byte written to each other location of the window is. -/
def Obligations.WindowMapNamesTheCommands : Prop :=
  (∀ o : Fin 19, ∀ v, writeCommand (BitVec.ofNat 12 o.val) v = .configurationWrite o v) ∧
  writeCommand 0x018 0x01 = .commit ∧ writeCommand 0x018 0x02 = .start ∧
  writeCommand 0x018 0x03 = .leave ∧ writeCommand 0x018 0x04 = .restart ∧
  (∀ v, writeCommand 0x040 v = .refusedWriteClear v) ∧
  (∀ v, writeCommand 0x043 v = .endWrite v) ∧ (∀ v, writeCommand 0x044 v = .postLockWrite v) ∧
  (∀ (i : SlotIx) (o : Fin 16) (v : Byte), 2 ≤ o.val → o.val < 10 →
    writeCommand (BitVec.ofNat 12 (0x100 + 16 * i.val + o.val)) v = .slotWrite i [(o, v)])

/-- R178: the eight bytes of a slot's request part, written in one transaction, are one SLOT_WRITE; a
transaction without a whole header, without data, or with the read direction is no write; the bytes after
one that issues RESTART are discarded. R175, R178: a write transaction that meets reset is discarded whole, and
a read takes no part from then on; that reset is told by the number of bits before it is the model's (log 38). -/
def Obligations.WriteTransactionGroupsItsBytes : Prop :=
  (∀ (i : SlotIx) (b₂ b₃ b₄ b₅ b₆ b₇ b₈ b₉ : Byte),
    let a : BitVec 16 := BitVec.ofNat 16 (0x100 + 16 * i.val + 2)
    writeTransaction [a.extractLsb' 8 8, a.extractLsb' 0 8, b₂, b₃, b₄, b₅, b₆, b₇, b₈, b₉]
      = [.slotWrite i [(2, b₂), (3, b₃), (4, b₄), (5, b₅), (6, b₆), (7, b₇), (8, b₈), (9, b₉)]]) ∧
  (∀ h₀ h₁ : Byte, writeTransaction [] = [] ∧ writeTransaction [h₀] = [] ∧
    writeTransaction [h₀, h₁] = []) ∧
  (∀ (h₀ h₁ : Byte) (data : List Byte), h₀.msb = true → writeTransaction (h₀ :: h₁ :: data) = []) ∧
  (∀ data : List Byte, writeTransaction (0x00 :: 0x18 :: 0x04 :: data) = [.restart]) ∧
  (∀ bytes : List Byte,
    Transaction.writes ⟨bytes.flatMap bitsOf, none⟩ = writeTransaction bytes) ∧
  (∀ (bits : List Bool) (n : Nat), Transaction.writes ⟨bits, some n⟩ = [] ∧
    Transaction.reads ⟨bits, some n⟩ = Transaction.reads ⟨bits.take n, none⟩) ∧
  (∀ (t : Transaction) (s : Machine.State), (s.hostWrites t).pending = s.pending ++ t.writes)

/-! ### Notices and views -/

/-- R161, R162, R165: the entry of a notice; and IRQ_N, asserted while the queue holds a record and the
interrupt enable of the accepted record is 1, and at no other time. -/
def Obligations.NoticesEnterTheQueueAndDriveIrq : Prop :=
  (∀ (b : NoticeBody) (s : Machine.State),
    (s.notices.records.length < 16 →
      s.enterNotice b = { s with
        notices := ⟨s.notices.records ++ [⟨b, s.notices.overflow⟩], false⟩ }) ∧
    (16 ≤ s.notices.records.length →
      s.enterNotice b = { s with notices := ⟨s.notices.records, true⟩ })) ∧
  (∀ s : Machine.State, s.irqAsserted = true ↔
    (s.notices.records ≠ [] ∧ s.config.accepted = true ∧ s.config.interruptEnable = true))

/-- R154, R188, R189: the ring locations, and the counts in the station status view. -/
def Obligations.StatusLocationsReadTheBlocks : Prop :=
  ∀ s : Machine.State,
    (s.windowByte 0x040).getLsbD 0
      = decide (s.ring.current = s.ring.endIx ∧ ∀ i, (s.slot i).state ≠ .pending) ∧
    (s.windowByte 0x040).getLsbD 1 = s.ring.stalled ∧
    (s.windowByte 0x040).getLsbD 2 = s.ring.refusedWrite ∧
    (s.windowByte 0x040).getLsbD 3 = s.ring.postLock ∧
    (s.windowByte 0x040).extractLsb' 4 4 = 0 ∧
    (s.windowByte 0x041).toNat
      = (List.finRange 24).countP (fun i => decide ((s.slot i).state = .pending)) ∧
    (s.windowByte 0x042).toNat = s.ring.current.val ∧
    (s.windowByte 0x043).toNat = s.ring.endIx.val ∧
    s.windowByte 0x028 = BitVec.ofNat 8 s.notices.records.length ∧
    s.windowByte 0x02A = BitVec.ofNat 8 s.queue.frames.length ∧
    s.windowByte 0x02B = BitVec.ofNat 8 s.lock.wants.length ∧
    s.windowByte 0x02C = BitVec.ofNat 8 s.lock.entries.length ∧
    s.windowByte 0x02D = BitVec.ofNat 8 (s.lock.entries.countP LockEntry.isLost)

/-! ### Takings -/

/-- A taking is due and the slot at CURRENT is FILLED with a request (R147, R149). -/
def Sys2Proof.Machine.State.TakesRequest (s : Machine.State) (q : Request) : Prop :=
  s.ring.stalled = false ∧ s.ring.current ≠ s.ring.endIx ∧
    (s.slot s.ring.current).state = .filled ∧ (s.slot s.ring.current).request = some q

/-- A slot completed with a result (R152): DONE, its request part as it was. -/
def Sys2Proof.Machine.Slot.Completed (sl : Slot) (r : SlotResult) : Slot :=
  { sl with state := .done, result := r }

/-- The ring after a completion of the slot at CURRENT by its taking (R147, R152). -/
def Sys2Proof.Machine.State.RingDone (s : Machine.State) (r : SlotResult) : Ring :=
  { s.ring with
    slots := s.ring.slots.set s.ring.current.val ((s.slot s.ring.current).Completed r)
    current := s.ring.current + 1 }

/-- The notices after a completion of the slot at CURRENT: one COMPLETED where its notify flag is set. -/
def Sys2Proof.Machine.State.NotesDone (s : Machine.State) (c : Code) : NoticeQueue :=
  if (s.slot s.ring.current).notify then (s.enterNotice (.completed s.ring.current c)).notices
  else s.notices

/-- R147, R148: takings of EMPTY, DONE and PENDING slots, and no taking with the range empty or the ring
stalled. -/
def Obligations.TakingHandlesUnfilledAndPendingSlots : Prop :=
  ∀ s : Machine.State,
    ((s.ring.stalled = true ∨ s.ring.current = s.ring.endIx) → exec .taking s = .next s) ∧
    (s.ring.stalled = false → s.ring.current ≠ s.ring.endIx →
      (((s.slot s.ring.current).state = .empty ∨ (s.slot s.ring.current).state = .done) →
        exec .taking s = .next { s with
          ring := s.RingDone ⟨some .unfilled, none, none, none, none⟩
          notices := s.NotesDone .unfilled }) ∧
      ((s.slot s.ring.current).state = .pending →
        exec .taking s = .next { s with ring := { s.ring with stalled := true } }))

/-- R149, R150: a request that a row of the malformed table fits completes MALFORMED and reaches no other
block; any other carries the fields its kind uses. -/
def Obligations.RequestsAreMalformedOrCarryTheirFields : Prop :=
  (∀ s : Machine.State, s.ring.stalled = false → s.ring.current ≠ s.ring.endIx →
    (s.slot s.ring.current).state = .filled →
    (let x := s.slot s.ring.current
     (x.kind.toNat = 0 ∨ 5 ≤ x.kind.toNat) ∨
      ((x.kind = 1 ∨ x.kind = 2) ∧ 7 < x.context.toNat) ∨ (x.kind = 1 ∧ x.policy = 3) ∨
      (x.kind = 1 ∧ x.policy = 2 ∧ x.waitLimit = 0) ∨ (x.kind = 4 ∧ 23 < x.target.toNat)) →
    exec .taking s = .next { s with
      ring := s.RingDone ⟨some .malformed, none, none, none, none⟩
      notices := s.NotesDone .malformed }) ∧
  ∀ x : Slot,
    (∀ c : Context, x.kind = 1 → x.context.toNat = c.val →
      (x.policy = 0 → x.request = some (.acquire c x.resource .nowait none)) ∧
      (x.policy = 1 → x.request = some (.acquire c x.resource .wait none)) ∧
      (x.policy = 2 → x.waitLimit ≠ 0 →
        x.request = some (.acquire c x.resource .limited (some x.waitLimit)))) ∧
    (∀ c : Context, x.kind = 2 → x.context.toNat = c.val → x.request = some (.release c x.resource)) ∧
    (x.kind = 3 → x.request = some (.query x.resource)) ∧
    (∀ i : SlotIx, x.kind = 4 → x.target.toNat = i.val → x.request = some (.cancel i))

/-- A request that completes at its taking and touches nothing but its slot. -/
def Sys2Proof.Machine.CompletesAtOnce (s : Machine.State) (c : Code) (r : SlotResult) : Prop :=
  exec .taking s = .next { s with
    lock := { s.lock with takings := s.lock.takings + 1 }
    ring := s.RingDone { r with code := some c }
    notices := s.NotesDone c }

/-- R20, R21, R22: an ACQUIRE that its first six steps complete, in their order. REENTERED alone changes
an entry: its count. -/
def Obligations.AcquireStepsOneToSixInOrder : Prop :=
  ∀ (s : Machine.State) (c : Context) (r : Resource) (p : WaitPolicy) (d : Option (BitVec 16)),
    s.TakesRequest (.acquire c r p d) →
    (s.member.station ≠ .member → CompletesAtOnce s .offline ⟨none, none, none, none, none⟩) ∧
    (s.member.station = .member → s.config.permits c r = false →
      CompletesAtOnce s .policy ⟨none, none, none, none, none⟩) ∧
    (s.member.station = .member → s.config.permits c r = true →
      (∀ e, s.entryOf c r = some e →
        (∀ n v i w, e.state = .holding c n v i w → n ≠ 255 →
          exec .taking s = .next { s with
            lock := { s.lock with
              takings := s.lock.takings + 1
              entries := s.lock.entries.map (fun x =>
                if x.id = e.id then { x with state := .holding c (n + 1) v i w } else x) }
            ring := s.RingDone ⟨some .reentered, some (n + 1), some s.own,
              some (BitVec.ofNat 8 c.val), some ((i - v - 1).setWidth 8)⟩
            notices := s.NotesDone .reentered }) ∧
        (∀ v i w, e.state = .holding c 255 v i w →
          CompletesAtOnce s .countLimit ⟨none, some 255, none, none, none⟩) ∧
        (∀ n, e.state = .lost c n → CompletesAtOnce s .lost ⟨none, some n, none, none, none⟩) ∧
        (e.slot.isSome = true → CompletesAtOnce s .duplicate ⟨none, none, none, none, none⟩)) ∧
      (s.entryOf c r = none →
        (∀ e c' n, s.lock.entries.find? (fun x => decide (x.resource = r) && x.isLost) = some e →
          e.state = .lost c' n → CompletesAtOnce s .lost ⟨none, some n, none, none, none⟩) ∧
        ((∀ e ∈ s.lock.entries, e.resource = r → e.isLost = false) →
          ((s.config.holdLimits[c]).toNat ≤ s.countedEntries c →
            CompletesAtOnce s .limit ⟨none, none, none, none, none⟩) ∧
          (s.countedEntries c < (s.config.holdLimits[c]).toNat → 32 ≤ s.lock.entries.length →
            CompletesAtOnce s .tableFull ⟨none, none, none, none, none⟩))))

/-- R9, R10: what counts against a context's hold limit, and the bit of the policy vector. -/
def Obligations.AcquireChecksCountEntriesAndReadThePolicy : Prop :=
  (∀ (s : Machine.State) (c : Context),
    s.countedEntries c = s.lock.entries.countP (fun e =>
      match e.state with
      | .deferred c' _ _ _ => decide (c' = c)
      | .claiming c' _ _ _ _ => decide (c' = c)
      | .waiting c' _ _ _ _ _ _ => decide (c' = c)
      | .holding c' _ _ _ _ => decide (c' = c)
      | .handing _ _ _ _ => false
      | .lost _ _ => false)) ∧
  (∀ (g : ConfigRecord) (c : Context) (r : Resource),
    g.permits c r = (g.policyVector.toNat.testBit
      ((g.contextClasses.toNat / 4 ^ c.val % 4) * 4 + r.toNat / 2 ^ 22)))

/-- An ACQUIRE that passes steps 1 to 6 (R20 to R22), for slot CURRENT. -/
def Sys2Proof.Machine.State.ReachesStepSeven (s : Machine.State) (c : Context) (r : Resource)
    (p : WaitPolicy) (d : Option (BitVec 16)) : Prop :=
  s.TakesRequest (.acquire c r p d) ∧ s.member.station = .member ∧ s.config.permits c r = true ∧
    s.entryOf c r = none ∧ (∀ e ∈ s.lock.entries, e.resource = r → e.isLost = false) ∧
    s.countedEntries c < (s.config.holdLimits[c]).toNat ∧ s.lock.entries.length < 32 ∧
    (∀ e ∈ s.lock.entries, e.id < s.lock.takings)

/-- The ring after a taking that leaves its slot PENDING with a station field (R147, R152). -/
def Sys2Proof.Machine.State.RingPending (s : Machine.State) (st : Option StationNo) : Ring :=
  { s.ring with
    slots := s.ring.slots.set s.ring.current.val
      { s.slot s.ring.current with state := .pending, result := ⟨none, none, st, none, none⟩ }
    current := s.ring.current + 1 }

/-- R23 to R26: step 7 under a holder entry h of this station: BUSY for NOWAIT; below the span limit a
local ticket, with WANTED where it is due (R47); at the limit local retry pending. -/
def Obligations.AcquireUnderAHolderEntry : Prop :=
  ∀ (s : Machine.State) (c : Context) (r : Resource) (p : WaitPolicy) (d : Option (BitVec 16))
    (h : LockEntry), s.ReachesStepSeven c r p d → s.holderOf r = some h →
    s.lock.wants = [] → (∀ f ∈ s.queue.frames, f.owner ≠ .lock (.entry s.lock.takings)) →
    (p = .nowait → CompletesAtOnce s .busy
      ⟨none, none, some s.own,
        some (match h.context with | some k => BitVec.ofNat 8 k.val | none => 0xFF),
        some ((h.issue - h.serve - 1).setWidth 8)⟩) ∧
    (p ≠ .nowait → (h.issue - h.serve - 1).toNat < s.spanLimit →
      ∃ t, exec .taking s = .next t ∧
        t.lock.entries = (s.lock.entries ++ ([⟨s.lock.takings, r,
            .waiting c s.ring.current h.issue s.own none (d.map (fun w => w.toNat * 1000)) none, []⟩] :
              List LockEntry)).map
          (fun (e : LockEntry) => if e.id = h.id then
              { e with state := match h.state with
                | .holding k n v i w => .holding k n v (i + 1) (w || decide (i - v - 1 = 0))
                | .handing v i o g => .handing v (i + 1) o g
                | x => x }
            else e) ∧
        t.ring = s.RingPending (some s.own) ∧
        t.notices = (match h.state with
          | .holding k _ v i w =>
            if i - v - 1 = 0 ∧ w = false then (s.enterNotice (.wanted h.resource k (i + 1 - v - 1))).notices
            else s.notices
          | _ => s.notices) ∧
        t.queue = s.queue ∧ t.lock.wants = s.lock.wants ∧ t.member = s.member ∧ t.link = s.link) ∧
    (p ≠ .nowait → s.spanLimit ≤ (h.issue - h.serve - 1).toNat →
      exec .taking s = .next { s with
        lock := { s.lock with
          takings := s.lock.takings + 1
          entries := s.lock.entries ++ [⟨s.lock.takings, r, .claiming c s.ring.current p
            (d.map (fun w => w.toNat * 1000)) (some (s.config.probeInterval.toNat * 10000)), []⟩] }
        ring := s.RingPending none })

/-- R23, R27, R29, R14: step 7 with no holder entry: DEFERRED behind a claim in flight of this station;
else CLAIMING, whose fresh CLAIM is queued at once while fewer than six lock-engine frames are. -/
def Obligations.AcquireWithoutAHolderEntry : Prop :=
  ∀ (s : Machine.State) (c : Context) (r : Resource) (p : WaitPolicy) (d : Option (BitVec 16)),
    s.ReachesStepSeven c r p d → s.holderOf r = none → s.lock.wants.contains (.entry s.lock.takings) = false →
    (∀ f ∈ s.queue.frames, f.owner ≠ .lock (.entry s.lock.takings)) →
    ((∃ e ∈ s.lock.entries, e.resource = r ∧ e.isClaiming = true) →
      exec .taking s = .next { s with
        lock := { s.lock with
          takings := s.lock.takings + 1
          entries := s.lock.entries ++ [⟨s.lock.takings, r, .deferred c s.ring.current p
            (d.map (fun w => w.toNat * 1000)), []⟩] }
        ring := s.RingPending none }) ∧
    ((∀ e ∈ s.lock.entries, e.resource = r → e.isClaiming = false) →
      ∃ t, exec .taking s = .next t ∧
        t.lock.entries = s.lock.entries ++ [⟨s.lock.takings, r, .claiming c s.ring.current p
          (d.map (fun w => w.toNat * 1000)) none, []⟩] ∧
        t.ring = s.RingPending none ∧ t.notices = s.notices ∧ t.member = s.member ∧ t.link = s.link ∧
        (s.queue.frames.countP (fun f => f.kind.isLock) < 6 →
          t.lock.wants = s.lock.wants ∧ t.queue = ⟨s.queue.frames ++
            [⟨.claim, .lock (.entry s.lock.takings), s.queue.nextAge, 0, none, false⟩],
            s.queue.nextAge + 1⟩) ∧
        (6 ≤ s.queue.frames.countP (fun f => f.kind.isLock) →
          t.lock.wants = s.lock.wants ++ [.entry s.lock.takings] ∧ t.queue = s.queue))

/-- R50, R51: the RELEASEs that pass no lock on. -/
def Obligations.ReleaseThatKeepsOrFindsNoLock : Prop :=
  ∀ (s : Machine.State) (c : Context) (r : Resource), s.TakesRequest (.release c r) →
    (s.entryOf c r = none → CompletesAtOnce s .notHolder ⟨none, none, none, none, none⟩) ∧
    (∀ e, s.entryOf c r = some e →
      (e.slot.isSome = true → CompletesAtOnce s .notHolder ⟨none, none, none, none, none⟩) ∧
      (∀ n v i w, e.state = .holding c n v i w → 1 < n.toNat →
        exec .taking s = .next { s with
          lock := { s.lock with
            takings := s.lock.takings + 1
            entries := s.lock.entries.map (fun x =>
              if x.id = e.id then { x with state := .holding c (n - 1) v i w } else x) }
          ring := s.RingDone ⟨some .released, some (n - 1), none, none, none⟩
          notices := s.NotesDone .released }) ∧
      (∀ n, e.state = .lost c n → s.hasFrame (.entry e.id) = false →
        exec .taking s = .next { s with
          lock := { s.lock with
            takings := s.lock.takings + 1
            entries := s.lock.entries.filter (fun x => decide (x.id ≠ e.id))
            wants := s.lock.wants.filter (fun o => decide (o ≠ .entry e.id)) }
          ring := s.RingDone ⟨some .lost, some n, none, none, none⟩
          notices := s.NotesDone .lost }))

/-- R52: an entry that counts as a local waiter with a ticket: it waits on this station; or on the sender of
the GRANT now in its answer field that an entry of this station has taken, under the sender's current
epoch. -/
def Sys2Proof.Machine.State.CountsAsLocal (s : Machine.State) (r : Resource) (k : Ticket)
    (e : LockEntry) : Prop :=
  e.resource = r ∧ ∃ c sl h ep d pr, e.state = .waiting c sl k h ep d pr ∧
    (h = s.own ∨ ∃ f o j, s.link.state = .listeningAnswer f ∧ f.content = .grant r o j ∧
      f.committed ≠ none ∧ h = f.sender ∧ ep = some (s.record f.sender).epoch)

/-- R4, R28: an entry that a new holder entry of its resource does not move: a local waiter, one in retry
pending, and one that waits for nothing. -/
def Sys2Proof.Machine.LockEntry.Unmoved (own : StationNo) (e : LockEntry) : Prop :=
  match e.state with
  | .deferred _ _ _ _ => False
  | .claiming _ _ _ _ rt => rt ≠ none
  | .waiting _ _ _ h _ _ _ => h = own
  | .holding _ _ _ _ _ => True
  | .handing _ _ _ _ => True
  | .lost _ _ => True

/-- R4, R28: what a new holder entry of station `own` evaluates again, with the context, slot, policy and
deadline it keeps: a DEFERRED entry, a CLAIMING one not in retry pending, and a remote waiter. -/
def Sys2Proof.Machine.LockEntry.Moved (own : StationNo) (e : LockEntry) :
    Option (Context × SlotIx × WaitPolicy × Option Timer) :=
  match e.state with
  | .deferred c sl p d => some (c, sl, p, d)
  | .claiming c sl p d none => some (c, sl, p, d)
  | .claiming _ _ _ _ (some _) => none
  | .waiting c sl _ h _ d _ => if h = own then none else some (c, sl, if d.isSome then .limited else .wait, d)
  | .holding _ _ _ _ _ => none
  | .handing _ _ _ _ => none
  | .lost _ _ => none

/-- R52, R53, R54: the RELEASE of the last acquisition, of an entry that wants no frame: freed at span 0;
handed to the earliest taken local waiter of ticket serve + 1, with the issue as it was where no other entry
of the resource is evaluated again; else HANDING, with its GRANT wanted. Of two such waiters the earlier
taken is the model's choice (log 11). R4, R133, R134: an entry of the resource that the handoff would place
while its CLAIM is on the link stays, and that CLAIM is marked. -/
def Obligations.ReleaseOfTheLastAcquisition : Prop :=
  ∀ (s : Machine.State) (c : Context) (r : Resource) (e : LockEntry) (v i : Ticket) (w : Bool),
    s.TakesRequest (.release c r) → s.entryOf c r = some e → e.state = .holding c 1 v i w →
    s.hasFrame (.entry e.id) = false → s.lock.wants = [] →
    (i - v - 1 = 0 → exec .taking s = .next { s with
      lock := { s.lock with
        takings := s.lock.takings + 1
        entries := s.lock.entries.filter (fun x => decide (x.id ≠ e.id)) }
      ring := s.RingDone ⟨some .released, some 0, none, none, none⟩
      notices := s.NotesDone .released }) ∧
    (i - v - 1 ≠ 0 → (∀ x ∈ s.lock.entries, ¬ s.CountsAsLocal r (v + 1) x) →
      ∃ t, exec .taking s = .next t ∧
        t.lock.entries = s.lock.entries.map (fun x =>
          if x.id = e.id then { x with state := .handing v i (v + 1) none } else x) ∧
        t.ring = s.RingDone ⟨some .released, some 0, none, none, none⟩ ∧
        t.notices = s.NotesDone .released ∧
        (s.queue.frames.countP (fun f => f.kind.isLock) < 6 →
          t.queue = ⟨s.queue.frames ++
            [⟨.grant, .lock (.entry e.id), s.queue.nextAge, 0, none, false⟩], s.queue.nextAge + 1⟩) ∧
        (6 ≤ s.queue.frames.countP (fun f => f.kind.isLock) → t.lock.wants = [.entry e.id])) ∧
    (i - v - 1 ≠ 0 → ∀ l₁ x l₂ k sl h ep g pr, s.lock.entries = l₁ ++ x :: l₂ →
      (∀ y ∈ l₁, ¬ s.CountsAsLocal r (v + 1) y) → s.CountsAsLocal r (v + 1) x →
      x.state = .waiting k sl (v + 1) h ep g pr → s.PendingSlotsAreNamed →
      ∃ t, exec .taking s = .next t ∧
        (∃ y, t.entry x.id = some y ∧ y.resource = x.resource ∧
          ∃ i' w', y.state = .holding k 1 (v + 1) i' w') ∧
        t.entry e.id = none ∧
        (t.slot sl).state = .done ∧ (t.slot sl).result = ⟨some .granted, some 1, some s.own,
          some (BitVec.ofNat 8 k.val), some ((i - (v + 1) - 1).setWidth 8)⟩ ∧
        (t.slot s.ring.current).state = .done ∧
        (t.slot s.ring.current).result = ⟨some .released, some 0, none, none, none⟩ ∧
        ((∀ y ∈ s.lock.entries, y.resource = r → y = x ∨ y = e ∨ y.Unmoved s.own) →
          t.entry x.id = some { x with
            state := .holding k 1 (v + 1) i (decide (i - (v + 1) - 1 ≠ 0)) } ∧
          t.notices = (((s.Tell (s.slot s.ring.current).notify (.completed s.ring.current .released)).Tell
            (s.slot sl).notify (.completed sl .granted)).Tell (decide (i - (v + 1) - 1 ≠ 0))
              (.wanted r k (i - (v + 1) - 1))).notices) ∧
        (∀ y ∈ s.lock.entries, y.resource = r → (y.Moved s.own).isSome = true →
          s.ownerOnLink (.entry y.id) = true →
          (∀ f ∈ s.queue.frames, ∀ g ∈ s.queue.frames, f.owner = .lock (.entry y.id) →
            g.owner = .lock (.entry y.id) → f.age = g.age) →
          y ∈ t.lock.entries ∧
          ∃ f ∈ t.queue.frames, f.owner = .lock (.entry y.id) ∧ s.onLink f = true ∧ f.withdrawn = true))

/-- R49, R156: a QUERY request. -/
def Obligations.QueryIsAnsweredLocallyOrSent : Prop :=
  ∀ (s : Machine.State) (r : Resource), s.TakesRequest (.query r) →
    (s.member.station ≠ .member → CompletesAtOnce s .offline ⟨none, none, none, none, none⟩) ∧
    (s.member.station = .member → ∀ h, s.holderOf r = some h → CompletesAtOnce s .answered
      ⟨none, none, some s.own,
        some (match h.context with | some k => BitVec.ofNat 8 k.val | none => 0xFF),
        some ((h.issue - h.serve - 1).setWidth 8)⟩) ∧
    (s.member.station = .member → s.holderOf r = none →
      s.lock.wants.contains (.query s.lock.takings) = false →
      (∀ f ∈ s.queue.frames, f.owner ≠ .lock (.query s.lock.takings)) →
      ∃ t, exec .taking s = .next t ∧ t.lock.entries = s.lock.entries ∧
        t.lock.queries = s.lock.queries ++ [⟨s.lock.takings, s.ring.current, r, false⟩] ∧
        t.ring = s.RingPending none ∧ t.notices = s.notices ∧
        (s.queue.frames.countP (fun f => f.kind.isLock) < 6 →
          t.lock.wants = s.lock.wants ∧ t.queue = ⟨s.queue.frames ++
            [⟨.query, .lock (.query s.lock.takings), s.queue.nextAge, 0, none, false⟩],
            s.queue.nextAge + 1⟩) ∧
        (6 ≤ s.queue.frames.countP (fun f => f.kind.isLock) →
          t.lock.wants = s.lock.wants ++ [.query s.lock.takings] ∧ t.queue = s.queue))

/-- R39, R40: the code of a held action that takes effect. -/
def Sys2Proof.Machine.HeldAction.Completes : HeldAction → Code
  | .deadline => .timedOut
  | .cancel => .cancelled

/-- R15: an owner has no want and no frame left. -/
def Sys2Proof.Machine.State.WantsNothing (t : Machine.State) (o : Owner) : Prop :=
  o ∉ t.lock.wants ∧ ∀ f ∈ t.queue.frames, f.owner ≠ .lock o

/-- An owner has at most one frame. -/
def Sys2Proof.Machine.State.OneFrame (s : Machine.State) (o : Owner) : Prop :=
  ∀ f ∈ s.queue.frames, ∀ g ∈ s.queue.frames, f.owner = .lock o → g.owner = .lock o → f.age = g.age

/-- Entry e's is the only claim in flight for its resource, and this station has no holder entry for it. -/
def Sys2Proof.Machine.State.ClaimsAlone (s : Machine.State) (e : LockEntry) : Prop :=
  s.holderOf e.resource = none ∧
    ∀ x ∈ s.lock.entries, x.resource = e.resource → x.isClaiming = true → x = e

/-- R28: the DEFERRED entries of a resource have been evaluated again and found neither a holder entry nor a claim
in flight: the oldest in taking order claims, its CLAIM wanted, and the later ones stay. -/
def Sys2Proof.Machine.OldestSiblingClaims (s t : Machine.State) (r : Resource) : Prop :=
  ∀ y c sl p d, s.lock.entries.find? (fun x => decide (x.resource = r) && x.isDeferred) = some y →
    y.state = .deferred c sl p d →
    t.entry y.id = some { y with state := .claiming c sl p d none } ∧
    (.entry y.id ∈ t.lock.wants ∨ ∃ f ∈ t.queue.frames, f.owner = .lock (.entry y.id)) ∧
    (∀ z ∈ s.lock.entries, z.resource = r → z.isDeferred = true → z ≠ y → t.entry z.id = some z)

/-- No frame of a DEFERRED entry of the resource is on the link, as none has a frame (R2). -/
def Sys2Proof.Machine.State.SiblingsOffLink (s : Machine.State) (r : Resource) : Prop :=
  ∀ y ∈ s.lock.entries, y.resource = r → y.isDeferred = true → s.ownerOnLink (.entry y.id) = false

/-- The notices after the CANCEL at CURRENT has completed ACCEPTED and then its target i CANCELLED (R157). -/
def Sys2Proof.Machine.State.NotesCancelled (s : Machine.State) (i : SlotIx) : NoticeQueue :=
  ((s.Tell (s.slot s.ring.current).notify (.completed s.ring.current .accepted)).Tell (s.slot i).notify
    (.completed i .cancelled)).notices

/-- R28, R38, R39, R40, R157: a CANCEL. One that acts at once frees its target with its want or queued frame, and
its own COMPLETED comes before the target's; of a CLAIMING target the oldest DEFERRED sibling claims. -/
def Obligations.CancelActsOrIsHeld : Prop :=
  ∀ (s : Machine.State) (i : SlotIx), s.TakesRequest (.cancel i) →
    (s.entryAt i = none → s.queryAt i = none →
      CompletesAtOnce s .notPending ⟨none, none, none, none, none⟩) ∧
    (∀ e, s.entryAt i = some e → s.ownerOnLink (.entry e.id) = true →
      exec .taking s = .next { s with
        lock := { s.lock with
          takings := s.lock.takings + 1
          entries := s.lock.entries.map (fun x =>
            if x.id = e.id then { x with held := x.held ++ [.cancel] } else x) }
        ring := s.RingDone ⟨some .accepted, none, none, none, none⟩
        notices := s.NotesDone .accepted }) ∧
    (∀ e, s.entryAt i = some e → s.ownerOnLink (.entry e.id) = false → s.PendingSlotsAreNamed →
      ∃ t, exec .taking s = .next t ∧ (∀ x ∈ t.lock.entries, x.id ≠ e.id) ∧
        (t.slot s.ring.current).state = .done ∧
        (t.slot s.ring.current).result = ⟨some .accepted, none, none, none, none⟩ ∧
        (t.slot i).state = .done ∧ (t.slot i).result = ⟨some .cancelled, none, none, none, none⟩ ∧
        (s.OneFrame (.entry e.id) → t.WantsNothing (.entry e.id)) ∧
        ((e.isClaiming = false ∨ s.holderOf e.resource = none) → t.notices = s.NotesCancelled i) ∧
        (e.isClaiming = false → ∀ x ∈ s.lock.entries, x.id ≠ e.id → x ∈ t.lock.entries) ∧
        (e.isClaiming = true → s.ClaimsAlone e → s.SiblingsOffLink e.resource →
          OldestSiblingClaims s t e.resource)) ∧
    (∀ q, s.entryAt i = none → s.queryAt i = some q → s.ownerOnLink (.query q.id) = true →
      exec .taking s = .next { s with
        lock := { s.lock with
          takings := s.lock.takings + 1
          queries := s.lock.queries.map (fun x =>
            if x.id = q.id then { x with heldCancel := true } else x) }
        ring := s.RingDone ⟨some .accepted, none, none, none, none⟩
        notices := s.NotesDone .accepted }) ∧
    (∀ q, s.entryAt i = none → s.queryAt i = some q → s.ownerOnLink (.query q.id) = false →
      s.PendingSlotsAreNamed →
      ∃ t, exec .taking s = .next t ∧ (∀ x ∈ t.lock.queries, x.id ≠ q.id) ∧
        (t.slot s.ring.current).state = .done ∧
        (t.slot s.ring.current).result = ⟨some .accepted, none, none, none, none⟩ ∧
        (t.slot i).state = .done ∧ (t.slot i).result = ⟨some .cancelled, none, none, none, none⟩ ∧
        (s.OneFrame (.query q.id) → t.WantsNothing (.query q.id)) ∧ t.notices = s.NotesCancelled i ∧
        t.lock.entries = s.lock.entries)

/-! ### The lock engine's timers -/

/-- R14, R15: what a want of an owner does to the queue and the want list: its present want or frame
stands; else it is placed while fewer than six lock-engine frames are queued, or joins the list's tail. -/
def Sys2Proof.Machine.WantsFrame (s t : Machine.State) (o : Owner) (k : FrameKind) : Prop :=
  ((o ∈ s.lock.wants ∨ ∃ f ∈ s.queue.frames, f.owner = .lock o) →
    t.queue = s.queue ∧ t.lock.wants = s.lock.wants) ∧
  (o ∉ s.lock.wants → (∀ f ∈ s.queue.frames, f.owner ≠ .lock o) →
    (s.queue.frames.countP (fun f => f.kind.isLock) < 6 →
      t.lock.wants = s.lock.wants ∧
      t.queue = ⟨s.queue.frames ++ [⟨k, .lock o, s.queue.nextAge, 0, none, false⟩],
        s.queue.nextAge + 1⟩) ∧
    (6 ≤ s.queue.frames.countP (fun f => f.kind.isLock) →
      t.lock.wants = s.lock.wants ++ [o] ∧ t.queue = s.queue))

/-- The entries with the state of one of them replaced. -/
def Sys2Proof.Machine.State.EntriesWith (s : Machine.State) (id : Nat) (st : EntryState) :
    List LockEntry :=
  s.lock.entries.map (fun (e : LockEntry) => if e.id = id then { e with state := st } else e)

/-- Every place in taking order is one entry's. -/
def Sys2Proof.Machine.State.UniqueIds (s : Machine.State) : Prop :=
  ∀ x ∈ s.lock.entries, ∀ y ∈ s.lock.entries, x.id = y.id → x = y

/-- The queue without the frame of an age. -/
def Sys2Proof.Machine.State.FramesWithout (s : Machine.State) (age : Nat) : List FrameRecord :=
  s.queue.frames.filter (fun f => decide (f.age ≠ age))

/-- The ring after a slot completes TIMED_OUT (R38, R148). -/
def Sys2Proof.Machine.State.RingTimedOut (s : Machine.State) (i : SlotIx) : Ring :=
  { s.ring with
    slots := s.ring.slots.set i.val ((s.slot i).Completed ⟨some .timedOut, none, none, none, none⟩)
    stalled := s.ring.stalled && decide (i ≠ s.ring.current) }

/-- The notices after a completion of a slot. -/
def Sys2Proof.Machine.State.NotesOf (s : Machine.State) (i : SlotIx) (c : Code) : NoticeQueue :=
  if (s.slot i).notify then (s.enterNotice (.completed i c)).notices else s.notices

/-- R38, R39, R82: a deadline's expiry is held, once, while a CLAIM of the entry is on the link; else the entry
is freed with its want or queued frame and its slot completes TIMED_OUT; the oldest DEFERRED sibling of a
CLAIMING entry claims and the later ones stay (R28). That an expiry of no running deadline changes nothing is
the model's choice (log 4). -/
def Obligations.DeadlineExpiryEndsTheWaitOrIsHeld : Prop :=
  ∀ (i : SlotIx) (s : Machine.State),
    ((∀ e, s.entryAt i = some e → e.deadline = none) → exec (.deadlineExpiry i) s = .next s) ∧
    (∀ e, s.entryAt i = some e → e.deadline.isSome = true →
      (s.ownerOnLink (.entry e.id) = true → .deadline ∉ e.held →
        exec (.deadlineExpiry i) s = .next { s with
          lock := { s.lock with entries := s.lock.entries.map (fun (x : LockEntry) =>
            if x.id = e.id then { x with held := x.held ++ [.deadline] } else x) } }) ∧
      (s.ownerOnLink (.entry e.id) = false → e.isClaiming = false →
        (∀ f ∈ s.queue.frames, f.owner ≠ .lock (.entry e.id)) →
        exec (.deadlineExpiry i) s = .next { s with
          lock := { s.lock with
            entries := s.lock.entries.filter (fun x => decide (x.id ≠ e.id))
            wants := s.lock.wants.filter (fun o => decide (o ≠ .entry e.id)) }
          ring := s.RingTimedOut i
          notices := s.NotesOf i .timedOut }) ∧
      (s.ownerOnLink (.entry e.id) = false → e.isClaiming = false → s.lock.wants = [] →
        ∀ f ∈ s.queue.frames, f.owner = .lock (.entry e.id) →
        (∀ g ∈ s.queue.frames, g.owner = .lock (.entry e.id) → g.age = f.age) →
        exec (.deadlineExpiry i) s = .next { s with
          lock := { s.lock with entries := s.lock.entries.filter (fun x => decide (x.id ≠ e.id)) }
          queue := { s.queue with frames := s.FramesWithout f.age }
          ring := s.RingTimedOut i
          notices := s.NotesOf i .timedOut }) ∧
      (s.ownerOnLink (.entry e.id) = false → s.PendingSlotsAreNamed →
        (∀ f ∈ s.queue.frames, ∀ g ∈ s.queue.frames, f.owner = .lock (.entry e.id) →
          g.owner = .lock (.entry e.id) → f.age = g.age) →
        ∃ t, exec (.deadlineExpiry i) s = .next t ∧ (∀ x ∈ t.lock.entries, x.id ≠ e.id) ∧
          (t.slot i).state = .done ∧ (t.slot i).result = ⟨some .timedOut, none, none, none, none⟩ ∧
          .entry e.id ∉ t.lock.wants ∧ (∀ f ∈ t.queue.frames, f.owner ≠ .lock (.entry e.id))) ∧
      (s.ownerOnLink (.entry e.id) = false → e.isClaiming = true → s.UniqueIds → s.ClaimsAlone e →
        s.SiblingsOffLink e.resource →
        ∃ t, exec (.deadlineExpiry i) s = .next t ∧ (∀ x ∈ t.lock.entries, x.id ≠ e.id) ∧
          OldestSiblingClaims s t e.resource))

/-- R59, R69, R70: the expiries of the probe timer and of the grant retry timer: the timer becomes absent
and the frame is wanted. That an expiry of no running timer changes nothing is the model's choice (log 4). -/
def Obligations.ProbeAndGrantRetryExpiriesWantTheirFrames : Prop :=
  (∀ (i : SlotIx) (s : Machine.State) (e : LockEntry) c sl g h ep d n, s.entryAt i = some e →
    s.entry e.id = some e → e.state = .waiting c sl g h ep d (some n) →
    ∃ t, exec (.probeTimerExpiry i) s = .next t ∧
      t.lock.entries = s.EntriesWith e.id (.waiting c sl g h ep d none) ∧
      WantsFrame s t (.entry e.id) .claim ∧ t.lock.queries = s.lock.queries ∧ t.ring = s.ring ∧
      t.notices = s.notices ∧ t.member = s.member ∧ t.link = s.link) ∧
  (∀ (i : SlotIx) (s : Machine.State), (∀ e, s.entryAt i = some e → e.probe = none) →
    exec (.probeTimerExpiry i) s = .next s) ∧
  (∀ (r : Resource) (s : Machine.State) (e : LockEntry) v j o n, s.holderOf r = some e →
    s.entry e.id = some e → e.state = .handing v j o (some n) →
    ∃ t, exec (.grantRetryExpiry r) s = .next t ∧
      t.lock.entries = s.EntriesWith e.id (.handing v j o none) ∧
      WantsFrame s t (.entry e.id) .grant ∧ t.lock.queries = s.lock.queries ∧ t.ring = s.ring ∧
      t.notices = s.notices ∧ t.member = s.member ∧ t.link = s.link) ∧
  (∀ (r : Resource) (s : Machine.State), (∀ e, s.holderOf r = some e → e.grantRetry = none) →
    exec (.grantRetryExpiry r) s = .next s)

/-- A ticket issue by a holder entry (R46, R47): its state after, and the notices. -/
def Sys2Proof.Machine.LockEntry.Issued (h : LockEntry) : EntryState :=
  match h.state with
  | .holding k n v i w => .holding k n v (i + 1) (w || decide (i - v - 1 = 0))
  | .handing v i o g => .handing v (i + 1) o g
  | x => x

def Sys2Proof.Machine.State.NotesIssued (s : Machine.State) (h : LockEntry) : NoticeQueue :=
  match h.state with
  | .holding k _ v i w =>
    if i - v - 1 = 0 ∧ w = false then (s.enterNotice (.wanted h.resource k (i + 1 - v - 1))).notices
    else s.notices
  | _ => s.notices

/-- R46, R47: a holder entry that has issued n tickets. -/
def Sys2Proof.Machine.LockEntry.IssuedMany (h : LockEntry) (n : Nat) : EntryState :=
  match h.state with
  | .holding k m v i w =>
    .holding k m v (i + BitVec.ofNat 16 n) (w || decide (n ≠ 0 ∧ i - v - 1 = 0))
  | .handing v i o g => .handing v (i + BitVec.ofNat 16 n) o g
  | x => x

/-- Whether an entry is evaluated again for a resource under the new holder entry of id `id` and, not being
NOWAIT, asks it for a ticket. -/
def Sys2Proof.Machine.LockEntry.Asks (own : StationNo) (r : Resource) (id : Nat) (e : LockEntry) : Bool :=
  decide (e.resource = r) && decide (e.id ≠ id) && (e.Moved own).any (fun m => decide (m.2.2.1 ≠ .nowait))

/-- R23 to R28: how many tickets the holder entry h, as it stands before, hands to those of the other entries of
its resource that ask it, but those `kept`, of a list of them. -/
def Sys2Proof.Machine.State.TicketsFor (s : Machine.State) (h : LockEntry) (kept : LockEntry → Bool)
    (l : List LockEntry) : Nat :=
  min (l.countP (fun y => LockEntry.Asks s.own h.resource h.id y && !kept y))
    (s.spanLimit - (h.issue - h.serve - 1).toNat)

/-- R4, R23 to R28: the other entries of the resource, but those `kept`, have been placed in taking order
under holder entry h, as it stands before: NOWAIT ends BUSY; the others take the tickets from its issue on as
long as the span is below the limit, and then go to retry pending; an entry that is not moved stays. The holder
entry has issued those tickets. -/
def Sys2Proof.Machine.EntriesPlacedUnder (s t : Machine.State) (h : LockEntry) (kept : LockEntry → Bool) :
    Prop :=
  let asks := fun y => LockEntry.Asks s.own h.resource h.id y && !kept y
  let span := h.issue - h.serve - 1
  let room := s.spanLimit - span.toNat
  t.entry h.id = some { h with state := h.IssuedMany (s.TicketsFor h kept s.lock.entries) } ∧
  (∀ l₁ y l₂, s.lock.entries = l₁ ++ y :: l₂ → y.resource = h.resource → y.id ≠ h.id → kept y = false →
    let j := l₁.countP asks
    (y.Moved s.own = none → t.entry y.id = some y) ∧
    (∀ k sl p d, y.Moved s.own = some (k, sl, p, d) →
      (p = .nowait → t.entry y.id = none ∧ (t.slot sl).state = .done ∧
        (t.slot sl).result = ⟨some .busy, none, some s.own, some h.contextByte,
          some ((span + BitVec.ofNat 16 (min j room)).setWidth 8)⟩) ∧
      (p ≠ .nowait → j < room →
        t.entry y.id = some { y with
          state := .waiting k sl (h.issue + BitVec.ofNat 16 j) s.own none d none } ∧
        (t.slot sl).result.station = some s.own) ∧
      (p ≠ .nowait → room ≤ j →
        t.entry y.id = some { y with
          state := .claiming k sl p d (some (s.config.probeInterval.toNat * 10000)) } ∧
        (t.slot sl).result.station = none)))

/-- R36, R23 to R28: the claim retry timer's expiry, of an entry that wants no frame: the row of R23 that it
finds. Its DEFERRED siblings, which want none either, are evaluated again after it: they stay behind it or behind
another claim in flight, and are placed under a holder entry, unless the entry is left in local retry pending. -/
def Obligations.ClaimRetryExpiryEvaluatesAgain : Prop :=
  ∀ (i : SlotIx) (s : Machine.State) (e : LockEntry) c sl p d n, s.entryAt i = some e →
    s.UniqueIds → e.state = .claiming c sl p d (some n) → s.lock.wants = [] →
    (∀ f ∈ s.queue.frames, f.owner ≠ .lock (.entry e.id)) →
    (∀ x ∈ s.lock.entries, x.resource = e.resource → x.isDeferred = true →
      s.PendingSlotsAreNamed ∧ ∀ f ∈ s.queue.frames, f.owner ≠ .lock (.entry x.id)) →
    ∃ t, exec (.claimRetryExpiry i) s = .next t ∧
      (∀ x ∈ s.lock.entries, x.id ≠ e.id → s.holderOf e.resource = none → x ∈ t.lock.entries) ∧
      (∀ h, s.holderOf e.resource = some h →
        ((p ≠ .nowait ∧ (h.issue - h.serve - 1).toNat < s.spanLimit) →
          EntriesPlacedUnder s t { h with state := h.Issued } (fun y => !y.isDeferred)) ∧
        (p = .nowait → EntriesPlacedUnder s t h (fun y => !y.isDeferred)) ∧
        ((p ≠ .nowait ∧ s.spanLimit ≤ (h.issue - h.serve - 1).toNat) →
          ∀ x ∈ s.lock.entries, x.id ≠ e.id → x ∈ t.lock.entries)) ∧
      (s.holderOf e.resource = none →
        (∀ x ∈ s.lock.entries, x.resource = e.resource → x.isClaiming = true → x = e) →
        t.entry e.id = some { e with state := .claiming c sl p d none } ∧
        WantsFrame s t (.entry e.id) .claim ∧ (t.slot sl).result.station = none) ∧
      (s.holderOf e.resource = none →
        (∃ x ∈ s.lock.entries, x.resource = e.resource ∧ x.isClaiming = true ∧ x.id ≠ e.id) →
        t.entry e.id = some { e with state := .deferred c sl p d } ∧ t.queue = s.queue) ∧
      (∀ h, s.holderOf e.resource = some h → p ≠ .nowait →
        (h.issue - h.serve - 1).toNat < s.spanLimit →
        t.entry e.id = some { e with state := .waiting c sl h.issue s.own none d none } ∧
        (t.slot sl).result.station = some s.own ∧ t.queue = s.queue) ∧
      (∀ h, s.holderOf e.resource = some h → p ≠ .nowait →
        s.spanLimit ≤ (h.issue - h.serve - 1).toNat →
        t.entry e.id = some { e with
          state := .claiming c sl p d (some (s.config.probeInterval.toNat * 10000)) } ∧
        t.queue = s.queue) ∧
      (∀ h, s.holderOf e.resource = some h → p = .nowait →
        t.entry e.id = none ∧ (t.slot sl).state = .done ∧
        (t.slot sl).result = ⟨some .busy, none, some s.own, some h.contextByte,
          some ((h.issue - h.serve - 1).setWidth 8)⟩)

/-! ### The membership unit's timers -/

/-- R97, R98: a silence timer's expiry in MEMBER wants a DEPART with the recorded tag, or 0; it is queued,
or pends behind one that is. In JOINING and LEAVING the timer restarts. R101: the beacon timer's expiry
restarts it and wants a BEACON, unless one is queued. That an expiry of no running silence timer, and one of
the beacon timer outside MEMBER, changes nothing is the model's choice (log 4). -/
def Obligations.MembershipTimersWantTheirFrames : Prop :=
  ∀ s : Machine.State,
    (∀ x : StationNo, (s.record x).silence = none → exec (.silenceTimerExpiry x) s = .next s) ∧
    (∀ x : StationNo, x ≠ 0 → x ≠ s.own → (s.record x).silence.isSome = true →
      s.member.station = .member →
      ∃ t, exec (.silenceTimerExpiry x) s = .next t ∧
        t.record x = { s.record x with silence := none } ∧
        (∀ y, y ≠ x → t.record y = s.record y) ∧ t.member.station = s.member.station ∧
        t.lock = s.lock ∧ t.ring = s.ring ∧ t.notices = s.notices ∧ t.link = s.link ∧
        ((∀ f ∈ s.queue.frames, f.departsOther s.own = false) →
          (∀ f ∈ s.queue.frames, f.kind ≠ .depart → ∀ y g, f.payload ≠ some (.depart y g)) →
          t.member.departs = s.member.departs ∧
          t.queue = ⟨s.queue.frames ++ [⟨.depart, .membership, s.queue.nextAge, 0,
            some (.depart x ((s.record x).tag.getD 0)), false⟩], s.queue.nextAge + 1⟩) ∧
        ((∃ f ∈ s.queue.frames, f.departsOther s.own = true) →
          (∀ y ∈ s.member.departs, y.1 ≠ x) → t.queue = s.queue ∧
          t.member.departs = s.member.departs ++ [(x, (s.record x).tag.getD 0)])) ∧
    (∀ x : StationNo, x ≠ 0 → (s.record x).silence.isSome = true →
      (s.member.station = .joining ∨ s.member.station = .leaving) →
      ∃ t, exec (.silenceTimerExpiry x) s = .next t ∧
        t.record x = { s.record x with silence := some s.Timeout } ∧
        (∀ y, y ≠ x → t.record y = s.record y) ∧ t.member.departs = s.member.departs ∧
        t.member.station = s.member.station ∧ t.queue = s.queue ∧ t.lock = s.lock ∧
        t.ring = s.ring ∧ t.notices = s.notices) ∧
    (∀ g : Tag, s.member.station = .member → s.member.beaconTimer.isSome = true →
      s.member.ownTag = some g →
      ((∃ f ∈ s.queue.frames, ∃ g', f.payload = some (.beacon g')) →
        exec .beaconTimerExpiry s = .next { s with
          member := { s.member with
            beaconTimer := some (s.config.beaconInterval.toNat * 1000) } }) ∧
      ((∀ f ∈ s.queue.frames, ∀ g', f.payload ≠ some (.beacon g')) →
        exec .beaconTimerExpiry s = .next { s with
          member := { s.member with
            beaconTimer := some (s.config.beaconInterval.toNat * 1000) }
          queue := ⟨s.queue.frames ++ [⟨.beacon, .membership, s.queue.nextAge, 0,
            some (.beacon g), false⟩], s.queue.nextAge + 1⟩ })) ∧
    (s.member.station ≠ .member → exec .beaconTimerExpiry s = .next s)

/-! ### Attempts -/

/-- T in quarter microseconds (R108). -/
def Sys2Proof.Machine.State.T (s : Machine.State) : Nat := 4 * 2 ^ (s.config.bitTimeCode.toNat + 1)

/-- R110 to R113, R130: a lead begins in IDLE with a frame queued; its arbitration start takes the frame of
lowest class, then of earliest age, with the content its owner gives; without one the lead ends in
LISTENING; the arbitration field passed without loss leads to SENDING. While the line is dominant no lead
begins and no idle is regained. R111: a lead heard in IDLE opens a frame, timed from the pulse's falling
edge; in SEEKING a pulse sets the recessive time back to 0; after 12T it goes to IDLE, and a JOINING station
wants its JOIN. R111, R120: where a frame's end found the line dominant the idle count runs from its release, which
is neither a lead nor a loss of synchronization: DEDUCED (log 43). The model's choices: a lead and a regained idle sent as commands do not check the 12T again
(log 4), the operand of LEAD tells its moments (log 5), and a lead whose falling edge this station was not
given counts as 2T long (log 36). -/
def Obligations.LeadTakesTheHeadFrameAndIdleIsRegained : Prop :=
  ∀ s : Machine.State,
    (s.link.state = .idle → s.link.line = .recessive → s.queue.frames ≠ [] →
      exec (.lead .begins) s = .next { s with link := ⟨.leading, 0, 0, .recessive⟩ }) ∧
    (s.link.state = .idle → s.queue.frames = [] → exec (.lead .begins) s = .next s) ∧
    (s.link.state = .idle → s.link.line ≠ .recessive → exec (.lead .begins) s = .next s) ∧
    (s.link.state = .idle ∨ s.link.state = .seeking →
      exec (.lead .lineFalls) s = .next { s with link := { s.link with clock := 0, line := .pulse } }) ∧
    (s.link.state = .idle → s.link.line = .tail →
      exec (.lead .lineRises) s = .next { s with link := ⟨.idle, 0, 0, .recessive⟩ }) ∧
    ((s.link.state ≠ .idle ∨ s.link.line ≠ .tail) → exec (.lead .lineRises) s = .next s) ∧
    (s.link.state = .leading → ∀ f ∈ s.queue.frames, f.withdrawn = false →
      (∀ g ∈ s.queue.frames, g.withdrawn = false → g ≠ f →
        f.kind.cls.toNat < g.kind.cls.toNat ∨ (f.kind.cls = g.kind.cls ∧ f.age < g.age)) →
      ∀ c, s.contentOf f = some c →
      exec (.lead .arbitrationStart) s
        = .next { s with link := { s.link with state := .arbitrating ⟨f.age, c⟩ } }) ∧
    (s.link.state = .leading → (∀ f ∈ s.queue.frames, f.withdrawn = true) →
      exec (.lead .arbitrationStart) s = .next { s with link := { s.link with state := .listening } }) ∧
    (∀ o, s.link.state = .arbitrating o →
      exec .arbitrationFieldPassed s = .next { s with link := { s.link with state := .sending o } }) ∧
    (s.link.state = .idle → s.link.line = .pulse →
      exec .leadHeard s = .next { s with link := ⟨.listening, 0, s.link.clock, .recessive⟩ }) ∧
    (s.link.state = .idle → s.link.line ≠ .pulse →
      exec .leadHeard s = .next { s with link := ⟨.listening, 0, 2 * s.T, .recessive⟩ }) ∧
    (s.link.state = .seeking → exec .leadHeard s = .next { s with link := ⟨.seeking, 0, 0, .recessive⟩ }) ∧
    (s.link.state = .seeking → s.link.line ≠ .recessive → exec .idleRegained s = .next s) ∧
    (s.link.state = .seeking → s.link.line = .recessive → s.member.station ≠ .joining →
      exec .idleRegained s = .next { s with link := ⟨.idle, 12 * s.T, 0, .recessive⟩ }) ∧
    (∀ g d, s.link.state = .seeking → s.link.line = .recessive → s.member.station = .joining → s.member.ownTag = some g →
      s.config.digest = some d →
      ((∀ f ∈ s.queue.frames, ∀ g' d', f.payload ≠ some (.join g' d')) →
        exec .idleRegained s = .next { s with
          link := ⟨.idle, 12 * s.T, 0, .recessive⟩
          queue := ⟨s.queue.frames ++ [⟨.join, .membership, s.queue.nextAge, 0, some (.join g d),
            false⟩], s.queue.nextAge + 1⟩ }) ∧
      ((∃ f ∈ s.queue.frames, ∃ g' d', f.payload = some (.join g' d')) →
        exec .idleRegained s = .next { s with link := ⟨.idle, 12 * s.T, 0, .recessive⟩ }))

/-- Nothing is held behind a frame of this owner (R39, R40). -/
def Sys2Proof.Machine.State.NothingHeld (s : Machine.State) : FrameOwner → Prop
  | .membership => True
  | .lock (.entry id) => ∀ e, s.entry id = some e → e.held = []
  | .lock (.query id) => ∀ q, s.query id = some q → q.heldCancel = false

/-- The frames of the queue with one failed attempt more at an age. -/
def Sys2Proof.Machine.State.FramesFailed (s : Machine.State) (age : Nat) : OutboundQueue :=
  { s.queue with
    frames := s.queue.frames.map (fun (f : FrameRecord) =>
      if f.age = age then { f with attempts := f.attempts + 1 } else f) }

/-- R111: the transceiver at a frame's end: in IDLE, its idle count running from the frame's last release, or from
that to come where the line is still dominant (log 43). -/
def Sys2Proof.Machine.LinkAfterFrame (z : LineAtEnd) : Transceiver :=
  match z with
  | .released since => ⟨.idle, since, 0, .recessive⟩
  | .dominant => ⟨.idle, 0, 0, .tail⟩

/-- R117, R118: a command that fails the attempt of an own frame, and the transceiver after it: a collision,
or a veto at the end of the veto slot. -/
def Sys2Proof.Machine.FailsBy (s : Machine.State) (o : OwnFrame) (c : Instr) (after : Transceiver) : Prop :=
  ((s.link.state = .arbitrating o ∨ s.link.state = .sending o) ∧ c = .collision ∧
    after = { s.link with state := .listening }) ∨
  (s.link.state = .sending o ∧ ∃ heard z, c = .vetoSlotEnd heard (.ends true z) ∧ after = LinkAfterFrame z)

/-- R113, R131: a command that ends the attempt of an own frame short of ACCEPTED. -/
def Sys2Proof.Machine.AttemptEnds (s : Machine.State) (o : OwnFrame) (c : Instr) (after : Transceiver) :
    Prop :=
  FailsBy s o c after ∨
    (s.link.state = .arbitrating o ∧ c = .arbitrationLost ∧ after = { s.link with state := .listening })

/-- R97, R98: station x's silence timer runs again where x is PRESENT; the membership unit is otherwise as it
was. -/
def Sys2Proof.Machine.SilenceRunsAgain (s t : Machine.State) (x : StationNo) : Prop :=
  ((s.record x).state = .present → t.record x = { s.record x with silence := some s.Timeout }) ∧
  ((s.record x).state ≠ .present → t.record x = s.record x) ∧ (∀ y, y ≠ x → t.record y = s.record y) ∧
  t.member.station = s.member.station ∧ t.member.ownTag = s.member.ownTag ∧
  t.member.beaconTimer = s.member.beaconTimer ∧ t.member.fenceTimer = s.member.fenceTimer

/-- The queue without the frame of an age. -/
def Sys2Proof.Machine.State.QueueWithout (s : Machine.State) (age : Nat) : OutboundQueue :=
  { s.queue with frames := s.FramesWithout age }

/-- Entry e, with its context, slot, policy and deadline, owns the one CLAIM f of an age; no want waits, and a new
holder entry of its resource moves it (R4). -/
def Sys2Proof.Machine.State.PlacedBehind (s : Machine.State) (age : Nat) (e : LockEntry) (f : FrameRecord)
    (k : Context) (sl : SlotIx) (p : WaitPolicy) (d : Option Timer) : Prop :=
  s.frameAt age = some f ∧ f.kind = .claim ∧ f.owner = .lock (.entry e.id) ∧ e ∈ s.lock.entries ∧
    e.isDeferred = false ∧ e.Moved s.own = some (k, sl, p, d) ∧ s.PendingSlotsAreNamed ∧
    s.lock.wants = [] ∧ ∀ g ∈ s.queue.frames, g.owner = .lock (.entry e.id) → g.age = age

/-- R4, R23 to R28: entry e has been evaluated again from step 7, and then, where it was the claim in flight,
its DEFERRED siblings. -/
def Sys2Proof.Machine.EvaluatedAgain (s t : Machine.State) (e : LockEntry) (k : Context) (sl : SlotIx)
    (p : WaitPolicy) (d : Option Timer) : Prop :=
  (∀ h, s.holderOf e.resource = some h →
    (p = .nowait → t.entry e.id = none ∧ (t.slot sl).state = .done ∧
      (t.slot sl).result = ⟨some .busy, none, some s.own, some h.contextByte,
        some ((h.issue - h.serve - 1).setWidth 8)⟩) ∧
    (p ≠ .nowait → (h.issue - h.serve - 1).toNat < s.spanLimit →
      t.entry e.id = some { e with state := .waiting k sl h.issue s.own none d none } ∧
      (t.slot sl).result.station = some s.own) ∧
    (p ≠ .nowait → s.spanLimit ≤ (h.issue - h.serve - 1).toNat →
      t.entry e.id = some { e with
        state := .claiming k sl p d (some (s.config.probeInterval.toNat * 10000)) } ∧
      (t.slot sl).result.station = none) ∧
    (e.isClaiming = true → ∀ y ∈ t.lock.entries, y.resource = e.resource → y.isDeferred = false)) ∧
  (s.holderOf e.resource = none →
    (∀ x ∈ s.lock.entries, x.resource = e.resource → x.isClaiming = true → x = e) →
    t.entry e.id = some { e with state := .claiming k sl p d none } ∧ (t.slot sl).result.station = none ∧
    (.entry e.id ∈ t.lock.wants ∨ ∃ g ∈ t.queue.frames, g.owner = .lock (.entry e.id)))

/-- R39: entry e, whose slot is sl, has been freed by the first action held against it. -/
def Sys2Proof.Machine.HeldFrees (t : Machine.State) (e : LockEntry) (sl : SlotIx) (a : HeldAction) : Prop :=
  t.entry e.id = none ∧ (t.slot sl).state = .done ∧
    (t.slot sl).result = ⟨some a.Completes, none, none, none, none⟩

/-- R4, R28, R39: entry e has been evaluated again from step 7, and then what is held against it has been applied:
where the evaluation leaves it waiting, the first action frees it. Its DEFERRED siblings follow. -/
def Sys2Proof.Machine.EvaluatedThenHeld (s t : Machine.State) (e : LockEntry) (k : Context) (sl : SlotIx)
    (p : WaitPolicy) (d : Option Timer) : Prop :=
  (e.held = [] → EvaluatedAgain s t e k sl p d) ∧
  (∀ a l, e.held = a :: l →
    (∀ h, s.holderOf e.resource = some h → p = .nowait →
      t.entry e.id = none ∧ (t.slot sl).state = .done ∧
      (t.slot sl).result = ⟨some .busy, none, some s.own, some h.contextByte,
        some ((h.issue - h.serve - 1).setWidth 8)⟩) ∧
    ((s.holderOf e.resource = none ∨ p ≠ .nowait) → HeldFrees t e sl a) ∧
    (s.holderOf e.resource ≠ none → e.isClaiming = true →
      ∀ y ∈ t.lock.entries, y.resource = e.resource → y.isDeferred = false) ∧
    (s.ClaimsAlone e → OldestSiblingClaims s t e.resource))

/-- R113, R117, R118, R131: the ends of an own attempt short of the eighth failure, of a frame that is not
withdrawn and has nothing held behind it: a lost arbitration counts nothing; a collision and a veto count one
failed attempt; the frame keeps its place. A collision during the lead counts none: the model's choice (log 12).
R134, R97: a marked frame leaves at the end of its attempt, with nothing reported; where it is a DEPART of
another station that station's silence timer runs again (log 19), and where it is the CLAIM of an entry that R4
has placed, the entry is evaluated then (log 26), and what is held against it is applied after that. R39, R40:
the first action held behind a CLAIM, or a CANCEL held behind a QUERY, is applied at the end of the attempt: the
entry or query is freed with its frame and its slot completes; of a CLAIMING entry the oldest DEFERRED sibling
claims. -/
def Obligations.AttemptsThatFailAreCounted : Prop :=
  ∀ s : Machine.State,
    (s.link.state = .leading →
      exec .collision s = .next { s with link := { s.link with state := .listening } }) ∧
    (∀ (o : OwnFrame) (f : FrameRecord), s.frameAt o.age = some f → f.withdrawn = false →
      s.NothingHeld f.owner →
      (s.link.state = .arbitrating o →
        exec .arbitrationLost s = .next { s with link := { s.link with state := .listening } }) ∧
      (f.attempts + 1 < 8 → (s.link.state = .arbitrating o ∨ s.link.state = .sending o) →
        exec .collision s = .next { s with
          link := { s.link with state := .listening }
          queue := s.FramesFailed o.age }) ∧
      (f.attempts + 1 < 8 → s.link.state = .sending o → ∀ heard z,
        exec (.vetoSlotEnd heard (.ends true z)) s = .next { s with
          link := LinkAfterFrame z
          queue := s.FramesFailed o.age })) ∧
    (∀ (o : OwnFrame) (f : FrameRecord) (c : Instr) (after : Transceiver), AttemptEnds s o c after →
      s.frameAt o.age = some f →
      (f.withdrawn = true → s.lock.wants = [] → s.member.departs = [] →
        (f.departsOther s.own = false →
          (∀ id e, f.owner = .lock (.entry id) → s.entry id = some e → e.slot = none) →
          exec c s = .next { s with link := after, queue := s.QueueWithout o.age }) ∧
        (∀ e k sl p d, s.PlacedBehind o.age e f k sl p d →
          ∃ t, exec c s = .next t ∧ t.link = after ∧ EvaluatedThenHeld s t e k sl p d) ∧
        (∀ x, f.owner = .membership → f.departNamed = some x → x ≠ s.own →
          ∃ t, exec c s = .next t ∧ SilenceRunsAgain s t x ∧ t.member.departs = [] ∧
            t = { s with member := t.member, link := after, queue := s.QueueWithout o.age })) ∧
      (f.withdrawn = false → (f.attempts + 1 < 8 ∨ c = .arbitrationLost) →
        (∀ g ∈ s.queue.frames, g.owner = f.owner → g.age = o.age) →
        (∀ id e a l i, f.owner = .lock (.entry id) → s.entry id = some e → e.held = a :: l →
          e.slot = some i → s.PendingSlotsAreNamed →
          ∃ t, exec c s = .next t ∧ t.link = after ∧ (∀ x ∈ t.lock.entries, x.id ≠ id) ∧
            (t.slot i).state = .done ∧
            (t.slot i).result = ⟨some a.Completes, none, none, none, none⟩ ∧
            (∀ g ∈ t.queue.frames, g.owner ≠ f.owner) ∧
            (e.isClaiming = true → s.ClaimsAlone e → OldestSiblingClaims s t e.resource)) ∧
        (∀ id q, f.owner = .lock (.query id) → s.query id = some q → q.heldCancel = true →
          ∃ t, exec c s = .next t ∧ t.link = after ∧ (∀ x ∈ t.lock.queries, x.id ≠ id) ∧
            (t.slot q.slot).state = .done ∧
            (t.slot q.slot).result = ⟨some .cancelled, none, none, none, none⟩ ∧
            (∀ g ∈ t.queue.frames, g.owner ≠ f.owner))))

/-- R35, R49, R59, R76, R90, R98, R107, R136, R137: the eighth failed attempt, by a collision or a veto,
abandons the frame: a fresh CLAIM and a QUERY complete LINK_FAIL, a probe and a GRANT start their timers, the
own JOIN is refused, the own DEPART ends LEAVING, a BEACON is dropped, and so is a DEPART of another station,
whose silence timer runs again and whose place the oldest pending DEPART takes. R28, R39: of an abandoned fresh
CLAIM the oldest DEFERRED sibling claims, and what was held does nothing; what was held behind an abandoned probe
frees its entry. -/
def Obligations.EighthFailureAbandonsTheFrame : Prop :=
  ∀ (s : Machine.State) (o : OwnFrame) (f : FrameRecord) (x : Instr) (after : Transceiver),
    FailsBy s o x after → s.frameAt o.age = some f →
    f.withdrawn = false → 7 ≤ f.attempts → s.lock.wants = [] →
    (∀ id e c sl p d rt, f.kind = .claim → f.owner = .lock (.entry id) → s.entry id = some e →
      e.state = .claiming c sl p d rt →
      (∀ y ∈ s.lock.entries, y.resource = e.resource → y.isDeferred = false) →
      ∃ t, exec x s = .next t ∧ t.entry id = none ∧ (t.slot sl).state = .done ∧
        (t.slot sl).result = ⟨some .linkFail, none, none, none, none⟩ ∧
        (∀ g ∈ t.queue.frames, g.age ≠ o.age) ∧ t.link = after) ∧
    (∀ id e c sl p d rt, f.kind = .claim → f.owner = .lock (.entry id) → s.entry id = some e →
      e.state = .claiming c sl p d rt → s.PendingSlotsAreNamed → s.ClaimsAlone e → o.age < s.queue.nextAge →
      ∃ t, exec x s = .next t ∧ t.entry id = none ∧ (t.slot sl).state = .done ∧
        (t.slot sl).result = ⟨some .linkFail, none, none, none, none⟩ ∧
        (∀ g ∈ t.queue.frames, g.age ≠ o.age) ∧ t.link = after ∧ OldestSiblingClaims s t e.resource) ∧
    (∀ id e c sl g h ep d pr a l, f.kind = .claim → f.owner = .lock (.entry id) → s.entry id = some e →
      e.held = a :: l → e.state = .waiting c sl g h ep d pr →
      ∃ t, exec x s = .next t ∧ HeldFrees t e sl a ∧ (∀ y ∈ s.lock.entries, y.id ≠ id → y ∈ t.lock.entries) ∧
        (∀ g ∈ t.queue.frames, g.age ≠ o.age) ∧ t.link = after) ∧
    (∀ id e c sl g h ep d pr, f.kind = .claim → f.owner = .lock (.entry id) → s.entry id = some e →
      e.held = [] → e.state = .waiting c sl g h ep d pr →
      ∃ t, exec x s = .next t ∧
        t.lock.entries = s.EntriesWith id (.waiting c sl g h ep d
          (some (s.config.probeInterval.toNat * 10000))) ∧
        t.queue.frames = s.FramesWithout o.age ∧ t.ring = s.ring ∧ t.notices = s.notices ∧
        t.link = after) ∧
    (∀ id e v j w gr, f.kind = .grant → f.owner = .lock (.entry id) → s.entry id = some e →
      e.state = .handing v j w gr →
      ∃ t, exec x s = .next t ∧
        t.lock.entries = s.EntriesWith id (.handing v j w
          (some (s.config.probeInterval.toNat * 10000))) ∧
        t.queue.frames = s.FramesWithout o.age ∧ t.ring = s.ring ∧ t.notices = s.notices ∧
        t.link = after) ∧
    (∀ id q, f.kind = .query → f.owner = .lock (.query id) → s.query id = some q →
      ∃ t, exec x s = .next t ∧ (∀ p ∈ t.lock.queries, p.id ≠ id) ∧
        (t.slot q.slot).state = .done ∧
        (t.slot q.slot).result = ⟨some .linkFail, none, none, none, none⟩ ∧
        (∀ g ∈ t.queue.frames, g.age ≠ o.age) ∧ t.link = after) ∧
    (∀ g d, f.kind = .join → f.owner = .membership → f.payload = some (.join g d) →
      s.member.station = .joining →
      ∃ t, exec x s = .next t ∧ t.member.station = .refused ∧ t.link.state = .off ∧
        (∀ y : StationNo, t.record y = { s.record y with silence := none }) ∧
        t.queue.frames = s.FramesWithout o.age ∧ t.notices = (s.enterNotice .joinFailed).notices ∧
        t.lock = s.lock) ∧
    (∀ g, f.kind = .depart → f.owner = .membership → f.payload = some (.depart s.own g) →
      s.member.station = .leaving → s.own ≠ 0 →
      ∃ t, exec x s = .next t ∧ t.member.station = .offline ∧ t.link.state = .off ∧
        t.record s.own = ⟨.absent, none, (s.record s.own).epoch + 1, none⟩ ∧
        (∀ y : StationNo, y ≠ s.own → t.record y = { s.record y with silence := none }) ∧
        (∀ y ∈ t.queue.frames, y ∈ s.FramesWithout o.age) ∧
        t.notices = (s.enterNotice .left).notices ∧ t.lock = s.lock) ∧
    (∀ g, f.kind = .beacon → f.owner = .membership → f.payload = some (.beacon g) →
      exec x s = .next { s with link := after, queue := s.QueueWithout o.age }) ∧
    (∀ d g, f.kind = .depart → f.owner = .membership → f.payload = some (.depart d g) → d ≠ s.own →
      ∃ t, exec x s = .next t ∧ SilenceRunsAgain s t d ∧
        t = { s with member := t.member, link := after, queue := t.queue } ∧
        (s.member.departs = [] → t.member.departs = [] ∧ t.queue = s.QueueWithout o.age) ∧
        (∀ d' g' l, s.member.departs = (d', g') :: l →
          (∀ y ∈ s.FramesWithout o.age, y.kind ≠ .depart ∧ ∀ z w, y.payload ≠ some (.depart z w)) →
          t.member.departs = l ∧
          t.queue = ⟨s.FramesWithout o.age ++ [⟨.depart, .membership, s.queue.nextAge, 0,
            some (.depart d' g'), false⟩], s.queue.nextAge + 1⟩))

/-! ### The veto slot -/

/-- R114 to R116, R187: the frames that no condition of R116 but the digest condition has vetoed are those a
sender sends, tag 0 of JOIN and BEACON and sender 0 apart; and their content is the one sent. So no bit of
a frame's encoding is dropped. -/
def Obligations.FramesThatPassAreTheFramesThatAreSent : Prop :=
  (∀ (x : StationNo) (c : FrameContent), x ≠ 0 → (∀ d, c ≠ .join 0 d) → c ≠ .beacon 0 →
    frameContent (linkFrame x c) = some c ∧ (linkFrame x c).check = computedCheck (linkFrame x c) ∧
    (Instr.vetoSlotEnd (linkFrame x c) .checked).wellFormed = true) ∧
  (∀ (f : LinkFrame) (c : FrameContent), f.payload.length = f.length.toNat →
    f.check = computedCheck f → frameContent f = some c → f = linkFrame f.sender c ∧ f.sender ≠ 0)

/-- R116: what makes this station veto a frame of another, as it stands now: a wrong check, fields that say
nothing, and, at a MEMBER, a JOIN of another digest. -/
def Sys2Proof.Machine.State.Finds (s : Machine.State) (heard : LinkFrame) : Prop :=
  heard.check ≠ computedCheck heard ∨ frameContent heard = none ∨
    ∃ g d d', frameContent heard = some (.join g d) ∧ s.member.station = .member ∧
      s.config.digest = some d' ∧ d' ≠ d

/-- R115 to R117: a listener decides its veto with the last check bit and drives it whatever it has become by
the slot's end. It drops a vetoed frame with none of its effects, one another station vetoes or its own. A
CLAIM, GRANT or QUERY that passes goes on into its answer field, at a listener and at its sender, which sends the
slot's bit and then each of the 28 as a 1 (R116, R120); and a frame
that it decided not to veto is not vetoed by this station at the end. A slot's end whose decision was not given
a moment of its own decides too: the model's choice (log 37). -/
def Obligations.VetoSlotDropsAFrameOrPassesItOn : Prop :=
  ∀ (s : Machine.State) (heard : LinkFrame) (z : LineAtEnd),
    (s.link.state = .listening →
      ∃ v, exec (.vetoSlotEnd heard .checked) s
          = .next { s with link := { s.link with state := .vetoSlot v } } ∧ (v = true ↔ s.Finds heard)) ∧
    (∀ b, (s.link.state = .vetoSlot true ∨ (s.link.state = .listening ∧ s.Finds heard) ∨
        (b = true ∧ (s.link.state = .listening ∨ s.link.state = .vetoSlot false))) →
      exec (.vetoSlotEnd heard (.ends b z)) s = .next { s with link := LinkAfterFrame z }) ∧
    ((s.link.state = .vetoSlot false ∨ (s.link.state = .listening ∧ ¬ s.Finds heard)) →
      (∀ c, frameContent heard = some c → c.kind.isLock = true →
        exec (.vetoSlotEnd heard (.ends false z)) s = .next { s with
          link := { s.link with
            state := .listeningAnswer ⟨heard.sender, c, false, none, none⟩ } }) ∧
      (∀ c, frameContent heard = some c → c.kind.isLock = false →
        s.member.station ≠ .leaving →
        ∃ t, exec (.vetoSlotEnd heard (.ends false z)) s = .next t ∧
          t.link = LinkAfterFrame z)) ∧
    (∀ o, s.link.state = .sending o → s.own ≠ 0 → o.content.kind.isLock = true →
      exec (.vetoSlotEnd heard .checked) s = .next s ∧
      exec (.vetoSlotEnd heard (.ends false z)) s
        = .next { s with link := { s.link with state := .sendingAnswer o } } ∧
      s.sentBits = some (frameBits (linkFrame s.own o.content) ++ [true])) ∧
    (∀ o, s.link.state = .sendingAnswer o → s.sentBits = some (List.replicate 28 true)) ∧
    (∀ v, s.link.state = .vetoSlot v → s.drivesVeto = v)

/-- The station listens to a frame that carries x, the number of another station, and has not decided to veto
it; and no frame of its own queue is a DEPART of x. -/
def Sys2Proof.Machine.State.Hears (s : Machine.State) (x : StationNo) : Prop :=
  (s.link.state = .listening ∨ s.link.state = .vetoSlot false) ∧ x ≠ 0 ∧ x ≠ s.own ∧
    ∀ f ∈ s.queue.frames, f.departNamed ≠ some x

/-- The station listens to a frame that carries x, its own number or another's, and has not decided to veto it; and
no frame of its own queue is a DEPART of x, where x is another station. -/
def Sys2Proof.Machine.State.HearsFrom (s : Machine.State) (x : StationNo) : Prop :=
  (s.link.state = .listening ∨ s.link.state = .vetoSlot false) ∧ x ≠ 0 ∧
    (x ≠ s.own → ∀ f ∈ s.queue.frames, f.departNamed ≠ some x)

/-- The station listens to a frame that carries x, its own number or another's, and has not decided to veto it; and
f, the only DEPART in its queue, names d. -/
def Sys2Proof.Machine.State.HearsBeside (s : Machine.State) (x d : StationNo) (f : FrameRecord) : Prop :=
  (s.link.state = .listening ∨ s.link.state = .vetoSlot false) ∧ x ≠ 0 ∧ f ∈ s.queue.frames ∧
    f.departNamed = some d ∧
    ∀ h ∈ s.FramesWithout f.age, h.kind ≠ .depart ∧ ∀ y g, h.payload ≠ some (.depart y g)

/-- R93, R98: the queued DEPART f is withdrawn: of the pending DEPARTs those left stay, and the oldest of them
takes its place. -/
def Sys2Proof.Machine.DepartIsWithdrawn (s t : Machine.State) (f : FrameRecord) (left : List (StationNo × Tag)) :
    Prop :=
  (left = [] → t.member.departs = [] ∧ t.queue = s.QueueWithout f.age) ∧
  (∀ y g l, left = (y, g) :: l → t.member.departs = l ∧
    t.queue = ⟨s.FramesWithout f.age ++ [⟨.depart, .membership, s.queue.nextAge, 0, some (.depart y g), false⟩],
      s.queue.nextAge + 1⟩)

/-- R92, R93: the record of the sender x of an accepted frame that is no JOIN and no DEPART of x, before what the
frame does besides: PRESENT, with its silence timer run anew; one of this station's own number is left. -/
def Sys2Proof.Machine.State.RecordMarked (s : Machine.State) (x : StationNo) : MemberRecord :=
  if x = s.own then s.record x
  else ⟨.present, if (s.record x).state = .present then (s.record x).tag else none, (s.record x).epoch,
    some s.Timeout⟩

/-- R92, R93: PEER_UP of such a sender where it was not PRESENT. -/
def Sys2Proof.Machine.State.TellMarked (s : Machine.State) (x : StationNo) : Machine.State :=
  s.Tell (decide (x ≠ s.own ∧ (s.record x).state ≠ .present)) (.peerUp x)

/-- R92, R93, R122: a CLAIM or QUERY of station x is accepted at its answer end. -/
def Sys2Proof.Machine.MarksItsSender (s t : Machine.State) (x : StationNo) : Prop :=
  t.record x = s.RecordMarked x ∧ (∀ y, y ≠ x → t.record y = s.record y) ∧
  t.member.station = s.member.station ∧ t.member.ownTag = s.member.ownTag ∧
  t.member.beaconTimer = s.member.beaconTimer ∧ t.member.fenceTimer = s.member.fenceTimer ∧
  t.lock = s.lock ∧ t.ring = s.ring ∧ t.notices = (s.TellMarked x).notices ∧
  ((x = s.own ∨ ∀ g ∈ s.queue.frames, g.departNamed ≠ some x) → t.queue = s.queue) ∧
  (x ≠ s.own → (∀ p ∈ t.member.departs, p.1 ≠ x) ∧
    ∀ f ∈ s.queue.frames, f.departNamed = some x →
      (∀ h ∈ s.FramesWithout f.age, h.kind ≠ .depart ∧ ∀ y g, h.payload ≠ some (.depart y g)) →
      DepartIsWithdrawn s t f (s.member.departs.filter (fun p => decide (p.1 ≠ x))))

/-- No entry waits on station x. -/
def Sys2Proof.Machine.State.NoneWaitsOn (s : Machine.State) (x : StationNo) : Prop :=
  ∀ e ∈ s.lock.entries, ∀ c sl k ep d pr, e.state ≠ .waiting c sl k x ep d pr

/-- R92, R93, R94, R96, R98: an accepted BEACON of another station: its record and the notice, by the record
before; a pending DEPART of the sender goes, and so does a queued one, whose place the oldest of the others
pending takes; the other records and the slots stay. R93, R122: a CLAIM or QUERY of another station, accepted at its
answer end, keeps or makes its sender PRESENT so too, with its tag and epoch kept or its tag absent, and leaves the
lock engine. R92: a BEACON, CLAIM or QUERY of this station's own number that it did not send changes the transceiver
alone, and a GRANT of it leaves the membership unit. -/
def Obligations.BeaconHeardRecordsPresenceAndTag : Prop :=
  (∀ (s : Machine.State) (f : HeardFrame) (line : AnswerLine), s.link.state = .listeningAnswer f →
    f.content.kind = .claim ∨ f.content.kind = .query → f.sender ≠ 0 →
    ∃ t, exec (.answerEnd line) s = .next t ∧ t.link = LinkAfterFrame line.atEnd ∧ MarksItsSender s t f.sender ∧
      (f.sender = s.own → t = { s with link := t.link })) ∧
  (∀ (s : Machine.State) (f : HeardFrame) (line : AnswerLine), s.link.state = .listeningAnswer f →
    f.content.kind = .grant → f.sender = s.own → ∃ t, exec (.answerEnd line) s = .next t ∧ t.member = s.member) ∧
  (∀ (s : Machine.State) (g : Tag) (z : LineAtEnd), s.HearsFrom s.own → g ≠ 0 →
    exec (.vetoSlotEnd (linkFrame s.own (.beacon g)) (.ends false z)) s = .next { s with link := LinkAfterFrame z }) ∧
  (∀ (s : Machine.State) (x : StationNo) (g : Tag) (f : FrameRecord) (z : LineAtEnd), s.HearsBeside x x f →
    x ≠ s.own → g ≠ 0 →
    ((s.record x).state = .present → (s.record x).tag = none ∨ (s.record x).tag = some g) →
    ∃ t, exec (.vetoSlotEnd (linkFrame x (.beacon g)) (.ends false z)) s = .next t ∧
      t.record x = ⟨.present, some g, (s.record x).epoch, some s.Timeout⟩ ∧ t.lock = s.lock ∧
      DepartIsWithdrawn s t f (s.member.departs.filter (fun p => decide (p.1 ≠ x)))) ∧
  ∀ (s : Machine.State) (x : StationNo) (g : Tag) (z : LineAtEnd), s.Hears x → g ≠ 0 →
    ∃ t, exec (.vetoSlotEnd (linkFrame x (.beacon g)) (.ends false z)) s = .next t ∧
      t.link = LinkAfterFrame z ∧ (∀ y, y ≠ x → t.record y = s.record y) ∧
      t.member.station = s.member.station ∧ t.ring = s.ring ∧
      t.member.departs = s.member.departs.filter (fun d => decide (d.1 ≠ x)) ∧
      ((s.record x).state ≠ .present →
        t.record x = ⟨.present, some g, (s.record x).epoch, some s.Timeout⟩ ∧
        t.notices = (s.enterNotice (.peerUp x)).notices ∧ t.lock = s.lock ∧ t.queue = s.queue) ∧
      ((s.record x).state = .present → ((s.record x).tag = none ∨ (s.record x).tag = some g) →
        t.record x = ⟨.present, some g, (s.record x).epoch, some s.Timeout⟩ ∧
        t.notices = s.notices ∧ t.lock = s.lock ∧ t.queue = s.queue) ∧
      (∀ g', (s.record x).state = .present → (s.record x).tag = some g' → g' ≠ g →
        t.record x = ⟨.present, some g, (s.record x).epoch + 1, some s.Timeout⟩ ∧
        t.notices = (s.enterNotice (.peerRejoined x)).notices)

/-- R83, R95, R96, R98, R99, R103, R104, R107: an accepted JOIN raises the epoch of a PRESENT sender, and every
remote waiter on it probes at once; an accepted DEPART makes the station it names ABSENT where its tag
fits; a queued DEPART of the sender of the JOIN, or of the station named, is withdrawn. A DEPART that names this
station with tag 0 or its own tag fences a MEMBER with cause DEPARTED, whose JOIN is queued at once, and ends
LEAVING; one with another tag does neither. R93, R161: the sender of a DEPART of another station is made PRESENT
first, with PEER_UP where it was not, and the station named departs after that. R92: a JOIN of this station's own
number that it did not send changes the transceiver alone; a DEPART of that number changes no record of its sender
and acts on the station it names. -/
def Obligations.JoinAndDepartHeardMoveTheRecord : Prop :=
  (∀ (s : Machine.State) (g : Tag) (d : Digest) (z : LineAtEnd), s.HearsFrom s.own → g ≠ 0 →
    (s.member.station = .member → s.config.digest = some d) →
    exec (.vetoSlotEnd (linkFrame s.own (.join g d)) (.ends false z)) s
      = .next { s with link := LinkAfterFrame z }) ∧
  (∀ (s : Machine.State) (x : StationNo) (g : Tag) (f : FrameRecord) d (z : LineAtEnd), s.HearsBeside x x f →
    x ≠ s.own → g ≠ 0 →
    (s.member.station = .member → s.config.digest = some d) → s.NoneWaitsOn x →
    ∃ t, exec (.vetoSlotEnd (linkFrame x (.join g d)) (.ends false z)) s = .next t ∧
      (t.record x).state = .present ∧
      DepartIsWithdrawn s t f (s.member.departs.filter (fun p => decide (p.1 ≠ x)))) ∧
  (∀ (s : Machine.State) (x d : StationNo) (g : Tag) (f : FrameRecord) (z : LineAtEnd), s.HearsBeside x d f → d ≠ 0 →
    d ≠ s.own → (s.record d).state = .present → (g = 0 ∨ (s.record d).tag = none ∨ (s.record d).tag = some g) →
    s.NoneWaitsOn d →
    ∃ t, exec (.vetoSlotEnd (linkFrame x (.depart d g)) (.ends false z)) s = .next t ∧
      t.record d = ⟨.absent, none, (s.record d).epoch + 1, none⟩ ∧
      DepartIsWithdrawn s t f
        (s.member.departs.filter (fun p => decide ((x = s.own ∨ p.1 ≠ x) ∧ p.1 ≠ d)))) ∧
  ∀ (s : Machine.State) (x : StationNo) (z : LineAtEnd), s.HearsFrom x →
    (∀ g d, x ≠ s.own → g ≠ 0 → (s.member.station = .member → s.config.digest = some d) →
      ∃ t, exec (.vetoSlotEnd (linkFrame x (.join g d)) (.ends false z)) s = .next t ∧
        (∀ y, y ≠ x → t.record y = s.record y) ∧
        ((s.record x).state ≠ .present →
          t.record x = ⟨.present, some g, (s.record x).epoch, some s.Timeout⟩ ∧
          t.notices = (s.enterNotice (.peerUp x)).notices ∧ t.lock = s.lock) ∧
        ((s.record x).state = .present →
          t.record x = ⟨.present, some g, (s.record x).epoch + 1, some s.Timeout⟩ ∧
          t.notices = (s.enterNotice (.peerRejoined x)).notices ∧
          (s.UniqueIds → ∀ e c sl k ep dl pr, e ∈ s.lock.entries →
            e.state = .waiting c sl k x ep dl pr →
            { e with state := .waiting c sl k x ep dl none } ∈ t.lock.entries ∧
            (.entry e.id ∈ t.lock.wants ∨ ∃ f ∈ t.queue.frames, f.owner = .lock (.entry e.id))))) ∧
    (∀ d g, d ≠ 0 → d ≠ s.own →
      (∀ f ∈ s.queue.frames, f.departNamed ≠ some d) →
      ∃ t, exec (.vetoSlotEnd (linkFrame x (.depart d g)) (.ends false z)) s = .next t ∧
        (∀ y, y ≠ x → y ≠ d → t.record y = s.record y) ∧
        (d ≠ x → t.record x = s.RecordMarked x) ∧
        ((s.record d).state = .present →
          (g = 0 ∨ (s.record d).tag = none ∨ (s.record d).tag = some g) →
          t.record d = ⟨.absent, none, (s.record d).epoch + 1, none⟩ ∧
          t.notices = ((if d = x then s else s.TellMarked x).enterNotice (.peerDown d .heard)).notices) ∧
        ((s.record d).state ≠ .present ∨
            (g ≠ 0 ∧ ∃ g', (s.record d).tag = some g' ∧ g' ≠ g) →
          t.record d = s.record d ∧ t.notices = (if d = x then s else s.TellMarked x).notices ∧
          t.lock = s.lock)) ∧
    (∀ g, s.own ≠ 0 → (g = 0 ∨ s.member.ownTag = some g) →
      ∃ t, exec (.vetoSlotEnd (linkFrame x (.depart s.own g)) (.ends false z)) s = .next t ∧
        (s.member.station = .member → t.member.station = .joining ∧ ConvertsTo s t .fenced ∧
          (t.record s.own).state = .absent ∧ (t.record s.own).tag = none ∧
          (t.record s.own).epoch = (s.record s.own).epoch + 1 ∧
          t.member.ownTag = s.member.ownTag.map TagAfterFence ∧ JoinIsQueued s t s.FramesAfterFence ∧
          t.notices
            = s.NoticesOfFence (s.TellMarked x) .departed) ∧
        (s.member.station = .leaving →
          t.member.station = .offline ∧ t.link.state = .off ∧
          t.record s.own = ⟨.absent, none, (s.record s.own).epoch + 1, none⟩ ∧
          (∀ y, y ≠ x → y ≠ s.own → t.record y = { s.record y with silence := none }) ∧
          (t.record x).silence = none ∧ (∀ f ∈ t.queue.frames, f.departNamed ≠ some s.own) ∧
          t.notices = ((s.TellMarked x).enterNotice .left).notices)) ∧
    (∀ g, g ≠ 0 → s.member.ownTag ≠ some g →
      ∃ t, exec (.vetoSlotEnd (linkFrame x (.depart s.own g)) (.ends false z)) s = .next t ∧
        t.member.station = s.member.station ∧ t.record s.own = s.record s.own ∧ t.lock = s.lock ∧
        t.ring = s.ring)

/-- R101, R102: the acceptance of an own frame restarts the beacon and fence timers of a MEMBER; nothing else
of the membership unit changes. -/
def Sys2Proof.Machine.OwnTimersRestart (s t : Machine.State) : Prop :=
  t.member = if s.member.station = .member then
      { s.member with
        beaconTimer := some (s.config.beaconInterval.toNat * 1000)
        fenceTimer := some
          ((s.config.presenceMultiple.toNat - 2) * (s.config.beaconInterval.toNat * 1000)) }
    else s.member

/-- The timers of `OwnTimersRestart` alone. -/
def Sys2Proof.Machine.OwnTimersRun (s t : Machine.State) : Prop :=
  t.member.beaconTimer = some (s.config.beaconInterval.toNat * 1000) ∧
    t.member.fenceTimer
      = some ((s.config.presenceMultiple.toNat - 2) * (s.config.beaconInterval.toNat * 1000))

/-- R89, R98, R99, R101, R102, R107: the own JOIN that passes its veto slot makes the station MEMBER, with its
record PRESENT, its timers and the notice JOINED; an own BEACON that passes restarts the timers; an own DEPART
of another station makes it ABSENT where the tag fits, with cause TIMEOUT, and the oldest of the DEPARTs pending
takes its place; an own DEPART of itself that passes ends LEAVING. -/
def Obligations.OwnMembershipFramesAccepted : Prop :=
  ∀ (s : Machine.State) (a : Nat) (c : FrameContent) (f : FrameRecord) (heard : LinkFrame) (z : LineAtEnd),
    s.link.state = .sending ⟨a, c⟩ → s.own ≠ 0 → s.frameAt a = some f → f.owner = .membership →
    f.kind = c.kind → f.payload = some c →
    ∃ t, exec (.vetoSlotEnd heard (.ends false z)) s = .next t ∧
      (∀ g d, c = .join g d → g ≠ 0 → s.member.station = .joining →
        t.member.station = .member ∧
        t.record s.own = { s.record s.own with state := .present, tag := s.member.ownTag } ∧
        (∀ x, x ≠ s.own → t.record x = s.record x) ∧
        OwnTimersRun s t ∧
        t.notices = (s.enterNotice (.joined s.own)).notices ∧ t.link = LinkAfterFrame z ∧
        t.queue.frames = s.queue.frames.filter (fun x => decide (x.age ≠ a)) ∧ t.lock = s.lock ∧
        t.ring = s.ring) ∧
      (∀ g, c = .beacon g → g ≠ 0 → s.member.station = .member →
        OwnTimersRestart s t ∧
        t = { s with
          member := t.member, link := LinkAfterFrame z, queue := s.QueueWithout a }) ∧
      (∀ d g, c = .depart d g → d ≠ 0 → d ≠ s.own →
        t.link = LinkAfterFrame z ∧ t.member.station = s.member.station ∧ t.ring = s.ring ∧
        (∀ x, x ≠ d → t.record x = s.record x) ∧ (s.member.station = .member → OwnTimersRun s t) ∧
        (let fits := (s.record d).state = .present ∧
            (g = 0 ∨ (s.record d).tag = none ∨ (s.record d).tag = some g)
         (fits → t.record d = ⟨.absent, none, (s.record d).epoch + 1, none⟩ ∧
           t.notices = (s.enterNotice (.peerDown d .timeout)).notices ∧
           (s.UniqueIds → ∀ e k sl v ep dl pr, e ∈ s.lock.entries → e.state = .waiting k sl v d ep dl pr →
             t.entry e.id = some { e with state := .waiting k sl v d ep dl none })) ∧
         (¬ fits → t.record d = s.record d ∧ t.notices = s.notices ∧ t.lock = s.lock) ∧
         ((∀ h ∈ s.FramesWithout a, h.kind ≠ .depart ∧ ∀ y w, h.payload ≠ some (.depart y w)) →
           s.NoneWaitsOn d →
           (fits → DepartIsWithdrawn s t f (s.member.departs.filter (fun p => decide (p.1 ≠ d)))) ∧
           (¬ fits → DepartIsWithdrawn s t f s.member.departs)))) ∧
      (∀ g, c = .depart s.own g → s.member.station = .leaving →
        t.member.station = .offline ∧ t.link.state = .off ∧
        t.record s.own = ⟨.absent, none, (s.record s.own).epoch + 1, none⟩ ∧
        (∀ y, y ≠ s.own → t.record y = { s.record y with silence := none }) ∧
        t.notices = (s.enterNotice .left).notices ∧
        ∀ x ∈ t.queue.frames, x ∈ s.FramesWithout a)

/-! ### The answer field -/

/-- The link once this station has made its demand and drives an answer, or none (R120). -/
def Sys2Proof.Machine.State.Drives (s : Machine.State) (f : HeardFrame) (a : Option (BitVec 28))
    (committed : Option Nat) : Transceiver :=
  { s.link with
    state := .listeningAnswer { f with demanded := true, answer := a, committed := committed } }

/-- A station answers a frame and its holder entry stays. -/
def Sys2Proof.Machine.AnswersPlainly (s : Machine.State) (f : HeardFrame) (code : AnswerCode)
    (value : BitVec 16) : Prop :=
  exec .answerStart s
    = .next { s with link := s.Drives f (some (answerBits code s.own value)) none }

/-- A station answers a frame with its holder entry's issue and hands that ticket out (R46, R47). -/
def Sys2Proof.Machine.AnswersAndIssues (s : Machine.State) (f : HeardFrame) (h : LockEntry)
    (code : AnswerCode) : Prop :=
  exec .answerStart s = .next { s with
    lock := { s.lock with entries := s.EntriesWith h.id h.Issued }
    notices := s.NotesIssued h
    link := s.Drives f (some (answerBits code s.own h.issue)) none }

/-- R42 to R48: the answer demand at a holder entry, by the frame: a fresh CLAIM, a probe, a QUERY, a GRANT;
and without a holder entry, where a CLAIM or QUERY draws no answer. -/
def Obligations.HolderAnswersClaimsProbesAndQueries : Prop :=
  ∀ (s : Machine.State) (f : HeardFrame), s.link.state = .listeningAnswer f → f.demanded = false →
    (∀ h r c, f.content = .claim r c none true → s.holderOf r = some h →
      AnswersPlainly s f .busy 0) ∧
    (∀ h r c, f.content = .claim r c none false → s.holderOf r = some h →
      ((h.issue - h.serve - 1).toNat < s.spanLimit → AnswersAndIssues s f h .held) ∧
      (s.spanLimit ≤ (h.issue - h.serve - 1).toNat → AnswersPlainly s f .full 0)) ∧
    (∀ h r c k w, f.content = .claim r c (some k) w → s.holderOf r = some h →
      (1 ≤ (k - h.serve).toNat ∧ (k - h.serve).toNat < (h.issue - h.serve).toNat →
        AnswersPlainly s f .held k) ∧
      (¬ (1 ≤ (k - h.serve).toNat ∧ (k - h.serve).toNat < (h.issue - h.serve).toNat) →
        ((h.issue - h.serve - 1).toNat < s.spanLimit → AnswersAndIssues s f h .requeued) ∧
        (s.spanLimit ≤ (h.issue - h.serve - 1).toNat → AnswersPlainly s f .full 0))) ∧
    (∀ h r, f.content = .query r → s.holderOf r = some h →
      AnswersPlainly s f .holder
        ((match h.context with | some k => BitVec.ofNat 8 k.val | none => (0xFF : Byte))
          ++ (h.issue - h.serve - 1).setWidth 8)) ∧
    (∀ r, ((∃ c p w, f.content = .claim r c p w) ∨ f.content = .query r) → s.holderOf r = none →
      exec .answerStart s = .next { s with link := s.Drives f none none }) ∧
    (∀ h r o i, f.content = .grant r o i → s.holderOf r = some h →
      exec .answerStart s = .next { s with link := s.Drives f none none })

/-- R77: whether an entry may take a GRANT that offers ticket o of resource r, sent by station x. -/
def Sys2Proof.Machine.State.MayTake (s : Machine.State) (x : StationNo) (r : Resource) (o : Ticket)
    (e : LockEntry) : Bool :=
  match e.state with
  | .waiting _ _ k h ep _ _ =>
    decide (e.resource = r ∧ k = o ∧ h = x ∧ ep = some (s.record x).epoch)
  | _ => false

/-- R14: the kind of the frame that an owner wants. -/
def Sys2Proof.Machine.State.WantsKind (s : Machine.State) (o : Owner) (k : FrameKind) : Prop :=
  match o with
  | .query _ => k = .query
  | .entry id => ∃ e, s.entry id = some e ∧ k = (match e.state with | .handing _ _ _ _ => .grant | _ => .claim)

/-- R15, R135: the frame of an age has left the queue, and the oldest want o, of kind k, has taken its place with
the next age. -/
def Sys2Proof.Machine.State.QueueAdmits (s : Machine.State) (age : Nat) (o : Owner) (k : FrameKind) :
    OutboundQueue :=
  ⟨s.FramesWithout age ++ [⟨k, .lock o, s.queue.nextAge, 0, none, false⟩], s.queue.nextAge + 1⟩

/-- The queue has six lock-engine frames, with that of an age. -/
def Sys2Proof.Machine.State.SixLockFrames (s : Machine.State) (age : Nat) : Prop :=
  s.queue.frames.countP (fun f => f.kind.isLock) = 6 ∧
    (s.FramesWithout age).countP (fun f => f.kind.isLock) = 5

/-- R77, R78: the answer demand of a GRANT at a station without a holder entry: of the waiters that may
take it, the one taken earliest commits TAKEN and holds with the carried issue, its want or queued probe gone
(R15), whose place the oldest want takes (R135); its COMPLETED comes before WANTED; without such a waiter, or
with an issue beyond the span limit, the station is silent. -/
def Obligations.GrantIsTakenByTheWaiterItOffers : Prop :=
  ∀ (s : Machine.State) (f : HeardFrame) (r : Resource) (o i : Ticket),
    s.link.state = .listeningAnswer f → f.demanded = false → f.content = .grant r o i →
    s.holderOf r = none →
    (∀ e c sl k h ep d pr, 1 ≤ (i - o).toNat → (i - o).toNat ≤ s.spanLimit →
      s.lock.entries.find? (s.MayTake f.sender r o) = some e → e.state = .waiting c sl k h ep d pr →
      ∃ t, exec .answerStart s = .next t ∧
        t.lock.entries = s.EntriesWith e.id (.holding c 1 o i (decide (i - o - 1 ≠ 0))) ∧
        (t.slot sl).state = .done ∧
        (t.slot sl).result = ⟨some .granted, some 1, some s.own, some (BitVec.ofNat 8 c.val),
          some ((i - o - 1).setWidth 8)⟩ ∧
        t.link = s.Drives f
          (some (answerBits .taken s.own (BitVec.ofNat 16 c.val))) (some e.id) ∧
        t.notices = ((s.Tell (s.slot sl).notify (.completed sl .granted)).Tell (decide (i - o - 1 ≠ 0))
          (.wanted r c (i - o - 1))).notices ∧
        t.member = s.member ∧ t.lock.queries = s.lock.queries ∧
        (s.OneFrame (.entry e.id) → t.WantsNothing (.entry e.id)) ∧
        ((∀ g ∈ s.queue.frames, g.owner ≠ .lock (.entry e.id)) → t.queue = s.queue ∧
          t.lock.wants = s.lock.wants.filter (fun w => decide (w ≠ .entry e.id))) ∧
        (∀ g ∈ s.queue.frames, g.owner = .lock (.entry e.id) → g.kind.isLock = true →
          s.OneFrame (.entry e.id) → .entry e.id ∉ s.lock.wants →
          (s.lock.wants = [] → t.lock.wants = [] ∧ t.queue = s.QueueWithout g.age) ∧
          (∀ w rest k, s.lock.wants = w :: rest → s.SixLockFrames g.age → s.WantsKind w k →
            t.lock.wants = rest ∧ t.queue = s.QueueAdmits g.age w k))) ∧
    (((i - o).toNat = 0 ∨ s.spanLimit < (i - o).toNat ∨
        ∀ e ∈ s.lock.entries, s.MayTake f.sender r o e = false) →
      exec .answerStart s = .next { s with link := s.Drives f none none })

/-- A CLAIM of entry e that is not marked is in its answer field: e is this station's only entry for the
resource, no query of this station asks for the resource, and no want waits. -/
def Sys2Proof.Machine.State.ClaimInAnswer (s : Machine.State) (age : Nat) (e : LockEntry)
    (c : Context) (probe : Option Ticket) (nowait : Bool) : Prop :=
  s.link.state = .sendingAnswer ⟨age, .claim e.resource c probe nowait⟩ ∧
    (∃ f, s.frameAt age = some f ∧ f.kind = .claim ∧ f.owner = .lock (.entry e.id) ∧ f.withdrawn = false) ∧
    e ∈ s.lock.entries ∧ s.UniqueIds ∧
    (∀ x ∈ s.lock.entries, x.resource = e.resource → x = e) ∧
    (∀ q ∈ s.lock.queries, q.resource ≠ e.resource) ∧ s.lock.wants = [] ∧
    (∀ f ∈ s.queue.frames, f.owner = .lock (.entry e.id) → f.age = age)

/-- What every CLAIM outcome leaves: the frame is gone, the line idle, the own timers restarted in MEMBER (R101,
R102), the other entries as they were. -/
def Sys2Proof.Machine.ClaimIsOver (s t : Machine.State) (age : Nat) (e : LockEntry) : Prop :=
  t.queue.frames = s.FramesWithout age ∧ t.link.state = .idle ∧ OwnTimersRestart s t ∧
    (∀ x ∈ s.lock.entries, x.id ≠ e.id → x ∈ t.lock.entries)

/-- A station field that names another station (R32, R73). -/
def Sys2Proof.Machine.State.OtherStation (s : Machine.State) (st : StationNo) : Prop :=
  st ≠ 0 ∧ st ≠ s.own

/-- A CLAIM of entry e that is not marked is in its answer field, whatever else this station holds for the
resource, but no holder entry; and no want waits. -/
def Sys2Proof.Machine.State.ClaimAmongOthers (s : Machine.State) (age : Nat) (e : LockEntry)
    (c : Context) (probe : Option Ticket) (nowait : Bool) : Prop :=
  s.link.state = .sendingAnswer ⟨age, .claim e.resource c probe nowait⟩ ∧
    (∃ f, s.frameAt age = some f ∧ f.kind = .claim ∧ f.owner = .lock (.entry e.id) ∧ f.withdrawn = false) ∧
    e ∈ s.lock.entries ∧ s.PendingSlotsAreNamed ∧ s.lock.wants = [] ∧
    s.holderOf e.resource = none ∧ (∀ f ∈ s.queue.frames, f.owner = .lock (.entry e.id) → f.age = age)

/-- R4, R49: the other entries of the resource, but those `kept`, have been placed under holder entry h, and each
pending QUERY of the resource has been answered with its span after that. -/
def Sys2Proof.Machine.PlacedUnder (s t : Machine.State) (h : LockEntry) (kept : LockEntry → Bool) : Prop :=
  EntriesPlacedUnder s t h kept ∧
  (∀ q ∈ s.lock.queries, q.resource = h.resource →
    (∀ x ∈ t.lock.queries, x.id ≠ q.id) ∧ (t.slot q.slot).state = .done ∧
    (t.slot q.slot).result = ⟨some .answered, none, some s.own, some h.contextByte,
      some ((h.issue - h.serve - 1 + BitVec.ofNat 16 (s.TicketsFor h kept s.lock.entries)).setWidth 8)⟩)

/-- R4: entry e, in context c, holds from a NONE answer with serve v, and every other entry of its resource has
been placed under it. -/
def Sys2Proof.Machine.PlacesTheOthers (s t : Machine.State) (e : LockEntry) (c : Context) (v : Ticket) :
    Prop :=
  PlacedUnder s t { e with state := .holding c 1 v (v + 1) false, held := [] } (fun _ => false)

/-- R39: an outcome leaves entry e waiting in a state, its slot's station field as given; what is held against it
then frees it. -/
def Sys2Proof.Machine.LeftIn (t : Machine.State) (e : LockEntry) (sl : SlotIx) (st : EntryState)
    (station : Option StationNo) : Prop :=
  (e.held = [] → t.entry e.id = some { e with state := st } ∧ (t.slot sl).result.station = station) ∧
  (∀ a l, e.held = a :: l → HeldFrees t e sl a)

/-- R31, R39: entry e, in context c, holds from a NONE answer with serve v, its slot GRANTED; what was held against
it is gone. -/
def Sys2Proof.Machine.HoldsFromNone (s t : Machine.State) (e : LockEntry) (c : Context) (sl : SlotIx)
    (v : Ticket) : Prop :=
  t.entry e.id = some { e with state := .holding c 1 v (v + 1) false, held := [] } ∧
    (t.slot sl).state = .done ∧
    (t.slot sl).result = ⟨some .granted, some 1, some s.own, some (BitVec.ofNat 8 c.val), some 0⟩

/-- R32 to R34, R39: what an answer other than NONE to a fresh CLAIM makes of its entry. -/
def Sys2Proof.Machine.FreshClaimLeaves (s t : Machine.State) (e : LockEntry) (c : Context) (sl : SlotIx)
    (p : WaitPolicy) (d : Option Timer) (a : Answer) : Prop :=
  let again := LeftIn t e sl (.claiming c sl p d (some (s.config.probeInterval.toNat * 10000))) none
  match a with
  | .none => True
  | .damaged => again
  | .code k st v =>
    (s.OtherStation st → k = .held → p ≠ .nowait →
      LeftIn t e sl (.waiting c sl v st (some (s.record st).epoch) d
        (some (s.config.probeInterval.toNat * 10000))) (some st)) ∧
    (s.OtherStation st → (k = .held ∨ k = .busy ∨ k = .full) → p = .nowait →
      t.entry e.id = none ∧ (t.slot sl).state = .done ∧
      (t.slot sl).result = ⟨some .busy, none, some st, none, none⟩) ∧
    ((¬ s.OtherStation st ∨ k = .requeued ∨ ((k = .busy ∨ k = .full) ∧ p ≠ .nowait)) → again)

/-- R72 to R74, R39: what an answer other than NONE to a probe that carried ticket k makes of its entry, which
waits in context c with ticket k₀ at station h. -/
def Sys2Proof.Machine.ProbeLeaves (s t : Machine.State) (e : LockEntry) (k : Ticket) (c : Context)
    (sl : SlotIx) (k₀ : Ticket) (h : StationNo) (ep : Option Epoch) (d : Option Timer) (a : Answer) : Prop :=
  let again := LeftIn t e sl (.claiming c sl (if d.isSome then .limited else .wait) d
    (some (s.config.probeInterval.toNat * 10000))) none
  match a with
  | .none => True
  | .damaged => again
  | .code a st v =>
    (s.OtherStation st → a = .held → st = h ∧ ep = some (s.record st).epoch ∧ v = k →
      LeftIn t e sl (.waiting c sl k₀ h ep d (some (s.config.probeInterval.toNat * 10000)))
        (s.slot sl).result.station) ∧
    (s.OtherStation st → a = .requeued →
      LeftIn t e sl (.waiting c sl v st (some (s.record st).epoch) d
        (some (s.config.probeInterval.toNat * 10000))) (some st)) ∧
    ((¬ s.OtherStation st ∨ a = .full ∨ a = .busy ∨
        (a = .held ∧ ¬ (st = h ∧ ep = some (s.record st).epoch ∧ v = k))) → again)

/-- R31 to R34, R39: the outcomes of a fresh CLAIM at its answer end, first of an entry alone on its resource,
and then what was held against it: it does nothing to a holding and to an entry that is gone, and frees one that
still waits. Among others, NONE places them under the new holder entry (R4), the pending QUERYs being answered
after that: the model's choice (log 32). After any other answer (R28) the DEFERRED siblings stay while the entry
is still CLAIMING; else the oldest of them claims and the later ones stay. R4, R13: the answer to a CLAIM or
probe that R4 has marked is discarded, and the entry and its DEFERRED siblings are evaluated again; so it is
where this station has a holder entry and R4 has not placed the entry, for want of an answer end: the model's
choice (log 8). -/
def Obligations.FreshClaimOutcomes : Prop :=
  (∀ (s : Machine.State) (age : Nat) (e : LockEntry) (w : Bool) c sl p d rt (line : AnswerLine),
    s.ClaimInAnswer age e c none w → e.state = .claiming c sl p d rt →
    ∃ t, exec (.answerEnd line) s = .next t ∧ ClaimIsOver s t age e ∧
      (decodeAnswer .claim line.field = .none → HoldsFromNone s t e c sl 0) ∧
      FreshClaimLeaves s t e c sl p d (decodeAnswer .claim line.field)) ∧
  (∀ (s : Machine.State) (age : Nat) (e : LockEntry) (w : Bool) c sl p d rt (line : AnswerLine),
    s.ClaimAmongOthers age e c none w → e.state = .claiming c sl p d rt →
    (decodeAnswer .claim line.field = .none →
      ∃ t, exec (.answerEnd line) s = .next t ∧ PlacesTheOthers s t e c 0) ∧
    (decodeAnswer .claim line.field ≠ .none → s.ClaimsAlone e →
      ∃ t, exec (.answerEnd line) s = .next t ∧ FreshClaimLeaves s t e c sl p d (decodeAnswer .claim line.field) ∧
        ((∃ x, t.entry e.id = some x ∧ x.isClaiming = true) →
          ∀ y ∈ s.lock.entries, y.resource = e.resource → y.isDeferred = true → t.entry y.id = some y) ∧
        ((∀ x, t.entry e.id = some x → x.isClaiming = false) → OldestSiblingClaims s t e.resource))) ∧
  (∀ (s : Machine.State) (age : Nat) (e : LockEntry) (f : FrameRecord) (line : AnswerLine) c probe w k sl p d,
    s.link.state = .sendingAnswer ⟨age, .claim e.resource c probe w⟩ → s.PlacedBehind age e f k sl p d →
    (f.withdrawn = true ∨ s.holderOf e.resource ≠ none) →
    ∃ t, exec (.answerEnd line) s = .next t ∧ t.link.state = .idle ∧ EvaluatedThenHeld s t e k sl p d)

/-- R72 to R75, R39: the outcomes of a probe that carried ticket k, at its answer end, first of an entry alone on
its resource, and then what was held against it, as after a fresh CLAIM. Among others, NONE places them under the
new holder entry, and any other answer leaves them as they were, but for DEFERRED entries with no claim in
flight. -/
def Obligations.ProbeOutcomes : Prop :=
  (∀ (s : Machine.State) (age : Nat) (e : LockEntry) (k : Ticket) (w : Bool) c sl k₀ h ep d pr
      (line : AnswerLine),
    s.ClaimInAnswer age e c (some k) w → e.state = .waiting c sl k₀ h ep d pr →
    ∃ t, exec (.answerEnd line) s = .next t ∧ ClaimIsOver s t age e ∧
      (decodeAnswer .claim line.field = .none → HoldsFromNone s t e c sl k) ∧
      ProbeLeaves s t e k c sl k₀ h ep d (decodeAnswer .claim line.field)) ∧
  (∀ (s : Machine.State) (age : Nat) (e : LockEntry) (k : Ticket) (w : Bool) c sl k₀ h ep d pr
      (line : AnswerLine),
    s.ClaimAmongOthers age e c (some k) w → e.state = .waiting c sl k₀ h ep d pr →
    (decodeAnswer .claim line.field = .none →
      ∃ t, exec (.answerEnd line) s = .next t ∧ PlacesTheOthers s t e c k) ∧
    (decodeAnswer .claim line.field ≠ .none →
      ∃ t, exec (.answerEnd line) s = .next t ∧ t.lock.queries = s.lock.queries ∧
        ProbeLeaves s t e k c sl k₀ h ep d (decodeAnswer .claim line.field) ∧
        ∀ x ∈ s.lock.entries, x.id ≠ e.id →
          (e.held = [] ∨ x.isDeferred = false ∨ x.resource ≠ e.resource ∨
            ∃ y ∈ s.lock.entries, y.resource = x.resource ∧ y.isClaiming = true) →
          x ∈ t.lock.entries))

/-- A local waiter of this station for a resource (R68). -/
def Sys2Proof.Machine.State.WaitsHere (s : Machine.State) (r : Resource) (e : LockEntry) : Prop :=
  e.resource = r ∧ ∃ c sl k ep d pr, e.state = .waiting c sl k s.own ep d pr

/-- R2: an entry in retry pending for a resource. -/
def Sys2Proof.Machine.LockEntry.RetriesClaim (r : Resource) (e : LockEntry) : Prop :=
  e.resource = r ∧ ∃ c sl p d n, e.state = .claiming c sl p d (some n)

/-- R58: entry e has given its resource up: a local waiter is deferred behind an earlier taken one, or behind an
entry in retry pending; else it claims afresh. -/
def Sys2Proof.Machine.GivenUp (s t : Machine.State) (e : LockEntry) : Prop :=
  t.entry e.id = none ∧
    ∀ l₁ x l₂ c sl k ep d pr, s.lock.entries = l₁ ++ x :: l₂ → x.resource = e.resource →
      x.state = .waiting c sl k s.own ep d pr →
      (((∃ y ∈ l₁, s.WaitsHere e.resource y) ∨ ∃ y ∈ s.lock.entries, y.RetriesClaim e.resource) →
        t.entry x.id = some { x with state := .deferred c sl (if d.isSome then .limited else .wait) d }) ∧
      ((∀ y ∈ l₁, ¬ s.WaitsHere e.resource y) → (∀ y ∈ s.lock.entries, ¬ y.RetriesClaim e.resource) →
        t.entry x.id = some { x with
          state := .claiming c sl (if d.isSome then .limited else .wait) d none } ∧
        (.entry x.id ∈ t.lock.wants ∨ ∃ f ∈ t.queue.frames, f.owner = .lock (.entry x.id)))

/-- R55 to R58, R60: the outcomes at its answer end of this station's GRANT, which carried issue i, where the
HANDING entry's issue is now j: TAKEN frees the entry and its local waiters follow to the taker, those whose
ticket the carried queue does not hold probing at once; NONE steps the chain, which frees the entry when it is
exhausted, hands the resource to a local waiter of the next ticket (of two the earlier taken: the model's
choice, log 11), or wants the next GRANT, behind a want that waits (R135); a damaged answer gives the resource
up, and the earliest taken local waiter claims afresh unless a claim is in flight, the others being deferred. An
entry in retry pending stays. R101, R102: the own timers restart in MEMBER. -/
def Obligations.GrantOutcomes : Prop :=
  ∀ (s : Machine.State) (age : Nat) (e : LockEntry) v i j o g (f : FrameRecord) (line : AnswerLine),
    s.link.state = .sendingAnswer ⟨age, .grant e.resource o i⟩ → s.frameAt age = some f →
    f.kind = .grant → f.owner = .lock (.entry e.id) → e ∈ s.lock.entries → s.UniqueIds →
    e.state = .handing v j o g →
    (∀ x ∈ s.lock.entries, x.resource = e.resource →
      x = e ∨ s.WaitsHere e.resource x ∨ x.RetriesClaim e.resource) →
    (∀ f ∈ s.queue.frames, f.owner = .lock (.entry e.id) → f.age = age) →
    ∃ t, exec (.answerEnd line) s = .next t ∧ t.link.state = .idle ∧ OwnTimersRestart s t ∧
      (∀ x ∈ s.lock.entries, x.RetriesClaim e.resource → t.entry x.id = some x) ∧
      (match decodeAnswer .grant line.field with
        | .none =>
          (o + 1 = j → t.entry e.id = none ∧ (s.lock.wants = [] → t.queue = s.QueueWithout age)) ∧
          (o + 1 ≠ j → (∀ x ∈ s.lock.entries, ∀ c sl ep d pr,
              x.state ≠ .waiting c sl (o + 1) s.own ep d pr) →
            t.lock.entries = s.EntriesWith e.id (.handing o j (o + 1) none) ∧
            (.entry e.id ∈ t.lock.wants ∨
              ∃ f ∈ t.queue.frames, f.kind = .grant ∧ f.owner = .lock (.entry e.id) ∧ f.attempts = 0) ∧
            (∀ w rest k, s.lock.wants = w :: rest → .entry e.id ∉ s.lock.wants → s.SixLockFrames age →
              s.WantsKind w k →
              t.lock.wants = rest ++ [.entry e.id] ∧ t.queue = s.QueueAdmits age w k)) ∧
          (o + 1 ≠ j → ∀ l₁ x l₂ c sl ep d pr, s.lock.entries = l₁ ++ x :: l₂ → x.resource = e.resource →
            x.state = .waiting c sl (o + 1) s.own ep d pr →
            (∀ y ∈ l₁, y.resource = e.resource → ∀ c sl ep d pr,
              y.state ≠ .waiting c sl (o + 1) s.own ep d pr) →
            t.entry e.id = none ∧
            t.entry x.id = some (⟨x.id, x.resource,
              .holding c 1 (o + 1) j (decide (j - (o + 1) - 1 ≠ 0)), x.held⟩ : LockEntry) ∧
            (t.slot sl).state = .done ∧ (t.slot sl).result.code = some .granted ∧
            (∀ y ∈ s.lock.entries, y.resource = e.resource → y ≠ e → y ≠ x → t.entry y.id = some y))
        | .code .taken st val =>
          (s.OtherStation st → val.toNat ≤ 7 →
            t.entry e.id = none ∧
            (∀ x c sl k ep d pr, x ∈ s.lock.entries → x.resource = e.resource →
              x.state = .waiting c sl k s.own ep d pr →
              t.entry x.id = some { x with
                state := .waiting c sl k st (some (s.record st).epoch) d
                  (if (k - o).toNat < (i - o).toNat
                    then some (s.config.probeInterval.toNat * 10000) else none) } ∧
              (s.PendingSlotsAreNamed → (t.slot sl).result.station = some st) ∧
              ((i - o).toNat ≤ (k - o).toNat → .entry x.id ∈ t.lock.wants ∨
                ∃ f ∈ t.queue.frames, f.owner = .lock (.entry x.id)))) ∧
          (¬ (s.OtherStation st ∧ val.toNat ≤ 7) → GivenUp s t e)
        | _ => GivenUp s t e)

/-- R49: the outcomes of a QUERY at its answer end. R101, R102: the own timers restart in MEMBER. R15, R135: the
oldest want takes the freed place with the next age and leaves the list, the others staying. -/
def Obligations.QueryOutcomes : Prop :=
  ∀ (s : Machine.State) (age : Nat) (q : PendingQuery) (f : FrameRecord) (line : AnswerLine),
    s.link.state = .sendingAnswer ⟨age, .query q.resource⟩ → s.frameAt age = some f →
    f.kind = .query → f.owner = .lock (.query q.id) → s.query q.id = some q →
    ∃ t, exec (.answerEnd line) s = .next t ∧ t.lock.entries = s.lock.entries ∧ OwnTimersRestart s t ∧
      (.query q.id ∉ s.lock.wants → (∀ g ∈ s.queue.frames, g.owner = .lock (.query q.id) → g.age = age) →
        (s.lock.wants = [] → t.lock.wants = [] ∧ t.queue = s.QueueWithout age) ∧
        (∀ o rest k, s.lock.wants = o :: rest → s.SixLockFrames age → s.WantsKind o k →
          t.lock.wants = rest ∧ t.queue = s.QueueAdmits age o k)) ∧
      (∀ p ∈ t.lock.queries, p.id ≠ q.id) ∧ (t.slot q.slot).state = .done ∧
      (match decodeAnswer .query line.field with
        | .none => (t.slot q.slot).result = ⟨some .unowned, none, none, none, none⟩
        | .code .holder st v =>
          ((s.OtherStation st ∧ (v.toNat / 256 ≤ 7 ∨ v.toNat / 256 = 255) ∧
              v.toNat % 256 ≤ s.spanLimit) →
            (t.slot q.slot).result = ⟨some .answered, none, some st,
              some (BitVec.ofNat 8 (v.toNat / 256)), some (BitVec.ofNat 8 (v.toNat % 256))⟩) ∧
          (¬ (s.OtherStation st ∧ (v.toNat / 256 ≤ 7 ∨ v.toNat / 256 = 255) ∧
              v.toNat % 256 ≤ s.spanLimit) →
            (t.slot q.slot).result = ⟨some .damaged, none, none, none, none⟩)
        | _ => (t.slot q.slot).result = ⟨some .damaged, none, none, none, none⟩)

/-- R4, R68: whether a waiter keeps its ticket under holder entry h, which took a GRANT of x: it waits on x under
x's current epoch, and its ticket is in queue at h. That a stale waiter does not is the model's reading (log 10). -/
def Sys2Proof.Machine.State.KeepsItsTicket (s : Machine.State) (x : StationNo) (h e : LockEntry) : Bool :=
  match e.state with
  | .waiting _ _ k y ep _ _ =>
    decide (y = x ∧ ep = some (s.record x).epoch ∧ 1 ≤ (k - h.serve).toNat ∧
      (k - h.serve).toNat < (h.issue - h.serve).toNat)
  | _ => false

/-- R79, R80, R93: a remote waiter on the sender of a heard GRANT, at its answer end, where no entry of
this station took it: with a current epoch it follows a valid TAKEN, and probes at once on a damaged answer
or an invalid TAKEN; on NONE, and with a stale epoch, it stays; where it follows, its slot's station field shows
the taker (R152). R4, R68, R77: where an entry of this station took
it, whatever the answer reads (log 29), a live waiter on the sender whose ticket is in queue at the holder entry
keeps its ticket and becomes local, with no want or frame left; the others are placed under the holder entry,
pending QUERYs are answered; and with no holder entry left an entry alone is evaluated again (log 29). R93, R98:
the sender is marked present, PEER_UP entering first where it was not, and a DEPART of it, pending or queued, is
withdrawn. -/
def Obligations.WaitersFollowAHeardGrant : Prop :=
  ∀ (s : Machine.State) (f : HeardFrame) (r : Resource) (o i : Ticket) (line : AnswerLine),
    s.link.state = .listeningAnswer f → f.content = .grant r o i →
    f.sender ≠ 0 → f.sender ≠ s.own → s.UniqueIds →
    ∃ t, exec (.answerEnd line) s = .next t ∧ t.link.state = .idle ∧
      t.record f.sender = s.RecordMarked f.sender ∧
      (f.committed = none → t.notices = (s.TellMarked f.sender).notices) ∧
      (s.TellMarked f.sender).notices.records <+: t.notices.records ∧
      (∀ p ∈ t.member.departs, p.1 ≠ f.sender) ∧
      ((∀ g ∈ s.queue.frames, ∀ g' ∈ s.queue.frames, g.departNamed = some f.sender →
          g'.departNamed = some f.sender → g.age = g'.age) →
        ∀ g ∈ t.queue.frames, g.departNamed ≠ some f.sender) ∧
      (f.committed ≠ none → s.PendingSlotsAreNamed →
        (∀ h, s.holderOf r = some h → PlacedUnder s t h (s.KeepsItsTicket f.sender h) ∧
          ∀ x c sl k ep d pr, x ∈ s.lock.entries → x.resource = r → x.state = .waiting c sl k f.sender ep d pr →
            s.KeepsItsTicket f.sender h x = true →
            t.entry x.id = some { x with state := .waiting c sl k s.own none d none } ∧
            (t.slot sl).result.station = some s.own ∧ .entry x.id ∉ t.lock.wants ∧
            ((∀ g ∈ s.queue.frames, ∀ g' ∈ s.queue.frames, g.owner = .lock (.entry x.id) →
                g'.owner = .lock (.entry x.id) → g.age = g'.age) → s.lock.wants = [] →
              ∀ g ∈ t.queue.frames, g.owner ≠ .lock (.entry x.id))) ∧
        (∀ x k sl p d, s.holderOf r = none → x ∈ s.lock.entries → x.resource = r →
          x.Moved s.own = some (k, sl, p, d) → (∀ y ∈ s.lock.entries, y.resource = r → y = x) →
          EvaluatedAgain s t x k sl p d)) ∧
      (f.committed = none → ∀ x c sl k ep d pr, x ∈ s.lock.entries → x.resource = r →
        x.state = .waiting c sl k f.sender ep d pr →
        (ep ≠ some (s.record f.sender).epoch → x ∈ t.lock.entries) ∧
        (ep = some (s.record f.sender).epoch →
          match decodeAnswer .grant (f.answer.getD (BitVec.allOnes 28) &&& line.field) with
          | .none => x ∈ t.lock.entries
          | .code .taken st v =>
            (s.OtherStation st → v.toNat ≤ 7 → t.entry x.id = some { x with
              state := .waiting c sl k st (some (s.record st).epoch) d pr } ∧
              (s.PendingSlotsAreNamed → (t.slot sl).result.station = some st)) ∧
            (¬ (s.OtherStation st ∧ v.toNat ≤ 7) →
              t.entry x.id = some { x with state := .waiting c sl k f.sender ep d none } ∧
              (.entry x.id ∈ t.lock.wants ∨
                ∃ g ∈ t.queue.frames, g.owner = .lock (.entry x.id)))
          | _ => t.entry x.id = some { x with state := .waiting c sl k f.sender ep d none } ∧
              (.entry x.id ∈ t.lock.wants ∨
                ∃ g ∈ t.queue.frames, g.owner = .lock (.entry x.id))))

/-- R103, R119, R124: a truncated frame is dropped with none of its effects, before the answer field and in it,
where what an answer start did stands (R79, log 8); a loss of synchronization, at a listener that has decided
its veto too, sends the transceiver to SEEKING and fences a MEMBER, and no other: its JOIN is not queued then
(R104, R139). That in the own lead it is no failed attempt, for want of a frame, is the model's choice (log 12,
log 13). R118, R139: a sender in ARBITRATING or SENDING meets either as a collision and then, where that has
left it a listener, as one (for a truncation the model's reading, log 13); a fresh CLAIM abandoned by it
completes LINK_FAIL before the fence. -/
def Obligations.TruncationDropsAndLossOfSynchronizationFences : Prop :=
  ∀ s : Machine.State,
    (∀ o, (s.link.state = .arbitrating o ∨ s.link.state = .sending o) →
      ∃ u, exec .collision s = .next u ∧
        (u.link.state = .listening → exec .truncation s = exec .truncation u ∧
          exec .lossOfSynchronization s = exec .lossOfSynchronization u) ∧
        (u.link.state ≠ .listening → exec .truncation s = .next u ∧ exec .lossOfSynchronization s = .next u) ∧
        (∀ f id e c sl p d rt, s.frameAt o.age = some f → f.withdrawn = false → 7 ≤ f.attempts →
          f.kind = .claim → f.owner = .lock (.entry id) → s.entry id = some e →
          e.state = .claiming c sl p d rt → s.PendingSlotsAreNamed → s.member.station = .member →
          ∃ t, exec .lossOfSynchronization s = .next t ∧ t.member.station = .joining ∧
            t.link = ⟨.seeking, 0, 0, .recessive⟩ ∧ (t.slot sl).state = .done ∧
            (t.slot sl).result = ⟨some .linkFail, none, none, none, none⟩ ∧
            ∀ g ∈ t.queue.frames, g.kind.isLock = false)) ∧
    ((s.link.state = .listening ∨ ∃ v, s.link.state = .vetoSlot v) →
      exec .truncation s = .next { s with link := ⟨.idle, 2 * s.T, 0, .recessive⟩ }) ∧
    (∀ f, s.link.state = .listeningAnswer f →
      exec .truncation s = .next { s with link := ⟨.idle, 2 * s.T, 0, .recessive⟩ }) ∧
    ((s.link.state = .idle ∨ s.link.state = .listening ∨ s.link.state = .leading ∨
        ∃ v, s.link.state = .vetoSlot v) →
      (s.member.station ≠ .member →
        exec .lossOfSynchronization s = .next { s with link := ⟨.seeking, 0, 0, .recessive⟩ }) ∧
      (s.member.station = .member →
        ∃ t, exec .lossOfSynchronization s = .next t ∧ t.member.station = .joining ∧
          t.link = ⟨.seeking, 0, 0, .recessive⟩ ∧ ConvertsTo s t .fenced ∧
          t.member.beaconTimer = none ∧ t.member.fenceTimer = none ∧ t.member.departs = [] ∧
          t.member.ownTag = s.member.ownTag.map TagAfterFence ∧
          (s.own ≠ 0 → (t.record s.own).state = .absent ∧ (t.record s.own).tag = none ∧
            (t.record s.own).epoch = (s.record s.own).epoch + 1) ∧
          OthersKept s t ∧ t.queue = ⟨s.FramesAfterFence, s.queue.nextAge⟩ ∧
          t.notices = s.NoticesOfFence s .sync))

/-- R120, R121: an answer that is sent decodes to what it says for the kinds its code is allowed for, and
is DAMAGED for the others; a silent field decodes to NONE; a field with a wrong check is DAMAGED. -/
def Obligations.AnswersDecodeToWhatIsSent : Prop :=
  (∀ (k : FrameKind) (c : AnswerCode) (st : StationNo) (v : BitVec 16),
    (c.allowed k = true → decodeAnswer k (answerBits c st v) = .code c st v) ∧
    (c.allowed k = false → decodeAnswer k (answerBits c st v) = .damaged)) ∧
  (∀ k, decodeAnswer k (BitVec.allOnes 28) = .none) ∧
  (∀ k (x : BitVec 28), x.extractLsb' 0 4 ≠ answerCheck (x.extractLsb' 4 24) →
    decodeAnswer k x = .damaged)

/-! ### What every step keeps -/

/-- R1, R14, R127, R128, R159, R163, R169, R171, R189: every step keeps the capacities, with the 8 frames and
the 56 wants where the queue and the want list fit their owners; the agreement of the accepted record, its
digest and the station state; and the pop read's record at the head of the queue. -/
def Obligations.StepKeepsCapacitiesRecordAndPop : Prop :=
  ∀ s t : Machine.State, step s = .next t →
    (s.WithinCapacities → t.WithinCapacities) ∧ (s.RecordAgrees → t.RecordAgrees) ∧
    (s.PopHoldsTheHead → t.PopHoldsTheHead) ∧
    (s.WithinCapacities → s.PendingSlotsAreNamed → s.QueuesFit →
      t.QueuesFit ∧ t.queue.frames.length ≤ 8 ∧ t.lock.wants.length ≤ 56)

/-- R3, R9, R13, R18, R46: every step keeps one owner per resource, distinct places in taking order, every holder
entry's span within the span limit, with these each context's counted entries within its hold limit, and outside
MEMBER a lock engine of LOST entries alone. -/
def Obligations.StepKeepsOneOwnerAndSpans : Prop :=
  ∀ s t : Machine.State, step s = .next t →
    (s.OneOwnerPerResource → t.OneOwnerPerResource) ∧ (s.SpansWithinLimit → t.SpansWithinLimit) ∧
    (s.OneOwnerPerResource → s.SpansWithinLimit → s.WithinHoldLimits → t.WithinHoldLimits) ∧
    (s.LostOutsideMember → t.LostOutsideMember)

/-- R12, R13, R14, R141: every step keeps the PENDING slots exactly those that one lock entry in DEFERRED,
CLAIMING or WAITING or one pending QUERY names. -/
def Obligations.StepKeepsPendingSlotsNamed : Prop :=
  ∀ s t : Machine.State, step s = .next t → s.PendingSlotsAreNamed → t.PendingSlotsAreNamed

/-- R16, R138, R142, R159, R167: the properties that every step keeps hold after reset. -/
def Obligations.ResetHasWhatEveryStepKeeps : Prop :=
  State.reset.WithinCapacities ∧ State.reset.RecordAgrees ∧ State.reset.PopHoldsTheHead ∧
    State.reset.OneOwnerPerResource ∧ State.reset.SpansWithinLimit ∧ State.reset.WithinHoldLimits ∧
    State.reset.LostOutsideMember ∧
    State.reset.PendingSlotsAreNamed ∧ State.reset.QueuesFit ∧ State.reset.AtRestartValues
end

