-- ==== Sys2Proof/Laws/State.lean ====
section
/-! SUPPORT. One lemma per field per block update: a block update sets its block and leaves the others. -/

namespace Sys2Proof.Machine

open Sys2Proof

/-! ### withConfig -/

@[simp] theorem State.withConfig_config (s : State) (x : ConfigRecord) : (s.withConfig x).config = x := rfl
@[simp] theorem State.withConfig_lock (s : State) (x : ConfigRecord) : (s.withConfig x).lock = s.lock := rfl
@[simp] theorem State.withConfig_member (s : State) (x : ConfigRecord) : (s.withConfig x).member = s.member := rfl
@[simp] theorem State.withConfig_link (s : State) (x : ConfigRecord) : (s.withConfig x).link = s.link := rfl
@[simp] theorem State.withConfig_queue (s : State) (x : ConfigRecord) : (s.withConfig x).queue = s.queue := rfl
@[simp] theorem State.withConfig_ring (s : State) (x : ConfigRecord) : (s.withConfig x).ring = s.ring := rfl
@[simp] theorem State.withConfig_notices (s : State) (x : ConfigRecord) : (s.withConfig x).notices = s.notices := rfl
@[simp] theorem State.withConfig_port (s : State) (x : ConfigRecord) : (s.withConfig x).port = s.port := rfl
@[simp] theorem State.withConfig_elapsed (s : State) (x : ConfigRecord) : (s.withConfig x).elapsed = s.elapsed := rfl
@[simp] theorem State.withConfig_resetHeld (s : State) (x : ConfigRecord) : (s.withConfig x).resetHeld = s.resetHeld := rfl
@[simp] theorem State.withConfig_freeCount (s : State) (x : ConfigRecord) : (s.withConfig x).freeCount = s.freeCount := rfl
@[simp] theorem State.withConfig_pending (s : State) (x : ConfigRecord) : (s.withConfig x).pending = s.pending := rfl

/-! ### withLock -/

@[simp] theorem State.withLock_config (s : State) (x : LockEngine) : (s.withLock x).config = s.config := rfl
@[simp] theorem State.withLock_lock (s : State) (x : LockEngine) : (s.withLock x).lock = x := rfl
@[simp] theorem State.withLock_member (s : State) (x : LockEngine) : (s.withLock x).member = s.member := rfl
@[simp] theorem State.withLock_link (s : State) (x : LockEngine) : (s.withLock x).link = s.link := rfl
@[simp] theorem State.withLock_queue (s : State) (x : LockEngine) : (s.withLock x).queue = s.queue := rfl
@[simp] theorem State.withLock_ring (s : State) (x : LockEngine) : (s.withLock x).ring = s.ring := rfl
@[simp] theorem State.withLock_notices (s : State) (x : LockEngine) : (s.withLock x).notices = s.notices := rfl
@[simp] theorem State.withLock_port (s : State) (x : LockEngine) : (s.withLock x).port = s.port := rfl
@[simp] theorem State.withLock_elapsed (s : State) (x : LockEngine) : (s.withLock x).elapsed = s.elapsed := rfl
@[simp] theorem State.withLock_resetHeld (s : State) (x : LockEngine) : (s.withLock x).resetHeld = s.resetHeld := rfl
@[simp] theorem State.withLock_freeCount (s : State) (x : LockEngine) : (s.withLock x).freeCount = s.freeCount := rfl
@[simp] theorem State.withLock_pending (s : State) (x : LockEngine) : (s.withLock x).pending = s.pending := rfl

/-! ### withMember -/

@[simp] theorem State.withMember_config (s : State) (x : MembershipUnit) : (s.withMember x).config = s.config := rfl
@[simp] theorem State.withMember_lock (s : State) (x : MembershipUnit) : (s.withMember x).lock = s.lock := rfl
@[simp] theorem State.withMember_member (s : State) (x : MembershipUnit) : (s.withMember x).member = x := rfl
@[simp] theorem State.withMember_link (s : State) (x : MembershipUnit) : (s.withMember x).link = s.link := rfl
@[simp] theorem State.withMember_queue (s : State) (x : MembershipUnit) : (s.withMember x).queue = s.queue := rfl
@[simp] theorem State.withMember_ring (s : State) (x : MembershipUnit) : (s.withMember x).ring = s.ring := rfl
@[simp] theorem State.withMember_notices (s : State) (x : MembershipUnit) : (s.withMember x).notices = s.notices := rfl
@[simp] theorem State.withMember_port (s : State) (x : MembershipUnit) : (s.withMember x).port = s.port := rfl
@[simp] theorem State.withMember_elapsed (s : State) (x : MembershipUnit) : (s.withMember x).elapsed = s.elapsed := rfl
@[simp] theorem State.withMember_resetHeld (s : State) (x : MembershipUnit) : (s.withMember x).resetHeld = s.resetHeld := rfl
@[simp] theorem State.withMember_freeCount (s : State) (x : MembershipUnit) : (s.withMember x).freeCount = s.freeCount := rfl
@[simp] theorem State.withMember_pending (s : State) (x : MembershipUnit) : (s.withMember x).pending = s.pending := rfl

/-! ### withLink -/

@[simp] theorem State.withLink_config (s : State) (x : Transceiver) : (s.withLink x).config = s.config := rfl
@[simp] theorem State.withLink_lock (s : State) (x : Transceiver) : (s.withLink x).lock = s.lock := rfl
@[simp] theorem State.withLink_member (s : State) (x : Transceiver) : (s.withLink x).member = s.member := rfl
@[simp] theorem State.withLink_link (s : State) (x : Transceiver) : (s.withLink x).link = x := rfl
@[simp] theorem State.withLink_queue (s : State) (x : Transceiver) : (s.withLink x).queue = s.queue := rfl
@[simp] theorem State.withLink_ring (s : State) (x : Transceiver) : (s.withLink x).ring = s.ring := rfl
@[simp] theorem State.withLink_notices (s : State) (x : Transceiver) : (s.withLink x).notices = s.notices := rfl
@[simp] theorem State.withLink_port (s : State) (x : Transceiver) : (s.withLink x).port = s.port := rfl
@[simp] theorem State.withLink_elapsed (s : State) (x : Transceiver) : (s.withLink x).elapsed = s.elapsed := rfl
@[simp] theorem State.withLink_resetHeld (s : State) (x : Transceiver) : (s.withLink x).resetHeld = s.resetHeld := rfl
@[simp] theorem State.withLink_freeCount (s : State) (x : Transceiver) : (s.withLink x).freeCount = s.freeCount := rfl
@[simp] theorem State.withLink_pending (s : State) (x : Transceiver) : (s.withLink x).pending = s.pending := rfl

/-! ### withQueue -/

@[simp] theorem State.withQueue_config (s : State) (x : OutboundQueue) : (s.withQueue x).config = s.config := rfl
@[simp] theorem State.withQueue_lock (s : State) (x : OutboundQueue) : (s.withQueue x).lock = s.lock := rfl
@[simp] theorem State.withQueue_member (s : State) (x : OutboundQueue) : (s.withQueue x).member = s.member := rfl
@[simp] theorem State.withQueue_link (s : State) (x : OutboundQueue) : (s.withQueue x).link = s.link := rfl
@[simp] theorem State.withQueue_queue (s : State) (x : OutboundQueue) : (s.withQueue x).queue = x := rfl
@[simp] theorem State.withQueue_ring (s : State) (x : OutboundQueue) : (s.withQueue x).ring = s.ring := rfl
@[simp] theorem State.withQueue_notices (s : State) (x : OutboundQueue) : (s.withQueue x).notices = s.notices := rfl
@[simp] theorem State.withQueue_port (s : State) (x : OutboundQueue) : (s.withQueue x).port = s.port := rfl
@[simp] theorem State.withQueue_elapsed (s : State) (x : OutboundQueue) : (s.withQueue x).elapsed = s.elapsed := rfl
@[simp] theorem State.withQueue_resetHeld (s : State) (x : OutboundQueue) : (s.withQueue x).resetHeld = s.resetHeld := rfl
@[simp] theorem State.withQueue_freeCount (s : State) (x : OutboundQueue) : (s.withQueue x).freeCount = s.freeCount := rfl
@[simp] theorem State.withQueue_pending (s : State) (x : OutboundQueue) : (s.withQueue x).pending = s.pending := rfl

/-! ### withRing -/

@[simp] theorem State.withRing_config (s : State) (x : Ring) : (s.withRing x).config = s.config := rfl
@[simp] theorem State.withRing_lock (s : State) (x : Ring) : (s.withRing x).lock = s.lock := rfl
@[simp] theorem State.withRing_member (s : State) (x : Ring) : (s.withRing x).member = s.member := rfl
@[simp] theorem State.withRing_link (s : State) (x : Ring) : (s.withRing x).link = s.link := rfl
@[simp] theorem State.withRing_queue (s : State) (x : Ring) : (s.withRing x).queue = s.queue := rfl
@[simp] theorem State.withRing_ring (s : State) (x : Ring) : (s.withRing x).ring = x := rfl
@[simp] theorem State.withRing_notices (s : State) (x : Ring) : (s.withRing x).notices = s.notices := rfl
@[simp] theorem State.withRing_port (s : State) (x : Ring) : (s.withRing x).port = s.port := rfl
@[simp] theorem State.withRing_elapsed (s : State) (x : Ring) : (s.withRing x).elapsed = s.elapsed := rfl
@[simp] theorem State.withRing_resetHeld (s : State) (x : Ring) : (s.withRing x).resetHeld = s.resetHeld := rfl
@[simp] theorem State.withRing_freeCount (s : State) (x : Ring) : (s.withRing x).freeCount = s.freeCount := rfl
@[simp] theorem State.withRing_pending (s : State) (x : Ring) : (s.withRing x).pending = s.pending := rfl

/-! ### withNotices -/

@[simp] theorem State.withNotices_config (s : State) (x : NoticeQueue) : (s.withNotices x).config = s.config := rfl
@[simp] theorem State.withNotices_lock (s : State) (x : NoticeQueue) : (s.withNotices x).lock = s.lock := rfl
@[simp] theorem State.withNotices_member (s : State) (x : NoticeQueue) : (s.withNotices x).member = s.member := rfl
@[simp] theorem State.withNotices_link (s : State) (x : NoticeQueue) : (s.withNotices x).link = s.link := rfl
@[simp] theorem State.withNotices_queue (s : State) (x : NoticeQueue) : (s.withNotices x).queue = s.queue := rfl
@[simp] theorem State.withNotices_ring (s : State) (x : NoticeQueue) : (s.withNotices x).ring = s.ring := rfl
@[simp] theorem State.withNotices_notices (s : State) (x : NoticeQueue) : (s.withNotices x).notices = x := rfl
@[simp] theorem State.withNotices_port (s : State) (x : NoticeQueue) : (s.withNotices x).port = s.port := rfl
@[simp] theorem State.withNotices_elapsed (s : State) (x : NoticeQueue) : (s.withNotices x).elapsed = s.elapsed := rfl
@[simp] theorem State.withNotices_resetHeld (s : State) (x : NoticeQueue) : (s.withNotices x).resetHeld = s.resetHeld := rfl
@[simp] theorem State.withNotices_freeCount (s : State) (x : NoticeQueue) : (s.withNotices x).freeCount = s.freeCount := rfl
@[simp] theorem State.withNotices_pending (s : State) (x : NoticeQueue) : (s.withNotices x).pending = s.pending := rfl

/-! ### withPort -/

@[simp] theorem State.withPort_config (s : State) (x : HostPort) : (s.withPort x).config = s.config := rfl
@[simp] theorem State.withPort_lock (s : State) (x : HostPort) : (s.withPort x).lock = s.lock := rfl
@[simp] theorem State.withPort_member (s : State) (x : HostPort) : (s.withPort x).member = s.member := rfl
@[simp] theorem State.withPort_link (s : State) (x : HostPort) : (s.withPort x).link = s.link := rfl
@[simp] theorem State.withPort_queue (s : State) (x : HostPort) : (s.withPort x).queue = s.queue := rfl
@[simp] theorem State.withPort_ring (s : State) (x : HostPort) : (s.withPort x).ring = s.ring := rfl
@[simp] theorem State.withPort_notices (s : State) (x : HostPort) : (s.withPort x).notices = s.notices := rfl
@[simp] theorem State.withPort_port (s : State) (x : HostPort) : (s.withPort x).port = x := rfl
@[simp] theorem State.withPort_elapsed (s : State) (x : HostPort) : (s.withPort x).elapsed = s.elapsed := rfl
@[simp] theorem State.withPort_resetHeld (s : State) (x : HostPort) : (s.withPort x).resetHeld = s.resetHeld := rfl
@[simp] theorem State.withPort_freeCount (s : State) (x : HostPort) : (s.withPort x).freeCount = s.freeCount := rfl
@[simp] theorem State.withPort_pending (s : State) (x : HostPort) : (s.withPort x).pending = s.pending := rfl

/-! ### withElapsed -/

@[simp] theorem State.withElapsed_config (s : State) (x : Nat) : (s.withElapsed x).config = s.config := rfl
@[simp] theorem State.withElapsed_lock (s : State) (x : Nat) : (s.withElapsed x).lock = s.lock := rfl
@[simp] theorem State.withElapsed_member (s : State) (x : Nat) : (s.withElapsed x).member = s.member := rfl
@[simp] theorem State.withElapsed_link (s : State) (x : Nat) : (s.withElapsed x).link = s.link := rfl
@[simp] theorem State.withElapsed_queue (s : State) (x : Nat) : (s.withElapsed x).queue = s.queue := rfl
@[simp] theorem State.withElapsed_ring (s : State) (x : Nat) : (s.withElapsed x).ring = s.ring := rfl
@[simp] theorem State.withElapsed_notices (s : State) (x : Nat) : (s.withElapsed x).notices = s.notices := rfl
@[simp] theorem State.withElapsed_port (s : State) (x : Nat) : (s.withElapsed x).port = s.port := rfl
@[simp] theorem State.withElapsed_elapsed (s : State) (x : Nat) : (s.withElapsed x).elapsed = x := rfl
@[simp] theorem State.withElapsed_resetHeld (s : State) (x : Nat) : (s.withElapsed x).resetHeld = s.resetHeld := rfl
@[simp] theorem State.withElapsed_freeCount (s : State) (x : Nat) : (s.withElapsed x).freeCount = s.freeCount := rfl
@[simp] theorem State.withElapsed_pending (s : State) (x : Nat) : (s.withElapsed x).pending = s.pending := rfl

/-! ### withResetHeld -/

@[simp] theorem State.withResetHeld_config (s : State) (x : Bool) : (s.withResetHeld x).config = s.config := rfl
@[simp] theorem State.withResetHeld_lock (s : State) (x : Bool) : (s.withResetHeld x).lock = s.lock := rfl
@[simp] theorem State.withResetHeld_member (s : State) (x : Bool) : (s.withResetHeld x).member = s.member := rfl
@[simp] theorem State.withResetHeld_link (s : State) (x : Bool) : (s.withResetHeld x).link = s.link := rfl
@[simp] theorem State.withResetHeld_queue (s : State) (x : Bool) : (s.withResetHeld x).queue = s.queue := rfl
@[simp] theorem State.withResetHeld_ring (s : State) (x : Bool) : (s.withResetHeld x).ring = s.ring := rfl
@[simp] theorem State.withResetHeld_notices (s : State) (x : Bool) : (s.withResetHeld x).notices = s.notices := rfl
@[simp] theorem State.withResetHeld_port (s : State) (x : Bool) : (s.withResetHeld x).port = s.port := rfl
@[simp] theorem State.withResetHeld_elapsed (s : State) (x : Bool) : (s.withResetHeld x).elapsed = s.elapsed := rfl
@[simp] theorem State.withResetHeld_resetHeld (s : State) (x : Bool) : (s.withResetHeld x).resetHeld = x := rfl
@[simp] theorem State.withResetHeld_freeCount (s : State) (x : Bool) : (s.withResetHeld x).freeCount = s.freeCount := rfl
@[simp] theorem State.withResetHeld_pending (s : State) (x : Bool) : (s.withResetHeld x).pending = s.pending := rfl

/-! ### withFreeCount -/

@[simp] theorem State.withFreeCount_config (s : State) (x : Nat) : (s.withFreeCount x).config = s.config := rfl
@[simp] theorem State.withFreeCount_lock (s : State) (x : Nat) : (s.withFreeCount x).lock = s.lock := rfl
@[simp] theorem State.withFreeCount_member (s : State) (x : Nat) : (s.withFreeCount x).member = s.member := rfl
@[simp] theorem State.withFreeCount_link (s : State) (x : Nat) : (s.withFreeCount x).link = s.link := rfl
@[simp] theorem State.withFreeCount_queue (s : State) (x : Nat) : (s.withFreeCount x).queue = s.queue := rfl
@[simp] theorem State.withFreeCount_ring (s : State) (x : Nat) : (s.withFreeCount x).ring = s.ring := rfl
@[simp] theorem State.withFreeCount_notices (s : State) (x : Nat) : (s.withFreeCount x).notices = s.notices := rfl
@[simp] theorem State.withFreeCount_port (s : State) (x : Nat) : (s.withFreeCount x).port = s.port := rfl
@[simp] theorem State.withFreeCount_elapsed (s : State) (x : Nat) : (s.withFreeCount x).elapsed = s.elapsed := rfl
@[simp] theorem State.withFreeCount_resetHeld (s : State) (x : Nat) : (s.withFreeCount x).resetHeld = s.resetHeld := rfl
@[simp] theorem State.withFreeCount_freeCount (s : State) (x : Nat) : (s.withFreeCount x).freeCount = x := rfl
@[simp] theorem State.withFreeCount_pending (s : State) (x : Nat) : (s.withFreeCount x).pending = s.pending := rfl

/-! ### withPending -/

@[simp] theorem State.withPending_config (s : State) (x : List Instr) : (s.withPending x).config = s.config := rfl
@[simp] theorem State.withPending_lock (s : State) (x : List Instr) : (s.withPending x).lock = s.lock := rfl
@[simp] theorem State.withPending_member (s : State) (x : List Instr) : (s.withPending x).member = s.member := rfl
@[simp] theorem State.withPending_link (s : State) (x : List Instr) : (s.withPending x).link = s.link := rfl
@[simp] theorem State.withPending_queue (s : State) (x : List Instr) : (s.withPending x).queue = s.queue := rfl
@[simp] theorem State.withPending_ring (s : State) (x : List Instr) : (s.withPending x).ring = s.ring := rfl
@[simp] theorem State.withPending_notices (s : State) (x : List Instr) : (s.withPending x).notices = s.notices := rfl
@[simp] theorem State.withPending_port (s : State) (x : List Instr) : (s.withPending x).port = s.port := rfl
@[simp] theorem State.withPending_elapsed (s : State) (x : List Instr) : (s.withPending x).elapsed = s.elapsed := rfl
@[simp] theorem State.withPending_resetHeld (s : State) (x : List Instr) : (s.withPending x).resetHeld = s.resetHeld := rfl
@[simp] theorem State.withPending_freeCount (s : State) (x : List Instr) : (s.withPending x).freeCount = s.freeCount := rfl
@[simp] theorem State.withPending_pending (s : State) (x : List Instr) : (s.withPending x).pending = x := rfl

end Sys2Proof.Machine
end

