-- ==== Sys2Proof/Laws/Frames.lean ====
section
/-! SUPPORT. What each shared operation cannot touch. `shell` is what no block's operation changes: the
configuration record, the host port, the clock, the reset line, the free-value counter, the queue of
commands, and what the host alone writes of the ring: END, the post lock and REFUSED_WRITE. `beyondLock` adds the member table and the transceiver, which the lock engine, the slots, the
notice queue and the outbound queue never change. -/

namespace Sys2Proof.Machine

open Sys2Proof

/-- What the host alone writes of the ring. -/
def Ring.hostSide (r : Ring) : SlotIx × Bool × Bool := (r.endIx, r.postLock, r.refusedWrite)

/-- The fields that `shell` holds. -/
abbrev Shell : Type :=
  ConfigRecord × HostPort × Nat × Bool × Nat × List Instr × (SlotIx × Bool × Bool)

def State.shell (s : State) : Shell :=
  (s.config, s.port, s.elapsed, s.resetHeld, s.freeCount, s.pending, s.ring.hostSide)

def State.beyondLock (s : State) : Shell × MembershipUnit × Transceiver := (s.shell, s.member, s.link)

theorem shell_of_beyondLock {s t : State} (h : t.beyondLock = s.beyondLock) : t.shell = s.shell :=
  congrArg Prod.fst h

theorem member_of_beyondLock {s t : State} (h : t.beyondLock = s.beyondLock) : t.member = s.member :=
  congrArg (fun p => p.2.1) h

theorem link_of_beyondLock {s t : State} (h : t.beyondLock = s.beyondLock) : t.link = s.link :=
  congrArg (fun p => p.2.2) h

theorem config_of_shell {s t : State} (h : t.shell = s.shell) : t.config = s.config :=
  congrArg Prod.fst h

theorem port_of_shell {s t : State} (h : t.shell = s.shell) : t.port = s.port :=
  congrArg (fun p => p.2.1) h

theorem elapsed_of_shell {s t : State} (h : t.shell = s.shell) : t.elapsed = s.elapsed :=
  congrArg (fun p => p.2.2.1) h

theorem resetHeld_of_shell {s t : State} (h : t.shell = s.shell) : t.resetHeld = s.resetHeld :=
  congrArg (fun p => p.2.2.2.1) h

theorem freeCount_of_shell {s t : State} (h : t.shell = s.shell) : t.freeCount = s.freeCount :=
  congrArg (fun p => p.2.2.2.2.1) h

theorem pending_of_shell {s t : State} (h : t.shell = s.shell) : t.pending = s.pending :=
  congrArg (fun p => p.2.2.2.2.2.1) h

theorem hostSide_of_shell {s t : State} (h : t.shell = s.shell) : t.ring.hostSide = s.ring.hostSide :=
  congrArg (fun p => p.2.2.2.2.2.2) h

theorem postLock_of_shell {s t : State} (h : t.shell = s.shell) : t.ring.postLock = s.ring.postLock :=
  congrArg (fun p => p.2.1) (hostSide_of_shell h)

theorem own_of_shell {s t : State} (h : t.shell = s.shell) : t.own = s.own := by
  simp [State.own, config_of_shell h]

/-- What every step of a fold keeps, the fold keeps. -/
theorem foldl_keeps {α β : Type} (p : State → β) (f : State → α → State)
    (h : ∀ s a, p (f s a) = p s) (l : List α) (s : State) : p (l.foldl f s) = p s := by
  induction l generalizing s with
  | nil => rfl
  | cons a l ih => rw [List.foldl_cons, ih, h]

/-! ### Block updates -/

section
variable (s : State)

@[simp] theorem withLock_beyondLock (x : LockEngine) : (s.withLock x).beyondLock = s.beyondLock := rfl
@[simp] theorem withQueue_beyondLock (x : OutboundQueue) : (s.withQueue x).beyondLock = s.beyondLock := rfl
@[simp] theorem withNotices_beyondLock (x : NoticeQueue) : (s.withNotices x).beyondLock = s.beyondLock := rfl
@[simp] theorem withEntries_beyondLock (x : List LockEntry) :
    (s.withEntries x).beyondLock = s.beyondLock := rfl
@[simp] theorem withQueries_beyondLock (x : List PendingQuery) :
    (s.withQueries x).beyondLock = s.beyondLock := rfl
@[simp] theorem withWants_beyondLock (x : List Owner) : (s.withWants x).beyondLock = s.beyondLock := rfl
@[simp] theorem withFrames_beyondLock (x : List FrameRecord) :
    (s.withFrames x).beyondLock = s.beyondLock := rfl

@[simp] theorem withLock_shell (x : LockEngine) : (s.withLock x).shell = s.shell := rfl
@[simp] theorem withQueue_shell (x : OutboundQueue) : (s.withQueue x).shell = s.shell := rfl
theorem withRing_shell {x : Ring} (h : x.hostSide = s.ring.hostSide) : (s.withRing x).shell = s.shell := by
  simp [State.shell, h]
@[simp] theorem withNotices_shell (x : NoticeQueue) : (s.withNotices x).shell = s.shell := rfl
@[simp] theorem withMember_shell (x : MembershipUnit) : (s.withMember x).shell = s.shell := rfl
@[simp] theorem withLink_shell (x : Transceiver) : (s.withLink x).shell = s.shell := rfl
@[simp] theorem withFrames_shell (x : List FrameRecord) : (s.withFrames x).shell = s.shell := rfl
@[simp] theorem withDeparts_shell (x : List (StationNo × Tag)) : (s.withDeparts x).shell = s.shell := rfl
@[simp] theorem setLink_shell (x : LinkState) : (s.setLink x).shell = s.shell := rfl
@[simp] theorem linkIdle_shell (a : LineAtEnd) : (s.linkIdle a).shell = s.shell := rfl
@[simp] theorem linkOff_shell : s.linkOff.shell = s.shell := rfl
@[simp] theorem linkSeeking_shell : s.linkSeeking.shell = s.shell := rfl
@[simp] theorem setStation_shell (x : StationState) : (s.setStation x).shell = s.shell := rfl
@[simp] theorem startOwnTimers_shell : s.startOwnTimers.shell = s.shell := rfl
@[simp] theorem stopOwnTimers_shell : s.stopOwnTimers.shell = s.shell := rfl
@[simp] theorem stopAllSilence_shell : s.stopAllSilence.shell = s.shell := rfl
@[simp] theorem restartAllSilence_shell : s.restartAllSilence.shell = s.shell := rfl

/-! ### Slots, notices, entries -/

@[simp] theorem enterNotice_beyondLock (b : NoticeBody) : (s.enterNotice b).beyondLock = s.beyondLock := by
  unfold State.enterNotice; split <;> rfl

@[simp] theorem setSlot_beyondLock (i : SlotIx) (sl : Slot) : (s.setSlot i sl).beyondLock = s.beyondLock := rfl

@[simp] theorem complete_beyondLock (i : SlotIx) (c : Code) (r : SlotResult) :
    (s.complete i c r).beyondLock = s.beyondLock := by
  unfold State.complete; dsimp only; split
  · exact (enterNotice_beyondLock _ _).trans rfl
  · rfl

@[simp] theorem completeBare_beyondLock (i : SlotIx) (c : Code) :
    (s.completeBare i c).beyondLock = s.beyondLock := complete_beyondLock s i c _

@[simp] theorem setSlotStation_beyondLock (i : SlotIx) (st : Option StationNo) :
    (s.setSlotStation i st).beyondLock = s.beyondLock := rfl

@[simp] theorem setEntry_beyondLock (id : Nat) (st : EntryState) :
    (s.setEntry id st).beyondLock = s.beyondLock := rfl

@[simp] theorem holdAction_beyondLock (id : Nat) (a : HeldAction) :
    (s.holdAction id a).beyondLock = s.beyondLock := rfl

@[simp] theorem clearHeld_beyondLock (id : Nat) : (s.clearHeld id).beyondLock = s.beyondLock := rfl

@[simp] theorem putEntry_beyondLock (c : Claimant) (st : EntryState) :
    (s.putEntry c st).beyondLock = s.beyondLock := by
  unfold State.putEntry; split <;> rfl

@[simp] theorem dropEntry_beyondLock (id : Nat) : (s.dropEntry id).beyondLock = s.beyondLock := rfl

@[simp] theorem dropQuery_beyondLock (id : Nat) : (s.dropQuery id).beyondLock = s.beyondLock := rfl

/-! ### Outbound queue and want list -/

@[simp] theorem placeFrame_beyondLock (k : FrameKind) (o : FrameOwner) (p : Option FrameContent) :
    (s.placeFrame k o p).beyondLock = s.beyondLock := rfl

@[simp] theorem placeLock_beyondLock (o : Owner) : (s.placeLock o).beyondLock = s.beyondLock := rfl

@[simp] theorem raiseWant_beyondLock (o : Owner) : (s.raiseWant o).beyondLock = s.beyondLock := by
  unfold State.raiseWant; split
  · rfl
  · split <;> rfl

@[simp] theorem admitWant_beyondLock : s.admitWant.beyondLock = s.beyondLock := by
  unfold State.admitWant; split
  · rfl
  · split <;> rfl

@[simp] theorem removeFrame_beyondLock (f : FrameRecord) : (s.removeFrame f).beyondLock = s.beyondLock := by
  unfold State.removeFrame; dsimp only; split <;> simp

@[simp] theorem updateFrame_beyondLock (n : Nat) (g : FrameRecord → FrameRecord) :
    (s.updateFrame n g).beyondLock = s.beyondLock := rfl

@[simp] theorem withdrawFrame_beyondLock (f : FrameRecord) :
    (s.withdrawFrame f).beyondLock = s.beyondLock := by
  unfold State.withdrawFrame; split <;> simp

@[simp] theorem withdrawOwner_beyondLock (o : Owner) : (s.withdrawOwner o).beyondLock = s.beyondLock := by
  unfold State.withdrawOwner; dsimp only; split <;> simp

@[simp] theorem freeEntry_beyondLock (id : Nat) : (s.freeEntry id).beyondLock = s.beyondLock := by
  simp [State.freeEntry]

@[simp] theorem freeQuery_beyondLock (id : Nat) : (s.freeQuery id).beyondLock = s.beyondLock := by
  simp [State.freeQuery]

/-! ### Lock engine -/

@[simp] theorem issueTicket_beyondLock (h : LockEntry) : (s.issueTicket h).beyondLock = s.beyondLock := by
  unfold State.issueTicket; split
  · dsimp only; split <;> simp
  · simp
  · rfl

@[simp] theorem enterHolding_beyondLock (e : LockEntry) (a b : Ticket) :
    (s.enterHolding e a b).beyondLock = s.beyondLock := by
  unfold State.enterHolding; split
  · rfl
  · dsimp only; split <;> simp

@[simp] theorem immediateProbe_beyondLock (e : LockEntry) :
    (s.immediateProbe e).beyondLock = s.beyondLock := by
  unfold State.immediateProbe; split <;> simp

@[simp] theorem wakeWaiters_beyondLock (x : StationNo) : (s.wakeWaiters x).beyondLock = s.beyondLock :=
  foldl_keeps _ _ (fun s e => immediateProbe_beyondLock s e) _ _

@[simp] theorem retryPending_beyondLock (c : Claimant) : (s.retryPending c).beyondLock = s.beyondLock := by
  simp [State.retryPending]

@[simp] theorem evaluate_beyondLock (c : Claimant) : (s.evaluate c).beyondLock = s.beyondLock := by
  unfold State.evaluate; split
  · split
    · simp
    · split <;> simp
  · split <;> simp

@[simp] theorem reevaluate_beyondLock (id : Nat) : (s.reevaluate id).beyondLock = s.beyondLock := by
  unfold State.reevaluate; split
  · rfl
  · split
    · rfl
    · split <;> simp

@[simp] theorem reevaluateDeferred_beyondLock (r : Resource) :
    (s.reevaluateDeferred r).beyondLock = s.beyondLock :=
  foldl_keeps _ _ (fun s _ => reevaluate_beyondLock s _) _ _

@[simp] theorem becomeLocal_beyondLock (e : LockEntry) : (s.becomeLocal e).beyondLock = s.beyondLock := by
  unfold State.becomeLocal; split <;> simp

@[simp] theorem placeOthers_beyondLock (r : Resource) (x : Option StationNo) :
    (s.placeOthers r x).beyondLock = s.beyondLock := by
  unfold State.placeOthers; dsimp only; split
  · exact foldl_keeps _ _ (fun s _ => reevaluate_beyondLock s _) _ _
  · exact (foldl_keeps _ _ (fun s _ => reevaluate_beyondLock s _) _ _).trans
      (foldl_keeps _ _ (fun s e => becomeLocal_beyondLock s e) _ _)

@[simp] theorem answerQueries_beyondLock (r : Resource) : (s.answerQueries r).beyondLock = s.beyondLock := by
  unfold State.answerQueries; split
  · rfl
  · exact foldl_keeps _ _ (fun s q => by simp) _ _

@[simp] theorem settleHolder_beyondLock (r : Resource) (x : Option StationNo) :
    (s.settleHolder r x).beyondLock = s.beyondLock := by
  simp [State.settleHolder]

@[simp] theorem handoff_beyondLock (h w : LockEntry) : (s.handoff h w).beyondLock = s.beyondLock := by
  unfold State.handoff; dsimp only; split <;> simp

@[simp] theorem releaseLock_beyondLock (h : LockEntry) : (s.releaseLock h).beyondLock = s.beyondLock := by
  unfold State.releaseLock; split
  · simp
  · split <;> simp

@[simp] theorem convertWaiter_beyondLock (x : StationNo) (a b : Ticket) (e : LockEntry) :
    (s.convertWaiter x a b e).beyondLock = s.beyondLock := by
  unfold State.convertWaiter; split
  · dsimp only; split <;> simp
  · rfl

@[simp] theorem grantTakenBy_beyondLock (e : LockEntry) (x : StationNo) (a b : Ticket) :
    (s.grantTakenBy e x a b).beyondLock = s.beyondLock :=
  (foldl_keeps _ _ (fun s w => convertWaiter_beyondLock s x a b w) _ _).trans (by simp)

@[simp] theorem chainStep_beyondLock (e : LockEntry) (a b : Ticket) :
    (s.chainStep e a b).beyondLock = s.beyondLock := by
  unfold State.chainStep; split
  · simp
  · dsimp only; split <;> simp

@[simp] theorem grantDamaged_beyondLock (e : LockEntry) : (s.grantDamaged e).beyondLock = s.beyondLock :=
  (foldl_keeps _ _ (fun s _ => reevaluate_beyondLock s _) _ _).trans (by simp)

@[simp] theorem grantEnded_beyondLock (id : Nat) (a b : Ticket) (x : Answer) :
    (s.grantEnded id a b x).beyondLock = s.beyondLock := by
  unfold State.grantEnded; split
  · rfl
  · split
    · split
      · simp
      · split <;> simp
      · simp
    · rfl

@[simp] theorem endWait_beyondLock (e : LockEntry) (c : Code) : (s.endWait e c).beyondLock = s.beyondLock := by
  unfold State.endWait; split
  · rfl
  · dsimp only; split <;> simp

@[simp] theorem applyHeld_beyondLock (id : Nat) : (s.applyHeld id).beyondLock = s.beyondLock := by
  unfold State.applyHeld; split
  · rfl
  · split
    · rfl
    · split <;> simp

@[simp] theorem applyHeldCancel_beyondLock (id : Nat) : (s.applyHeldCancel id).beyondLock = s.beyondLock := by
  unfold State.applyHeldCancel; split
  · rfl
  · split <;> simp

@[simp] theorem waitAt_beyondLock (c : Claimant) (t : Ticket) (x : StationNo) :
    (s.waitAt c t x).beyondLock = s.beyondLock := by
  simp [State.waitAt]

@[simp] theorem claimBusy_beyondLock (c : Claimant) (x : StationNo) :
    (s.claimBusy c x).beyondLock = s.beyondLock := by
  simp [State.claimBusy]

@[simp] theorem freshOutcome_beyondLock (e : LockEntry) (c : Claimant) (a : Answer) :
    (s.freshOutcome e c a).beyondLock = s.beyondLock := by
  unfold State.freshOutcome; split
  · simp
  · simp
  · split
    · split
      · split <;> simp
      · split <;> simp
      · split <;> simp
      · simp
    · simp

@[simp] theorem restartProbe_beyondLock (e : LockEntry) : (s.restartProbe e).beyondLock = s.beyondLock := by
  unfold State.restartProbe; split <;> simp

@[simp] theorem probeOutcome_beyondLock (e : LockEntry) (c : Claimant) (t : Ticket) (a : Answer) :
    (s.probeOutcome e c t a).beyondLock = s.beyondLock := by
  unfold State.probeOutcome; split
  · simp
  · split <;> simp
  · split <;> simp
  · simp

@[simp] theorem claimDiscarded_beyondLock (id : Nat) :
    (s.claimDiscarded id).beyondLock = s.beyondLock := by
  unfold State.claimDiscarded; split
  · rfl
  · split
    · dsimp only; split <;> simp
    · rfl

@[simp] theorem claimEnded_beyondLock (id : Nat) (p : Option Ticket) (a : Answer) :
    (s.claimEnded id p a).beyondLock = s.beyondLock := by
  unfold State.claimEnded; split
  · rfl
  · split
    · rfl
    · split
      · simp
      · split
        · dsimp only; split <;> simp
        · dsimp only; split <;> simp
        · rfl

@[simp] theorem queryEnded_beyondLock (id : Nat) (a : Answer) :
    (s.queryEnded id a).beyondLock = s.beyondLock := by
  unfold State.queryEnded; split
  · rfl
  · dsimp only; split
    · simp
    · split <;> simp
    · simp

@[simp] theorem entryAbandoned_beyondLock (id : Nat) : (s.entryAbandoned id).beyondLock = s.beyondLock := by
  unfold State.entryAbandoned; split
  · rfl
  · split <;> simp

@[simp] theorem queryAbandoned_beyondLock (id : Nat) : (s.queryAbandoned id).beyondLock = s.beyondLock := by
  unfold State.queryAbandoned; split <;> simp

@[simp] theorem acquire_beyondLock (c : Claimant) : (s.acquire c).beyondLock = s.beyondLock := by
  unfold State.acquire; split
  · simp
  · split
    · simp
    · split
      · split
        · split <;> simp
        · simp
        · simp
      · split
        · simp
        · split
          · simp
          · split <;> simp

@[simp] theorem release_beyondLock (i : SlotIx) (c : Context) (r : Resource) :
    (s.release i c r).beyondLock = s.beyondLock := by
  unfold State.release; split
  · simp
  · split
    · simp
    · split <;> simp
    · simp

@[simp] theorem queryRequest_beyondLock (id : Nat) (i : SlotIx) (r : Resource) :
    (s.queryRequest id i r).beyondLock = s.beyondLock := by
  unfold State.queryRequest; split
  · simp
  · split <;> simp

@[simp] theorem cancel_beyondLock (i j : SlotIx) : (s.cancel i j).beyondLock = s.beyondLock := by
  unfold State.cancel; split
  · dsimp only; split <;> simp
  · split
    · dsimp only; split <;> simp
    · simp

@[simp] theorem followTaker_beyondLock (x : StationNo) (e : LockEntry) :
    (s.followTaker x e).beyondLock = s.beyondLock := by
  unfold State.followTaker; split <;> simp

@[simp] theorem followGrant_beyondLock (x : StationNo) (r : Resource) (a : Answer) :
    (s.followGrant x r a).beyondLock = s.beyondLock := by
  unfold State.followGrant; dsimp only; split
  · rfl
  · split
    · exact foldl_keeps _ _ (fun s e => followTaker_beyondLock s _ e) _ _
    · exact foldl_keeps _ _ (fun s e => immediateProbe_beyondLock s e) _ _
  · exact foldl_keeps _ _ (fun s e => immediateProbe_beyondLock s e) _ _

@[simp] theorem lockHeard_beyondLock (f : HeardFrame) (a : Answer) :
    (s.lockHeard f a).beyondLock = s.beyondLock := by
  unfold State.lockHeard; split
  · split <;> simp
  · rfl

@[simp] theorem convert_beyondLock (c : Code) : (s.convert c).beyondLock = s.beyondLock :=
  (foldl_keeps _ _ (fun s i => completeBare_beyondLock s i c) _ _).trans (by simp)

end

end Sys2Proof.Machine
end

