-- ==== Sys2Proof/Laws/Operations.lean ====
section
/-! SUPPORT. What each shared operation does when it acts: completions and notices, lookups of an entry
after an update, wants, withdrawals and removals. -/

namespace Sys2Proof.Machine

open Sys2Proof

variable {s t : State}

/-! ### Notices and completions -/

/-- A notice changes the notice queue alone. -/
theorem enterNotice_eq (s : State) (b : NoticeBody) :
    s.enterNotice b = { s with notices := (s.enterNotice b).notices } := by
  unfold State.enterNotice; split <;> rfl

/-- What a notice leaves of the queue depends on the queue alone. -/
theorem enterNotice_notices_congr (b : NoticeBody) (h : s.notices = t.notices) :
    (s.enterNotice b).notices = (t.enterNotice b).notices := by
  unfold State.enterNotice; rw [h]; split <;> rfl

/-- R161: a notice that finds room. -/
theorem enterNotice_room (b : NoticeBody) (h : s.notices.records.length < Config.notices) :
    (s.enterNotice b).notices = ⟨s.notices.records ++ [⟨b, s.notices.overflow⟩], false⟩ := by
  unfold State.enterNotice; rw [if_pos h]; rfl

/-- R162: a notice that finds the queue full. -/
theorem enterNotice_full (b : NoticeBody) (h : Config.notices ≤ s.notices.records.length) :
    (s.enterNotice b).notices = ⟨s.notices.records, true⟩ := by
  unfold State.enterNotice; rw [if_neg (by omega)]; rfl

/-- A completion changes its slot, the stall and, where the slot asks for it, the notice queue. -/
theorem complete_eq (s : State) (i : SlotIx) (c : Code) (r : SlotResult) :
    s.complete i c r = { s with
      ring := { s.ring with
        slots := s.ring.slots.set i.val
          { s.slot i with state := .done, result := { r with code := some c } } i.isLt
        stalled := s.ring.stalled && decide (i ≠ s.ring.current) }
      notices := if (s.slot i).notify then (s.enterNotice (.completed i c)).notices else s.notices } := by
  unfold State.complete
  by_cases h : (s.slot i).notify = true
  · rw [if_pos h, if_pos h, enterNotice_eq]
    exact congrArg (fun n => ({ s with ring := _, notices := n } : State))
      (enterNotice_notices_congr _ rfl)
  · rw [if_neg h, if_neg h]; rfl

@[simp] theorem complete_lock (i : SlotIx) (c : Code) (r : SlotResult) :
    (s.complete i c r).lock = s.lock := by rw [complete_eq]

@[simp] theorem complete_queue (i : SlotIx) (c : Code) (r : SlotResult) :
    (s.complete i c r).queue = s.queue := by rw [complete_eq]

@[simp] theorem complete_member (i : SlotIx) (c : Code) (r : SlotResult) :
    (s.complete i c r).member = s.member := by rw [complete_eq]

@[simp] theorem complete_link (i : SlotIx) (c : Code) (r : SlotResult) :
    (s.complete i c r).link = s.link := by rw [complete_eq]

@[simp] theorem complete_config (i : SlotIx) (c : Code) (r : SlotResult) :
    (s.complete i c r).config = s.config := by rw [complete_eq]

@[simp] theorem enterNotice_lock (b : NoticeBody) : (s.enterNotice b).lock = s.lock := by
  rw [enterNotice_eq]

@[simp] theorem enterNotice_queue (b : NoticeBody) : (s.enterNotice b).queue = s.queue := by
  rw [enterNotice_eq]

@[simp] theorem enterNotice_ring (b : NoticeBody) : (s.enterNotice b).ring = s.ring := by
  rw [enterNotice_eq]

@[simp] theorem enterNotice_member (b : NoticeBody) : (s.enterNotice b).member = s.member := by
  rw [enterNotice_eq]

@[simp] theorem enterNotice_link (b : NoticeBody) : (s.enterNotice b).link = s.link := by
  rw [enterNotice_eq]

@[simp] theorem enterNotice_config (b : NoticeBody) : (s.enterNotice b).config = s.config := by
  rw [enterNotice_eq]

/-! ### Slots -/

theorem slot_setSlot (s : State) (i j : SlotIx) (x : Slot) :
    (s.setSlot i x).slot j = if j = i then x else s.slot j := by
  simp only [State.setSlot, State.slot, State.withRing_ring, Fin.getElem_fin]
  rw [Vector.getElem_set]
  by_cases h : j = i
  · subst h; simp
  · rw [if_neg h, if_neg (fun h' => h (Fin.ext h'.symm))]

@[simp] theorem slot_setSlot_self (i : SlotIx) (x : Slot) : (s.setSlot i x).slot i = x := by
  simp [slot_setSlot]

/-- The slots after a completion. -/
theorem slot_complete (s : State) (i j : SlotIx) (c : Code) (r : SlotResult) :
    (s.complete i c r).slot j
      = if j = i then { s.slot i with state := .done, result := { r with code := some c } }
        else s.slot j := by
  rw [complete_eq]
  simp only [State.slot, Fin.getElem_fin]
  rw [Vector.getElem_set]
  by_cases h : j = i
  · subst h; simp
  · rw [if_neg h, if_neg (fun h' => h (Fin.ext h'.symm))]

/-! ### Entries -/

@[simp] theorem setEntry_entries (id : Nat) (st : EntryState) :
    (s.setEntry id st).lock.entries
      = s.lock.entries.map (fun e => if e.id = id then { e with state := st } else e) := rfl

@[simp] theorem dropEntry_entries (id : Nat) :
    (s.dropEntry id).lock.entries = s.lock.entries.filter (fun e => decide (e.id ≠ id)) := rfl

/-- An entry found after the state of one was replaced. -/
theorem entry_setEntry (s : State) (id x : Nat) (st : EntryState) :
    (s.setEntry id st).entry x
      = (s.entry x).map (fun e => if x = id then { e with state := st } else e) := by
  simp only [State.entry, setEntry_entries]
  induction s.lock.entries with
  | nil => rfl
  | cons e l ih =>
    simp only [List.map_cons, List.find?_cons]
    by_cases h : e.id = id
    · rw [if_pos h]
      by_cases hx : e.id = x
      · subst hx
        simp [h]
      · simp only [hx, decide_false]; exact ih
    · rw [if_neg h]
      by_cases hx : e.id = x
      · have : x ≠ id := fun h' => h (hx.trans h')
        simp [hx, this]
      · simp only [hx, decide_false]; exact ih

theorem entry_setEntry_self {id : Nat} {e : LockEntry} (st : EntryState) (h : s.entry id = some e) :
    (s.setEntry id st).entry id = some { e with state := st } := by
  rw [entry_setEntry, h]; simp

/-- A freed place is no entry's. -/
theorem entry_dropEntry_self (s : State) (id : Nat) : (s.dropEntry id).entry id = none := by
  simp [State.entry, List.find?_eq_none]

theorem id_of_entry {id : Nat} {e : LockEntry} (h : s.entry id = some e) : e.id = id := by
  simpa using List.find?_some h

theorem mem_of_entry {id : Nat} {e : LockEntry} (h : s.entry id = some e) : e ∈ s.lock.entries :=
  List.mem_of_find?_eq_some h

/-- Where no two entries share a place, an entry is found by it. -/
theorem entry_of_mem {e : LockEntry}
    (hu : ∀ x ∈ s.lock.entries, ∀ y ∈ s.lock.entries, x.id = y.id → x = y) (h : e ∈ s.lock.entries) :
    s.entry e.id = some e := by
  cases hf : s.entry e.id with
  | none =>
    have := List.find?_eq_none.mp hf e h
    simp at this
  | some x => rw [hu x (mem_of_entry hf) e h (id_of_entry hf)]

/-- An entry is taken into use, where its place is new. -/
theorem putEntry_new (c : Claimant) (st : EntryState) (h : ∀ e ∈ s.lock.entries, e.id ≠ c.id) :
    s.putEntry c st = s.withEntries (s.lock.entries ++ [⟨c.id, c.resource, st, []⟩]) := by
  unfold State.putEntry
  rw [if_neg]
  simpa using h

/-- The entry that is evaluated again takes its new state. -/
theorem putEntry_present {e : LockEntry} (c : Claimant) (st : EntryState) (h : e ∈ s.lock.entries)
    (hid : e.id = c.id) : s.putEntry c st = s.setEntry c.id st := by
  unfold State.putEntry
  rw [if_pos]
  simpa using ⟨e, h, hid⟩

/-! ### Wants and frames -/

/-- R14: the present want or frame stands. -/
theorem raiseWant_stands {o : Owner} (h : s.lock.wants.contains o = true ∨ s.hasFrame o = true) :
    s.raiseWant o = s := by
  unfold State.raiseWant
  rw [if_pos (by simpa using h)]

/-- R14: admitted at once. -/
theorem raiseWant_places {o : Owner} (hw : s.lock.wants.contains o = false) (hf : s.hasFrame o = false)
    (hp : s.lockFrames < Config.lockPlaces) : s.raiseWant o = s.placeLock o := by
  unfold State.raiseWant
  rw [if_neg (by rw [hw, hf]; decide), if_pos hp]

/-- R14: the want joins the list. -/
theorem raiseWant_waits {o : Owner} (hw : s.lock.wants.contains o = false) (hf : s.hasFrame o = false)
    (hp : Config.lockPlaces ≤ s.lockFrames) : s.raiseWant o = s.withWants (s.lock.wants ++ [o]) := by
  unfold State.raiseWant
  rw [if_neg (by rw [hw, hf]; decide), if_neg (by omega)]

@[simp] theorem raiseWant_entries (s : State) (o : Owner) :
    (s.raiseWant o).lock.entries = s.lock.entries := by
  unfold State.raiseWant; split
  · rfl
  · split <;> rfl

@[simp] theorem raiseWant_queries (s : State) (o : Owner) :
    (s.raiseWant o).lock.queries = s.lock.queries := by
  unfold State.raiseWant; split
  · rfl
  · split <;> rfl

@[simp] theorem raiseWant_takings (s : State) (o : Owner) :
    (s.raiseWant o).lock.takings = s.lock.takings := by
  unfold State.raiseWant; split
  · rfl
  · split <;> rfl

@[simp] theorem raiseWant_ring (s : State) (o : Owner) : (s.raiseWant o).ring = s.ring := by
  unfold State.raiseWant; split
  · rfl
  · split <;> rfl

@[simp] theorem raiseWant_notices (s : State) (o : Owner) : (s.raiseWant o).notices = s.notices := by
  unfold State.raiseWant; split
  · rfl
  · split <;> rfl

/-- After a want arises, its owner has a want or a frame. -/
theorem raiseWant_served (s : State) (o : Owner) :
    o ∈ (s.raiseWant o).lock.wants ∨ ∃ f ∈ (s.raiseWant o).queue.frames, f.owner = .lock o := by
  unfold State.raiseWant
  split
  · rename_i h
    simp only [State.hasFrame, Bool.or_eq_true, List.contains_iff_mem, List.any_eq_true,
      decide_eq_true_eq] at h
    exact h
  · split
    · right; simp [State.placeLock, State.placeFrame]
    · left; simp [State.withWants]

/-- R135: with no want waiting, a freed place stays free. -/
theorem admitWant_none (h : s.lock.wants = []) : s.admitWant = s := by
  unfold State.admitWant; rw [h]

/-- A frame leaves while no want waits. -/
theorem removeFrame_none (f : FrameRecord) (h : s.lock.wants = []) :
    s.removeFrame f = s.withFrames (s.queue.frames.filter (fun g => decide (g.age ≠ f.age))) := by
  unfold State.removeFrame
  split
  · exact admitWant_none h
  · rfl

/-- R15: nothing of an owner is wanted or queued, so nothing is withdrawn. -/
theorem withdrawOwner_none {o : Owner} (hw : o ∉ s.lock.wants)
    (hf : ∀ f ∈ s.queue.frames, f.owner ≠ .lock o) : s.withdrawOwner o = s := by
  have h₁ : s.withWants (s.lock.wants.filter (fun w => decide (w ≠ o))) = s := by
    rw [List.filter_eq_self.mpr]
    · rfl
    · intro w h
      rw [decide_eq_true_eq]
      rintro rfl
      exact hw h
  unfold State.withdrawOwner
  rw [h₁]
  have h₂ : s.queue.frames.find? (fun f => decide (f.owner = .lock o)) = none := by
    rw [List.find?_eq_none]; intro f h; simpa using hf f h
  simp only [h₂]

@[simp] theorem admitWant_entries (s : State) : s.admitWant.lock.entries = s.lock.entries := by
  unfold State.admitWant; split
  · rfl
  · split <;> rfl

theorem removeFrame_entries (s : State) (f : FrameRecord) :
    (s.removeFrame f).lock.entries = s.lock.entries := by
  unfold State.removeFrame
  dsimp only
  split
  · exact admitWant_entries _
  · rfl

theorem withdrawFrame_entries (s : State) (f : FrameRecord) :
    (s.withdrawFrame f).lock.entries = s.lock.entries := by
  unfold State.withdrawFrame; split
  · rfl
  · exact removeFrame_entries s f

@[simp] theorem withdrawOwner_entries (s : State) (o : Owner) :
    (s.withdrawOwner o).lock.entries = s.lock.entries := by
  unfold State.withdrawOwner
  dsimp only
  split
  · exact withdrawFrame_entries _ _
  · rfl

@[simp] theorem freeEntry_entries (s : State) (id : Nat) :
    (s.freeEntry id).lock.entries = s.lock.entries.filter (fun e => decide (e.id ≠ id)) := by
  unfold State.freeEntry; rw [withdrawOwner_entries]; rfl

/-- R1: an entry that wants no frame is freed: it leaves the table and nothing else changes. -/
theorem freeEntry_unwanted {id : Nat} (hw : .entry id ∉ s.lock.wants)
    (hf : ∀ f ∈ s.queue.frames, f.owner ≠ .lock (.entry id)) : s.freeEntry id = s.dropEntry id := by
  unfold State.freeEntry; exact withdrawOwner_none hw hf

/-! ### A frame leaves the queue (R98, R134, R135) -/

/-- With no want waiting and no DEPART pending, a frame that leaves changes the frames alone. -/
theorem leaveQueue_quiet (f : FrameRecord) (hw : s.lock.wants = []) (hd : s.member.departs = []) :
    s.leaveQueue f = s.withFrames (s.queue.frames.filter (fun g => decide (g.age ≠ f.age))) := by
  have hfill : ∀ u : State, u.member.departs = [] → u.fillDepart = u := by
    intro u h; unfold State.fillDepart; rw [h]
  unfold State.leaveQueue
  rw [removeFrame_none f hw]
  split
  · exact hfill _ hd
  · rfl

/-- A marked membership frame that is no DEPART of another station just leaves. -/
theorem markedLeaves_other (f : FrameRecord) (ho : f.owner = .membership)
    (h : f.departsOther s.own = false) : s.markedLeaves f = s.leaveQueue f := by
  unfold State.markedLeaves
  simp only [ho]
  unfold FrameRecord.departsOther at h
  split
  · rename_i x hx
    rw [hx] at h
    rw [if_pos (by simpa using h)]
  · rfl

/-- R4: a marked CLAIM leaves, and its entry, where one still waits, is evaluated again. -/
theorem markedLeaves_entry (f : FrameRecord) {id : Nat} (ho : f.owner = .lock (.entry id)) :
    s.markedLeaves f = (s.leaveQueue f).claimDiscarded id := by
  unfold State.markedLeaves
  simp only [ho]

/-- R1: the answer to a CLAIM whose entry waits no more has no part in it. -/
theorem claimDiscarded_gone {id : Nat} (h : ∀ e, s.entry id = some e → e.claimant = none) :
    s.claimDiscarded id = s := by
  unfold State.claimDiscarded
  split
  · rfl
  · rename_i e he
    rw [if_neg (by rw [h e he]; decide)]

/-- R97: a marked DEPART of another station leaves, and that station's silence timer runs again. -/
theorem markedLeaves_depart (f : FrameRecord) {x : StationNo} (ho : f.owner = .membership)
    (hx : f.departNamed = some x) (h : x ≠ s.own) : s.markedLeaves f = (s.leaveQueue f).departAbandoned x := by
  unfold State.markedLeaves
  simp only [ho, hx]
  rw [if_neg h]

/-! ### The end of a frame (R111) -/

@[simp] theorem linkIdle_released (s : State) (n : Nat) :
    (s.linkIdle (.released n)).link = ⟨.idle, n, 0, .recessive⟩ := rfl

@[simp] theorem linkIdle_dominant (s : State) : (s.linkIdle .dominant).link = ⟨.idle, 0, 0, .tail⟩ := rfl

@[simp] theorem linkIdle_state (s : State) (a : LineAtEnd) : (s.linkIdle a).link.state = .idle := by
  cases a <;> rfl

theorem linkIdle_changes_the_link_alone (s : State) (a : LineAtEnd) :
    s.linkIdle a = s.withLink (s.linkIdle a).link := rfl

end Sys2Proof.Machine
end

