-- ==== Sys2Proof/Laws/Port.lean ====
section
/-! SUPPORT. The bits of a transaction: bytes clocked most significant bit first come back as those bytes. -/

namespace Sys2Proof.Machine

open Sys2Proof

/-- A byte from its own eight bits. -/
theorem wholeBytes_byte (b : Byte) (l : List Bool) :
    wholeBytes (bitsOf b ++ l) = b :: wholeBytes l := by
  have h : ∀ b : Byte, wholeBytes (bitsOf b) = [b] := by decide +kernel
  have h' : wholeBytes (bitsOf b ++ l) = wholeBytes (bitsOf b) ++ wholeBytes l := rfl
  rw [h', h]; rfl

/-- R177: whole bytes are read back from their bits. -/
theorem wholeBytes_flatMap (bytes : List Byte) : wholeBytes (bytes.flatMap bitsOf) = bytes := by
  induction bytes with
  | nil => rfl
  | cons b l ih => rw [List.flatMap_cons, wholeBytes_byte, ih]

end Sys2Proof.Machine
end

