-- ==== Sys2Proof/Laws/Shell.lean ====
section
/-! SUPPORT. The membership unit, the outbound queue's results, the timers and the transceiver leave the
configuration record, the host port, the clock, the reset line, the free-value counter, the queue of
commands, END, the post lock and REFUSED_WRITE alone. -/

namespace Sys2Proof.Machine

open Sys2Proof

section
variable (s : State)

/-- An operation that keeps `beyondLock` keeps `shell`. -/
theorem shell_step {s t u : State} (h : u.beyondLock = t.beyondLock) (k : t.shell = s.shell) :
    u.shell = s.shell := (shell_of_beyondLock h).trans k

@[simp] theorem enterNotice_shell (b : NoticeBody) : (s.enterNotice b).shell = s.shell :=
  shell_of_beyondLock (by simp)
@[simp] theorem setSlot_shell (i : SlotIx) (x : Slot) : (s.setSlot i x).shell = s.shell := rfl
@[simp] theorem completeBare_shell (i : SlotIx) (c : Code) : (s.completeBare i c).shell = s.shell :=
  shell_of_beyondLock (by simp)
@[simp] theorem removeFrame_shell (f : FrameRecord) : (s.removeFrame f).shell = s.shell :=
  shell_of_beyondLock (by simp)
@[simp] theorem placeFrame_shell (k : FrameKind) (o : FrameOwner) (p : Option FrameContent) :
    (s.placeFrame k o p).shell = s.shell := rfl
@[simp] theorem updateFrame_shell (n : Nat) (g : FrameRecord → FrameRecord) :
    (s.updateFrame n g).shell = s.shell := rfl
@[simp] theorem wakeWaiters_shell (x : StationNo) : (s.wakeWaiters x).shell = s.shell :=
  shell_of_beyondLock (by simp)
@[simp] theorem convert_shell (c : Code) : (s.convert c).shell = s.shell := shell_of_beyondLock (by simp)
@[simp] theorem applyHeld_shell (id : Nat) : (s.applyHeld id).shell = s.shell :=
  shell_of_beyondLock (by simp)
@[simp] theorem applyHeldCancel_shell (id : Nat) : (s.applyHeldCancel id).shell = s.shell :=
  shell_of_beyondLock (by simp)
@[simp] theorem entryAbandoned_shell (id : Nat) : (s.entryAbandoned id).shell = s.shell :=
  shell_of_beyondLock (by simp)
@[simp] theorem queryAbandoned_shell (id : Nat) : (s.queryAbandoned id).shell = s.shell :=
  shell_of_beyondLock (by simp)
@[simp] theorem claimDiscarded_shell (id : Nat) : (s.claimDiscarded id).shell = s.shell :=
  shell_of_beyondLock (by simp)
@[simp] theorem claimEnded_shell (id : Nat) (p : Option Ticket) (a : Answer) :
    (s.claimEnded id p a).shell = s.shell := shell_of_beyondLock (by simp)
@[simp] theorem grantEnded_shell (id : Nat) (a b : Ticket) (x : Answer) :
    (s.grantEnded id a b x).shell = s.shell := shell_of_beyondLock (by simp)
@[simp] theorem queryEnded_shell (id : Nat) (a : Answer) : (s.queryEnded id a).shell = s.shell :=
  shell_of_beyondLock (by simp)
@[simp] theorem lockHeard_shell (f : HeardFrame) (a : Answer) : (s.lockHeard f a).shell = s.shell :=
  shell_of_beyondLock (by simp)
@[simp] theorem settleHolder_shell (r : Resource) (x : Option StationNo) :
    (s.settleHolder r x).shell = s.shell := shell_of_beyondLock (by simp)
@[simp] theorem endWait_shell (e : LockEntry) (c : Code) : (s.endWait e c).shell = s.shell :=
  shell_of_beyondLock (by simp)
@[simp] theorem immediateProbe_shell (e : LockEntry) : (s.immediateProbe e).shell = s.shell :=
  shell_of_beyondLock (by simp)
@[simp] theorem raiseWant_shell (o : Owner) : (s.raiseWant o).shell = s.shell :=
  shell_of_beyondLock (by simp)
@[simp] theorem setEntry_shell (id : Nat) (x : EntryState) : (s.setEntry id x).shell = s.shell := rfl
@[simp] theorem holdAction_shell (id : Nat) (a : HeldAction) : (s.holdAction id a).shell = s.shell := rfl
@[simp] theorem reevaluate_shell (id : Nat) : (s.reevaluate id).shell = s.shell :=
  shell_of_beyondLock (by simp)
@[simp] theorem reevaluateDeferred_shell (r : Resource) : (s.reevaluateDeferred r).shell = s.shell :=
  shell_of_beyondLock (by simp)
@[simp] theorem issueTicket_shell (h : LockEntry) : (s.issueTicket h).shell = s.shell :=
  shell_of_beyondLock (by simp)
@[simp] theorem enterHolding_shell (e : LockEntry) (a b : Ticket) :
    (s.enterHolding e a b).shell = s.shell := shell_of_beyondLock (by simp)

/-! ### Membership -/

@[simp] theorem placeMember_shell (c : FrameContent) : (s.placeMember c).shell = s.shell := by
  unfold State.placeMember; split <;> rfl

@[simp] theorem fillDepart_shell : s.fillDepart.shell = s.shell := by
  unfold State.fillDepart; split
  · rfl
  · split <;> simp

@[simp] theorem wantDepart_shell (x : StationNo) (t : Tag) : (s.wantDepart x t).shell = s.shell := by
  unfold State.wantDepart; split
  · split <;> simp
  · simp

@[simp] theorem withdrawDepart_shell (x : StationNo) : (s.withdrawDepart x).shell = s.shell := by
  unfold State.withdrawDepart; dsimp only; split <;> simp

@[simp] theorem setRecord_shell (x : StationNo) (r : MemberRecord) : (s.setRecord x r).shell = s.shell := by
  unfold State.setRecord; split <;> rfl

@[simp] theorem restartSilence_shell (x : StationNo) : (s.restartSilence x).shell = s.shell := by
  simp [State.restartSilence]

@[simp] theorem restartSilenceIfPresent_shell (x : StationNo) :
    (s.restartSilenceIfPresent x).shell = s.shell := by
  unfold State.restartSilenceIfPresent; split <;> simp

@[simp] theorem wantJoin_shell : s.wantJoin.shell = s.shell := by
  unfold State.wantJoin; split <;> simp

@[simp] theorem withdrawMembership_shell : s.withdrawMembership.shell = s.shell :=
  (foldl_keeps _ _ (fun s x => restartSilenceIfPresent_shell s x) _ _).trans (by simp)

@[simp] theorem endOwnRecord_shell : s.endOwnRecord.shell = s.shell := by
  simp [State.endOwnRecord]

@[simp] theorem fence_shell (c : FenceCause) : (s.fence c).shell = s.shell := by
  unfold State.fence; dsimp only; split <;> simp

@[simp] theorem lossReported_shell : s.lossReported.shell = s.shell := by
  unfold State.lossReported; split <;> simp

@[simp] theorem endLeaving_shell : s.endLeaving.shell = s.shell := by
  simp [State.endLeaving]

@[simp] theorem presence_shell (x : StationNo) : (s.presence x).shell = s.shell := by
  unfold State.presence; dsimp only; split <;> simp

@[simp] theorem raiseEpoch_shell (x : StationNo) (r : MemberRecord) :
    (s.raiseEpoch x r).shell = s.shell := by
  simp [State.raiseEpoch]

@[simp] theorem beaconTag_shell (x : StationNo) (r : MemberRecord) (t : Tag) :
    (s.beaconTag x r t).shell = s.shell := by
  unfold State.beaconTag; dsimp only; split <;> simp

@[simp] theorem joinHeard_shell (x : StationNo) (t : Tag) : (s.joinHeard x t).shell = s.shell := by
  unfold State.joinHeard; dsimp only; split <;> simp

@[simp] theorem departNames_shell (x : StationNo) (t : Tag) (c : DownCause) :
    (s.departNames x t c).shell = s.shell := by
  unfold State.departNames; split <;> simp

@[simp] theorem departHere_shell (t : Tag) : (s.departHere t).shell = s.shell := by
  unfold State.departHere; split
  · split <;> simp
  · rfl

@[simp] theorem heardPresence_shell (x : StationNo) (c : FrameContent) :
    (s.heardPresence x c).shell = s.shell := by
  unfold State.heardPresence; split
  · rfl
  · split
    · simp
    · simp
    · split <;> simp
    · simp
    · simp
    · simp

@[simp] theorem heardFrame_shell (x : StationNo) (c : FrameContent) :
    (s.heardFrame x c).shell = s.shell := by
  unfold State.heardFrame; dsimp only; split
  · split <;> simp
  · simp

@[simp] theorem ownAccepted_shell (c : FrameContent) : (s.ownAccepted c).shell = s.shell := by
  unfold State.ownAccepted; dsimp only; split
  · split <;> split <;> simp
  · split <;> simp

@[simp] theorem joinAccepted_shell : s.joinAccepted.shell = s.shell := by
  simp [State.joinAccepted]

@[simp] theorem joinAbandoned_shell : s.joinAbandoned.shell = s.shell := by
  simp [State.joinAbandoned]

/-! ### Results of attempts -/

@[simp] theorem attemptOver_shell (o : FrameOwner) : (s.attemptOver o).shell = s.shell := by
  unfold State.attemptOver; split <;> simp

@[simp] theorem leaveQueue_shell (f : FrameRecord) : (s.leaveQueue f).shell = s.shell := by
  unfold State.leaveQueue; split <;> simp

@[simp] theorem departAbandoned_shell (x : StationNo) : (s.departAbandoned x).shell = s.shell := by
  simp [State.departAbandoned]

@[simp] theorem markedLeaves_shell (f : FrameRecord) : (s.markedLeaves f).shell = s.shell := by
  unfold State.markedLeaves; split
  · simp
  · simp
  · split
    · split <;> simp
    · simp

@[simp] theorem reportLost_shell (n : Nat) : (s.reportLost n).shell = s.shell := by
  unfold State.reportLost; split
  · rfl
  · split <;> simp

@[simp] theorem abandoned_shell (f : FrameRecord) : (s.abandoned f).shell = s.shell := by
  unfold State.abandoned; split
  · simp
  · simp
  · split
    · split <;> simp
    · split
      · split <;> simp
      · simp
    · rfl

@[simp] theorem reportFailed_shell (n : Nat) : (s.reportFailed n).shell = s.shell := by
  unfold State.reportFailed; split
  · rfl
  · split
    · simp
    · split <;> simp

@[simp] theorem accepted_shell (f : FrameRecord) (c : FrameContent) (a : Answer) :
    (s.accepted f c a).shell = s.shell := by
  unfold State.accepted; split
  · split
    · split <;> simp
    · simp
    · rfl
  · simp
  · split
    · split <;> simp
    · split <;> simp
    · rfl

@[simp] theorem reportAccepted_shell (n : Nat) (c : FrameContent) (a : Answer) :
    (s.reportAccepted n c a).shell = s.shell := by
  unfold State.reportAccepted; split <;> simp

@[simp] theorem ownFrameAccepted_shell (o : OwnFrame) (b : LineAtEnd) (a : Answer) :
    (s.ownFrameAccepted o b a).shell = s.shell := by
  simp [State.ownFrameAccepted]

@[simp] theorem stopSending_shell : s.stopSending.shell = s.shell := rfl

@[simp] theorem collide_shell (o : OwnFrame) : (s.collide o).shell = s.shell := by
  simp [State.collide]

/-! ### Transceiver -/

@[simp] theorem setAnswer_shell (f : HeardFrame) (a : Option (BitVec 28)) (n : Option Nat) :
    (s.setAnswer f a n).shell = s.shell := rfl

@[simp] theorem answerClaim_shell (f : HeardFrame) (h : LockEntry) (p : Option Ticket) (b : Bool) :
    (s.answerClaim f h p b).shell = s.shell := by
  unfold State.answerClaim; split
  · split
    · simp
    · split <;> simp
  · split
    · simp
    · split <;> simp

@[simp] theorem answerDemand_shell (f : HeardFrame) : (s.answerDemand f).shell = s.shell := by
  unfold State.answerDemand; split
  · split <;> simp
  · split <;> simp
  · split
    · split <;> simp
    · simp
  · simp

@[simp] theorem truncated_shell : s.truncated.shell = s.shell := rfl

@[simp] theorem pulseFalls_shell : s.pulseFalls.shell = s.shell := by
  unfold State.pulseFalls; split <;> rfl

@[simp] theorem tailRises_shell : s.tailRises.shell = s.shell := by
  unfold State.tailRises; repeat' split
  all_goals rfl

@[simp] theorem loseSync_shell : s.loseSync.shell = s.shell := by simp [State.loseSync]

@[simp] theorem collideAndLoseSync_shell (o : OwnFrame) :
    (s.collideAndLoseSync o).shell = s.shell := by
  unfold State.collideAndLoseSync; dsimp only; split <;> simp

@[simp] theorem regainIdle_shell : s.regainIdle.shell = s.shell := by
  unfold State.regainIdle; dsimp only; split <;> simp

@[simp] theorem ownVetoEnd_shell (o : OwnFrame) (b : Bool) (z : LineAtEnd) :
    (s.ownVetoEnd o b z).shell = s.shell := by
  unfold State.ownVetoEnd; split
  · simp
  · split <;> simp

@[simp] theorem heardVetoEnd_shell (f : LinkFrame) (b : Bool) (z : LineAtEnd) :
    (s.heardVetoEnd f b z).shell = s.shell := by
  unfold State.heardVetoEnd; split
  · simp
  · split
    · simp
    · split <;> simp

@[simp] theorem decideVeto_shell (f : LinkFrame) : (s.decideVeto f).shell = s.shell := by
  unfold State.decideVeto; split <;> rfl

@[simp] theorem endVetoSlot_shell (f : LinkFrame) (b : Bool) (z : LineAtEnd) :
    (s.endVetoSlot f b z).shell = s.shell := by
  unfold State.endVetoSlot; split <;> simp

@[simp] theorem heardAnswerEnd_shell (f : HeardFrame) (l : AnswerLine) :
    (s.heardAnswerEnd f l).shell = s.shell := by
  simp [State.heardAnswerEnd]

/-! ### Takings and timers -/

@[simp] theorem hand_shell (id : Nat) (i : SlotIx) (q : Request) : (s.hand id i q).shell = s.shell := by
  unfold State.hand; split <;> exact shell_of_beyondLock (by simp)

@[simp] theorem takeRequest_shell (i : SlotIx) (q : Request) : (s.takeRequest i q).shell = s.shell := by
  simp [State.takeRequest]

@[simp] theorem advance_shell : s.advance.shell = s.shell := rfl

@[simp] theorem take_shell (i : SlotIx) : (s.take i).shell = s.shell := by
  unfold State.take; split
  · exact withRing_shell s rfl
  · simp
  · simp
  · split <;> simp

@[simp] theorem expireDeadline_shell (e : LockEntry) : (s.expireDeadline e).shell = s.shell := by
  unfold State.expireDeadline; split
  · split <;> simp
  · simp

@[simp] theorem expireClaimRetry_shell (e : LockEntry) : (s.expireClaimRetry e).shell = s.shell := by
  unfold State.expireClaimRetry; split
  · dsimp only; split
    · split <;> simp
    · simp
  · rfl

@[simp] theorem expireGrantRetry_shell (e : LockEntry) : (s.expireGrantRetry e).shell = s.shell := by
  unfold State.expireGrantRetry; split <;> simp

@[simp] theorem expireSilence_shell (x : StationNo) : (s.expireSilence x).shell = s.shell := by
  unfold State.expireSilence; split <;> simp

@[simp] theorem expireBeacon_shell : s.expireBeacon.shell = s.shell := by
  unfold State.expireBeacon; dsimp only; split <;> simp

end

end Sys2Proof.Machine
end

