-- ==== Sys2Proof/Machine/Line.lean ====
section
/-! DEFINITION. The group link at the level of bits and pulses (R108 to R111, R113, R116, R118, R120, R124): what
the wired line shows, what this station drives and for how long, and which commands a pulse, an edge or a bit is to
this station.
Lengths are in quarter microseconds. -/

namespace Sys2Proof.Machine

open Sys2Proof

/-- R108: the wired line is recessive (1) while every station releases it; a driven 0 wins. -/
def wiredLine (levels : List Bool) : Bool := levels.all id

/-- R108: a sender releases T/4 after the bit start of a 1 and 3T/4 after that of a 0. -/
def releaseAfter (T : Nat) (bit : Bool) : Nat := if bit then T / 4 else T / 4 * 3

/-- R108: a station that does not make the bit start writes a 0 by driving from the bit start it sees until 3T/4
after it, and leaves the line alone for a 1. -/
def writtenFor (T : Nat) (bit : Bool) : Nat := if bit then 0 else T / 4 * 3

/-- R110: what a station does to the line: it releases it, drives its lead, sends bits whose bit starts it makes,
or writes bits into those of another's. -/
inductive LineDrive
  | released
  | lead
  | sends (bits : List Bool)
  | writes (bits : List Bool)
  deriving DecidableEq, Repr

/-- R110: the column Line of its table, by the transceiver's state: a sender drives bit starts to the end of the
frame (R116, R120), a listener only veto or answer bits. -/
def State.lineDrive (s : State) : LineDrive :=
  match s.link.state with
  | .leading => .lead
  | .vetoSlot vetoing => .writes [!vetoing]
  | .listeningAnswer f =>
    match f.answer with
    | some a => .writes (bitsOf a)
    | none => .released
  | _ =>
    match s.sentBits with
    | some l => .sends l
    | none => .released

/-- R108, R112: how long the line is driven from each bit start, and for a lead from its begin. -/
def LineDrive.pulses (T : Nat) : LineDrive → List Nat
  | .released => []
  | .lead => [2 * T]
  | .sends l => l.map (releaseAfter T)
  | .writes l => l.map (writtenFor T)

/-- R108, R111: how the line stands at the end of a bit that one station drove and released in time. -/
def nominalEnd (T : Nat) (bit : Bool) : LineAtEnd := .released (T - releaseAfter T bit)

/-- R109: a dominant pulse by its length. -/
inductive Pulse
  | short
  | long
  | lead
  | outside
  deriving DecidableEq, Repr

/-- R109: in quarter microseconds every window is a whole number. -/
def pulseOf (T length : Nat) : Pulse :=
  if T / 8 ≤ length ∧ length ≤ T / 8 * 3 then .short
  else if T / 8 * 5 ≤ length ∧ length ≤ T / 8 * 7 then .long
  else if T / 4 * 7 ≤ length ∧ length ≤ T / 4 * 9 then .lead
  else .outside

/-- R108, R109: the bit a pulse is in a checked field. -/
def Pulse.bit : Pulse → Option Bool
  | .short => some true
  | .long => some false
  | .lead => none
  | .outside => none

/-- R109: where a bit start stands against its window, `since` the previous bit start, or the lead's edge
for the first bit. -/
inductive BitStart
  | early
  | inWindow
  | missed
  deriving DecidableEq, Repr

def bitStartOf (T since : Nat) (first : Bool) : BitStart :=
  let due := if first then 3 * T else T
  if since + T / 8 < due then .early else if since ≤ due + T / 8 then .inWindow else .missed

/-- R118, R124: what a pattern that no listener can frame is to a sender: a collision, and then a loss of
synchronization as at a listener. -/
def unframed : List Instr := [.collision, .lossOfSynchronization]

/-- R109, R124: the commands that a pulse is as a bit of a checked field: none in the short and long
windows. -/
def Pulse.inField (p : Pulse) (commands : List Instr) : List Instr := if p.bit.isSome then [] else commands

/-- R109, R124: what a listener makes of a pattern in a checked field, and outside one (R120). A listener that
has decided its veto is in the last check bit until the slot's bit start: a pulse of that bit, released after
its sample, is still checked, and so is an edge there that comes before the slot's bit start window. -/
def listenerCommands (checked : Bool) (commands : List Instr) : List Instr :=
  if checked then commands else []

/-- R111, R118, R124: the commands that a dominant pulse is at its release; `checked`: it lies in a checked
field (R109), the last check bit among them. A pulse that outlasts the frame is no pulse of IDLE (log 43). In the veto slot itself and the answer field no station classifies
pulses (R120). The arbitration field is checked, and an own lead is measured against the lead's window. -/
def State.pulseCommands (s : State) (length : Nat) (checked : Bool) : List Instr :=
  let p := pulseOf s.bitTime length
  match s.link.state with
  | .off => []
  | .seeking => [.leadHeard]
  | .idle =>
    if s.link.line = .tail then [.lead .lineRises]
    else if p = .lead then [.leadHeard] else [.lossOfSynchronization]
  | .leading => if p = .lead then [] else unframed
  | .arbitrating _ => p.inField unframed
  | .sending _ => if checked then p.inField unframed else []
  | .sendingAnswer _ => []
  | .listening => listenerCommands checked (p.inField [.lossOfSynchronization])
  | .vetoSlot _ => listenerCommands checked (p.inField [.lossOfSynchronization])
  | .listeningAnswer _ => []

/-- R109, R124: the commands that a bit start is by its window: outside it those given, after which the
pulse that has fallen is one of SEEKING (R111). -/
def BitStart.commands (b : BitStart) (lost : List Instr) : List Instr :=
  if b = .inWindow then [] else lost ++ [.lead .lineFalls]

/-- R109, R111, R118, R124: the commands that a falling edge is; `since` and `first` as in `bitStartOf`,
`checked`: it lies in a checked field, as an edge of the last check bit does and the veto slot's own bit start
does not. -/
def State.edgeCommands (s : State) (since : Nat) (first checked : Bool) : List Instr :=
  let b := bitStartOf s.bitTime since first
  match s.link.state with
  | .off => []
  | .seeking => [.lead .lineFalls]
  | .idle => [.lead .lineFalls]
  | .leading => b.commands unframed
  | .arbitrating _ => b.commands unframed
  | .sending _ => if checked then b.commands unframed else []
  | .sendingAnswer _ => []
  | .listening => listenerCommands checked (b.commands [.lossOfSynchronization])
  | .vetoSlot _ => listenerCommands checked (b.commands [.lossOfSynchronization])
  | .listeningAnswer _ => []

/-- R113, R117, R118: the command that a bit sent and sampled is at a sender; `checked`: it lies in a checked
field. A veto slot sent as 1 and read 0 is no collision. -/
def State.sentBitCommand (s : State) (sent sampled checked : Bool) : Option Instr :=
  match s.link.state with
  | .arbitrating _ =>
    if sent = sampled then none else some (if sent then .arbitrationLost else .collision)
  | .sending _ => if checked && sent != sampled then some .collision else none
  | _ => none

/-- R115: the command that the last check bit of a frame is, once sampled: at a listener its veto is decided. -/
def State.lastCheckBitCommand (s : State) (heard : LinkFrame) : Option Instr :=
  match s.link.state with
  | .listening => some (.vetoSlotEnd heard .checked)
  | _ => none

/-- R119: the command that a recessive line of a length is while a frame passes. -/
def State.recessiveCommand (s : State) (length : Nat) : Option Instr :=
  match s.link.state with
  | .listening => if 2 * s.bitTime ≤ length then some .truncation else none
  | .vetoSlot _ => if 2 * s.bitTime ≤ length then some .truncation else none
  | .listeningAnswer _ => if 2 * s.bitTime ≤ length then some .truncation else none
  | _ => none

/-- 6.4: the bit times a frame occupies after the lead: arbitration 7, kind 3, length 4, payload, check 16,
veto 1, and the 28 of an answer field. -/
def FrameContent.bitTimes (c : FrameContent) : Nat :=
  31 + 8 * c.payload.length + (if c.kind.isLock then 28 else 0)

/-- 6.4: from the lead's edge to the frame's end. -/
def FrameContent.duration (c : FrameContent) (T : Nat) : Nat := (3 + c.bitTimes) * T

end Sys2Proof.Machine
end

