-- ==== Sys2Proof/Tests/Slice0.lean ====
section
/-! SUPPORT. Own tests on small states: the WellFormed smoke tests, the spec's worked examples, one run of
a command of each family, and for every statement a state and operands that meet its hypotheses. -/

namespace Sys2Proof.Tests

-- One theorem after the other: side by side, the kernel evaluations below would hold many threads.
set_option Elab.async false

open Sys2Proof Sys2Proof.Machine

/-! ### Well-formed and ill-formed commands -/

theorem test_slotWrite_needs_a_byte :
    (Instr.slotWrite 0 []).wellFormed = false ∧ (Instr.slotWrite 0 [(2, 0x10)]).wellFormed = true := by
  decide

theorem test_popRead_needs_a_byte :
    (Instr.popRead true 0 0).wellFormed = false ∧ (Instr.popRead true 0 12).wellFormed = true := by decide

theorem test_ignoredWrite_needs_an_ignored_byte :
    (Instr.ignoredWrite 0x043 5).wellFormed = false ∧ (Instr.ignoredWrite 0x042 5).wellFormed = true ∧
      (Instr.ignoredWrite 0x018 1).wellFormed = false ∧ (Instr.ignoredWrite 0x018 9).wellFormed = true := by
  decide

theorem test_vetoSlotEnd_needs_its_payload :
    (Instr.vetoSlotEnd ⟨0, 9, 1, 2, [0], 0⟩ .checked).wellFormed = false ∧
      (Instr.vetoSlotEnd ⟨0, 9, 1, 2, [0, 1], 0⟩ (.ends false (.released 24))).wellFormed = true := by decide

theorem test_frame_end_needs_a_release_in_time :
    (Instr.answerEnd ⟨0, .released 512⟩).wellFormed = false ∧
      (Instr.answerEnd ⟨0, .released 511⟩).wellFormed = true ∧
      (Instr.vetoSlotEnd ⟨0, 9, 1, 2, [0, 1], 0⟩ (.ends false (.released 512))).wellFormed = false ∧
      (Instr.vetoSlotEnd ⟨0, 9, 1, 2, [0, 1], 0⟩ (.ends false .dominant)).wellFormed = true := by decide

theorem test_silenceTimer_needs_a_station :
    (Instr.silenceTimerExpiry 0).wellFormed = false ∧ (Instr.silenceTimerExpiry 9).wellFormed = true := by
  decide

theorem test_ignoredWrite_of_another_row_is_refused (s : State) :
    exec (.ignoredWrite 0x043 5) s = .refused .notAnIgnoredWrite := rfl

theorem test_no_word_spells_a_command : decodeTableWord 8 1 = none := rfl

theorem test_commands_of_a_transaction :
    writeTransaction [0x00, 0x43, 3] = [.endWrite 3] ∧ writeTransaction [0x00, 0x18, 2] = [.start] ∧
      writeTransaction [0x80, 0x43, 3] = [] := by decide

theorem test_parts_of_a_read :
    readTransaction 0x80 0x42 4 false
      = [.view 0x042 2, .effect (.postLockRead true), .view 0x045 1] ∧
      readTransaction 0x80 0x50 13 false = [.effect (.popRead true 0 12), .view 0x05C 1] ∧
      readTransaction 0x80 0x43 1 true
        = [.view 0x043 1, .effect (.postLockRead false), .begun 0x044] ∧
      readTransaction 0x80 0x50 2 true = [.effect (.popRead true 0 2), .begun 0x052] ∧
      readTransaction 0x81 0x1E 4 false = [.view 0x11E 2, .view 0x120 2] := by decide +kernel

/-- R179: a record that the transaction comes back to is kept as it was fixed; a lone location is not. -/
theorem test_kept_records :
    readPart [0x110, 0x050] 0x114 2 = .kept 0x114 2 ∧ readPart [0x120] 0x114 2 = .view 0x114 2 ∧
      readPart [0x050] 0x053 2 = .effect (.popRead false 3 2) ∧ readPart [] 0x060 1 = .view 0x060 1 ∧
      recordBase 0x060 = none ∧ recordBase 0x303 = some 0x300 := by decide +kernel

theorem test_kept_bytes (s t : State) :
    readBytes [] [(.view 0x114 12, s), (.kept 0x110 4, t)]
      = s.viewBytes 0x114 12 ++ (s.viewBytes 0x110 4 ++ []) := rfl

/-- R179: a read from 0x03F on that wraps and ends inside the post lock's byte: that byte is fixed at its own moment,
when the read before it has taken the lock. -/
theorem test_cut_byte_of_a_lone_location (s t : State) (h : t.resetHeld = false) :
    readBytes [(.view 0x03F 1, s)] [(.begun 0x044, t)] = [t.windowByte 0x044] := by
  simp [readBytes, ReadPart.bytes, State.viewBytes, State.begunByte, fixedIn, ReadPart.fixes, ReadPart.isPop,
    recordBase, h]

/-- R177: most significant bit first; the turnaround byte reads 0. -/
theorem test_bits_of_transactions :
    wholeBytes (bitsOf (0xA5 : Byte) ++ [true, false]) = [0xA5] ∧
      Transaction.writes ⟨[0x00, 0x43, 3].flatMap (bitsOf (n := 8)) ++ [true], none⟩ = [.endWrite 3] ∧
      readTransactionBits ([0x80, 0x43, 0xFF, 0xFF].flatMap (bitsOf (n := 8)) ++ [true])
        = [.view 0x043 1, .effect (.postLockRead false), .begun 0x044] ∧
      readTransactionBits ([0x80, 0x43].flatMap (bitsOf (n := 8))) = [] ∧
      misoBits [0x01] = List.replicate 15 false ++ [true] := by decide +kernel

/-- R177: a read of END, 7, and of the first three bits of the post lock, which is held; CS_N high. -/
def cutRead : Transaction := ⟨[0x80, 0x43, 0, 0].flatMap (bitsOf (n := 8)) ++ [true, true, true], none⟩

theorem test_cut_byte_on_miso (s : State) (h : s.resetHeld = false) :
    readBytes [] [(.view 0x043 1, s), (.effect (.postLockRead false), s.withPort ⟨none, []⟩), (.begun 0x044, s)]
      = [s.windowByte 0x043, s.windowByte 0x044] := by
  simp [readBytes, ReadPart.bytes, State.viewBytes, State.begunByte, fixedIn, ReadPart.fixes, ReadPart.isPop,
    recordBase, State.withPort, h]

theorem test_miso_pin :
    (List.range 35).map (fun i => cutRead.misoPin [0x07, 0x01] (some i))
      = (List.range 16).map (fun i => some (Config.misoUnstated i))
        ++ (List.replicate 8 false ++ bitsOf (0x07 : Byte) ++ [false, false, false]).map some ∧
      cutRead.misoPin [0x07, 0x01] none = none := ⟨rfl, rfl⟩

/-- R175: a write that meets reset is discarded whole; a read of the post lock does not reach it. -/
theorem test_transactions_that_meet_reset :
    Transaction.writes ⟨[0x00, 0x43, 3].flatMap (bitsOf (n := 8)), some 24⟩ = [] ∧
      Transaction.reads ⟨[0x80, 0x43, 0, 0, 0].flatMap (bitsOf (n := 8)), some 32⟩ = [.view 0x043 1] ∧
      Transaction.reads ⟨[0x80, 0x44, 0, 0].flatMap (bitsOf (n := 8)), some 0⟩ = [] := by decide +kernel

/-- R178: the bytes of one slot record form one write, at the place of the first. -/
theorem test_one_write_per_slot :
    mergeSlotWrites [.slotWrite 2 [(2, 5)], .leave, .slotWrite 3 [(2, 7)], .slotWrite 2 [(3, 6)]]
      = [.slotWrite 2 [(2, 5), (3, 6)], .leave, .slotWrite 3 [(2, 7)]] := by decide +kernel

/-- R109 at T = 2 µs, in quarter microseconds. -/
theorem test_pulse_windows :
    pulseOf 8 1 = .short ∧ pulseOf 8 3 = .short ∧ pulseOf 8 4 = .outside ∧ pulseOf 8 5 = .long ∧
      pulseOf 8 7 = .long ∧ pulseOf 8 14 = .lead ∧ pulseOf 8 18 = .lead ∧ pulseOf 8 19 = .outside := by
  decide

/-- 6.4: the frame durations at T = 8 µs. -/
theorem test_frame_durations :
    (FrameContent.join 1 0).duration 8 = 528 ∧ (FrameContent.beacon 1).duration 8 = 400 ∧
      (FrameContent.depart 1 0).duration 8 = 464 ∧ (FrameContent.grant 0 1 2).duration 8 = 944 ∧
      (FrameContent.claim 0 0 none false).duration 8 = 752 ∧
      (FrameContent.claim 0 0 (some 1) false).duration 8 = 880 ∧
      (FrameContent.query 0).duration 8 = 688 := by decide

/-! ### The spec's examples -/

/-- 1.3: the queue across the wrap. -/
theorem test_queue_across_the_wrap :
    spanOf 65534 2 = 3 ∧ inQueue 65534 2 65535 = true ∧ inQueue 65534 2 0 = true ∧
      inQueue 65534 2 1 = true ∧ inQueue 65534 2 2 = false ∧ inQueue 65534 2 65534 = false ∧
      inQueue 65534 2 40000 = false := by decide

/-- 6.7: HELD of station 9 with ticket 14; its check is 1000. -/
theorem test_answer_and_its_check :
    (answerBits .held 9 14).extractLsb' 0 4 = 0b1000 ∧
      answerBits .held 9 14 = 0b000_01001_0000000000001110_1000 ∧
      decodeAnswer .claim (answerBits .held 9 14) = .code .held 9 14 := by decide

/-- 10.2: the record of the example, its hold limits first 0 and then 4. -/
def record (limit : Byte) : ConfigRecord :=
  { ConfigRecord.reset with
    stationNumber := 7, bitTimeCode := 2, beaconInterval := 20, presenceMultiple := 5
    probeInterval := 10, spanLimit := 8, policyVector := 0xFFFF
    holdLimits := Vector.replicate 8 limit, interruptEnable := true }

theorem test_rejected_record : (record 0).inRange = false ∧ (record 4).inRange = true := by decide

/-! ### Small states -/

def r₁ : Resource := 0x400012

/-- A MEMBER station 7 under an accepted record with span limit 4. -/
def member : State :=
  { State.reset with
    config := { record 4 with accepted := true, digest := some 0x1234, spanLimit := 4 }
    member := { MembershipUnit.reset .member with
      ownTag := some 5, beaconTimer := some 0, fenceTimer := some 0 } }

def inState (st : StationState) : State := member.setStation st

/-- Station 9's record, with its silence timer due. -/
def withPeer (s : State) (p : Presence) (tag : Option Tag) : State := s.setRecord 9 ⟨p, tag, 3, some 0⟩

def entries (l : List LockEntry) : State := member.withLock ⟨l, [], [], 9⟩

def linked (s : State) (l : LinkState) : State := s.withLink ⟨l, 0, 0, .recessive⟩

def queued (s : State) (l : List FrameRecord) : State := s.withQueue ⟨l, 9⟩

def holds : LockEntry := ⟨1, r₁, .holding 0 1 13 16 false, []⟩
def hands : LockEntry := ⟨1, r₁, .handing 13 16 14 (some 0), []⟩
def lost : LockEntry := ⟨1, r₁, .lost 0 2, []⟩
def waitsHere : LockEntry := ⟨2, r₁, .waiting 1 3 14 7 none (some 0) none, []⟩
def waitsThere : LockEntry := ⟨2, r₁, .waiting 1 3 14 9 (some 3) (some 0) (some 0), []⟩
def claims : LockEntry := ⟨3, r₁, .claiming 2 4 .limited (some 0) none, []⟩
def retries : LockEntry := ⟨3, r₁, .claiming 2 4 .wait none (some 0), []⟩
def defers : LockEntry := ⟨4, r₁, .deferred 3 5 .wait none, []⟩
def defersNowait : LockEntry := ⟨5, r₁, .deferred 4 6 .nowait none, []⟩

/-- An entry against which a CANCEL and then its deadline are held. -/
def heldBack (e : LockEntry) : LockEntry := { e with held := [.cancel, .deadline] }

def claimFrame (e : LockEntry) (attempts : Nat) : FrameRecord :=
  ⟨.claim, .lock (.entry e.id), 1, attempts, none, false⟩
def grantFrame : FrameRecord := ⟨.grant, .lock (.entry 1), 1, 7, none, false⟩
def queryFrame : FrameRecord := ⟨.query, .lock (.query 6), 1, 7, none, false⟩
def memberFrame (c : FrameContent) (attempts : Nat) : FrameRecord :=
  ⟨c.kind, .membership, 1, attempts, some c, false⟩

def query₆ : PendingQuery := ⟨6, 2, r₁, false⟩

/-- A taking of slot 0 with a request is due. -/
def posted (s : State) (kind : BitVec 3) (context : BitVec 4) (policy : BitVec 2) (limit : BitVec 16)
    (target : Byte) : State :=
  (s.setSlot 0 ⟨.filled, kind, true, context, policy, r₁, limit, target, .absent⟩).withRing
    { (s.setSlot 0 ⟨.filled, kind, true, context, policy, r₁, limit, target, .absent⟩).ring with
      endIx := 1 }

def acquire (s : State) (context : BitVec 4) : State := posted s 1 context 1 0 0

/-- A frame of station 9 in its answer field. -/
def answering (c : FrameContent) : LinkState := .listeningAnswer ⟨9, c, false, none, none⟩

/-- The state that a command leads to, and the state itself where it stops. -/
def after (c : Instr) (s : State) : State :=
  match exec c s with
  | .next t => t
  | .fault _ => s
  | .refused _ => s

/-! ### One run of each family -/

theorem test_acquire_claims :
    (after .taking (acquire member 2)).lock.entries = [⟨0, r₁, .claiming 2 0 .wait none none, []⟩] ∧
      (after .taking (acquire member 2)).queue.frames
        = [⟨.claim, .lock (.entry 0), 0, 0, none, false⟩] ∧
      (after .taking (acquire member 2)).ring.current = 1 := by decide +kernel

/-- An answer field in which no other station drives. -/
def silence : AnswerLine := ⟨BitVec.allOnes 28, nominalEnd 32 true⟩

def claimAnswered : State :=
  after (.answerEnd silence)
    (linked (queued (entries [claims]) [claimFrame claims 0])
      (.sendingAnswer ⟨1, .claim r₁ 2 none false⟩))

theorem test_claim_answered_none_is_granted :
    claimAnswered.lock.entries = [⟨3, r₁, .holding 2 1 0 1 false, []⟩] ∧
      (claimAnswered.slot 4).result.code = some .granted := by decide +kernel

def claimDemanded : State :=
  after .answerStart (linked (entries [holds]) (answering (.claim r₁ 1 none false)))

theorem test_holder_answers_held :
    claimDemanded.drivenAnswer = some (answerBits .held 7 16) ∧
      claimDemanded.lock.entries = [{ holds with state := .holding 0 1 13 17 false }] := by
  decide +kernel

def beaconHeard : State :=
  after (.vetoSlotEnd (linkFrame 9 (.beacon 8)) (.ends false (nominalEnd 32 true))) (linked member .listening)

theorem test_beacon_heard_is_peer_up :
    beaconHeard.record 9 = ⟨.present, some 8, 0, some 100000⟩ ∧
      beaconHeard.notices.records = [⟨.peerUp 9, false⟩] := by decide +kernel

/-- R115, R126: the JOIN of another digest, the LEAVE in its veto slot. -/
def joinVetoed : State :=
  after (.vetoSlotEnd (linkFrame 9 (.join 8 0x4321)) (.ends false (nominalEnd 32 false)))
    (after .leave (after (.vetoSlotEnd (linkFrame 9 (.join 8 0x4321)) .checked) (linked member .listening)))

theorem test_veto_is_decided_with_the_last_check_bit :
    joinVetoed.member.station = .leaving ∧ (joinVetoed.record 9).state = .unknown ∧
      joinVetoed.link = ⟨.idle, 8, 0, .recessive⟩ := by decide +kernel

/-- R109, R124: the last check bit's pulse, released late, is a loss of synchronization that stops the veto. -/
def vetoStopped : State :=
  after .lossOfSynchronization
    (after (.vetoSlotEnd (linkFrame 9 (.join 8 0x4321)) .checked) (linked member .listening))

theorem test_last_check_bit_is_measured :
    (linked member (.vetoSlot true)).pulseCommands 31 true = [.lossOfSynchronization] ∧
      (linked member (.vetoSlot true)).pulseCommands 24 true = [] ∧
      (linked member (.vetoSlot true)).pulseCommands 31 false = [] ∧
      (linked member (.vetoSlot true)).edgeCommands 25 false true
        = [.lossOfSynchronization, .lead .lineFalls] ∧
      (linked member (.vetoSlot true)).edgeCommands 28 false true = [] ∧
      (linked member (.vetoSlot true)).edgeCommands 25 false false = [] ∧
      vetoStopped.link = ⟨.seeking, 0, 0, .recessive⟩ ∧ vetoStopped.drivesVeto = false ∧
      vetoStopped.member.station = .joining := by decide +kernel

/-- R110, R116, R120: a sender sends a CLAIM's 63 bits, the veto slot among them, and then 28 bits of 1; a vetoer and
a responder write into the bits of another's frame. -/
theorem test_line_drives :
    (linked member (.sending ⟨1, .claim r₁ 2 none false⟩)).sentBits.map (fun l => (l.length, l.getLast?))
        = some (63, some true) ∧
      (linked member (.sendingAnswer ⟨1, .query r₁⟩)).lineDrive = .sends (List.replicate 28 true) ∧
      ((linked member (.vetoSlot true)).lineDrive.pulses 32, (linked member (.vetoSlot false)).lineDrive.pulses 32)
        = ([24], [0]) ∧
      claimDemanded.lineDrive = .writes (bitsOf (answerBits .held 7 16)) ∧
      (linked member .leading).lineDrive.pulses 32 = [64] ∧ (linked member .listening).lineDrive = .released ∧
      (LineDrive.sends [true, false]).pulses 32 = [8, 24] := by decide +kernel

/-- R111, R120: a BEACON whose veto slot's pulse outlasts it, and the release of that pulse 5 µs later. -/
def tailHeard : State :=
  after (.vetoSlotEnd (linkFrame 9 (.beacon 8)) (.ends false .dominant)) (linked member .listening)

theorem test_idle_runs_from_the_last_release :
    beaconHeard.link = ⟨.idle, 24, 0, .recessive⟩ ∧ tailHeard.link = ⟨.idle, 0, 0, .tail⟩ ∧
      tailHeard.tick.link.idle = 0 ∧ tailHeard.pulseCommands 60 false = [.lead .lineRises] ∧
      (after (.lead .lineRises) tailHeard.tick).link = ⟨.idle, 0, 0, .recessive⟩ := by decide +kernel

def started : State := after .start (after .commit { State.reset with config := record 4 })

theorem test_commit_then_start :
    started.member.station = .joining ∧ started.member.ownTag = some 1 ∧ started.link.state = .seeking ∧
      started.config.digest = some (groupDigest (record 4)) := by decide +kernel

/-! ### States that meet the hypotheses of the statements, clause by clause -/

theorem meets_StepRunsTheFrontCommand : (member.withPending [.commit]).pending = .commit :: [] := rfl

theorem meets_EmptyQueueRunsADueEventOrTheClock :
    State.reset.pending = [] ∧ State.reset.due = [] ∧
      (posted State.reset 0 0 0 0 0).due = [.taking] ∧ 2 ≤ member.due.length := by decide +kernel

theorem meets_StationEventsLeaveHostSideAlone :
    exec .taking member = .next member ∧ exec .leadHeard member = .next member ∧
      exec .beaconTimerExpiry member = .next (after .beaconTimerExpiry member) := ⟨rfl, rfl, rfl⟩

theorem meets_RestartReturnsEveryBlockButTheRecord :
    State.reset.resetHeld = false ∧ State.reset.member.station = .unconfigured ∧
      member.member.station ≠ .unconfigured := by decide

theorem meets_ResetPinPowerOnAndRelease :
    (after .resetPin member).resetHeld = true ∧ member.resetHeld = false := by decide

theorem meets_CommitAcceptsAndRejects :
    State.reset.config.accepted = false ∧ (record 4).InRanges ∧ ¬ (record 0).InRanges ∧
      (record 4).accepted = false ∧ member.config.accepted = true := by
  simp only [ConfigRecord.InRanges]; decide

theorem meets_OnlyItsCommandsChangeTheRecord :
    exec .start member = .next member ∧ (∀ o v, Instr.start ≠ .configurationWrite o v) :=
  ⟨rfl, fun _ _ h => nomatch h⟩

theorem meets_StartAndLeave :
    (inState .offline).member.station = .offline ∧ (inState .refused).member.station = .refused ∧
      (inState .joining).member.station ≠ .offline ∧ member.member.station = .member ∧
      member.member.fenceTimer.isSome = true ∧ member.own ≠ 0 ∧ member.member.ownTag = some 5 ∧
      member.queue.frames = [] ∧ member.resetHeld = false := by decide

/-- A MEMBER whose BEACON is queued and whose DEPART of station 9 is pending, with the link idle. -/
def fences : State :=
  (linked (queued (withPeer member .present (some 8)) [memberFrame (.beacon 5) 0]) .idle).withDeparts [(9, 8)]

theorem meets_FenceAndLeave_of_a_busy_member :
    fences.member.station = .member ∧ fences.member.fenceTimer.isSome = true ∧ fences.own ≠ 0 ∧
      fences.resetHeld = false ∧ fences.link.state ≠ .off ∧ fences.link.state ≠ .seeking ∧
      fences.member.ownTag = some 5 ∧ fences.config.digest = some 0x1234 ∧ fences.FramesAfterFence = [] ∧
      (9 : StationNo) ∈ fences.withdrawnDeparts ∧ (fences.record 9).state = .present ∧
      (4 : StationNo) ∉ fences.withdrawnDeparts ∧ (fences.record 4).state ≠ .present ∧
      member.link.state = .off := by decide +kernel

theorem test_fence_queues_the_join :
    (after .fenceTimerExpiry fences).queue.frames
        = [⟨.join, .membership, 9, 0, some (.join 6 0x1234), false⟩] ∧
      (after .fenceTimerExpiry fences).record 9 = ⟨.present, some 8, 3, some 100000⟩ := by decide +kernel

theorem meets_SlotWriteIsTakenOrRefusedByTheSlotState :
    (∀ w ∈ ([(1, 5), (10, 6)] : List (Fin 16 × Byte)), w.1.val < 2 ∨ 10 ≤ w.1.val) ∧
      (∃ w ∈ ([(9, 5)] : List (Fin 16 × Byte)), 2 ≤ w.1.val ∧ w.1.val < 10) ∧
      ((member.setSlot 3 ⟨.pending, 1, true, 0, 1, r₁, 0, 0, .absent⟩).slot 3).state = .pending ∧
      (member.slot 3).state ≠ .pending ∧
      (∃ w ∈ ([(3, 5)] : List (Fin 16 × Byte)), w.1.val = 2 ∨ w.1.val = 3) ∧
      (∀ w ∈ ([(4, 5)] : List (Fin 16 × Byte)), w.1.val ≠ 2 ∧ w.1.val ≠ 3) := by
  refine ⟨by simp, by simp, by decide +kernel, by decide +kernel, by simp, by simp⟩

theorem meets_EndWriteAndPostLock :
    (23 : Byte).toNat < 24 ∧ 24 ≤ (24 : Byte).toNat ∧ (1 : Byte) ≠ 0 ∧ (4 : Byte).getLsbD 2 = true ∧
      (3 : Byte).getLsbD 2 = false := by decide

def noticed (l : List Notice) (fixed : Option Notice) : State :=
  (member.withNotices ⟨l, false⟩).withPort ⟨fixed, []⟩

theorem meets_PopReadReturnsTheFixedHeadAndRemovesIt :
    (noticed [] none).notices.records = [] ∧ (noticed [⟨.left, false⟩] none).notices.records
      = ⟨.left, false⟩ :: [] ∧ (noticed [] (some ⟨.left, true⟩)).port.popRecord = some ⟨.left, true⟩ ∧
      (4 : Fin 12).val + 7 < 12 ∧ (4 : Fin 12).val + 8 = 12 ∧ 12 ≤ (4 : Fin 12).val + 9 ∧
      (noticed [] none).port.popRecord = none := by
  decide

theorem meets_IgnoredWriteChangesNothing :
    ([0x013, 0x042, 0x100, 0x10A, 0x280, 0xFFF] : List (BitVec 12)).all (fun a =>
      0x012 < a.toNat ∧ a.toNat ≠ 0x018 ∧ a.toNat ≠ 0x040 ∧ a.toNat ≠ 0x043 ∧ a.toNat ≠ 0x044 ∧
      ¬ ((0x100 ≤ a.toNat ∧ a.toNat < 0x280) ∧ 2 ≤ a.toNat % 16 ∧ a.toNat % 16 < 10)) = true := by decide

theorem meets_WriteTransactionGroupsItsBytes : (0x80 : Byte).msb = true := by decide

theorem meets_NoticesEnterTheQueueAndDriveIrq :
    (noticed (List.replicate 15 ⟨.left, false⟩) none).notices.records.length < 16 ∧
      16 ≤ (noticed (List.replicate 16 ⟨.left, false⟩) none).notices.records.length := by decide

/-- Slot 0 in a state, with END at 1. -/
def slotIn (st : SlotState) : State :=
  (member.setSlot 0 ⟨st, 1, true, 0, 1, r₁, 0, 0, .absent⟩).withRing
    { (member.setSlot 0 ⟨st, 1, true, 0, 1, r₁, 0, 0, .absent⟩).ring with endIx := 1 }

theorem meets_TakingHandlesUnfilledAndPendingSlots :
    member.ring.current = member.ring.endIx ∧ (slotIn .empty).ring.stalled = false ∧
      (slotIn .empty).ring.current ≠ (slotIn .empty).ring.endIx ∧
      ((slotIn .empty).slot 0).state = .empty ∧ ((slotIn .done).slot 0).state = .done ∧
      ((slotIn .pending).slot 0).state = .pending := by decide +kernel

theorem meets_RequestsAreMalformed :
    ∀ s ∈ [posted member 0 0 0 0 0, posted member 5 0 0 0 0, posted member 1 8 1 0 0,
        posted member 2 8 0 0 0, posted member 1 0 3 0 0, posted member 1 0 2 0 0,
        posted member 4 0 0 0 24],
      s.ring.stalled = false ∧ s.ring.current ≠ s.ring.endIx ∧ (s.slot s.ring.current).state = .filled ∧
      (let x := s.slot s.ring.current
       (x.kind.toNat = 0 ∨ 5 ≤ x.kind.toNat) ∨
        ((x.kind = 1 ∨ x.kind = 2) ∧ 7 < x.context.toNat) ∨ (x.kind = 1 ∧ x.policy = 3) ∨
        (x.kind = 1 ∧ x.policy = 2 ∧ x.waitLimit = 0) ∨ (x.kind = 4 ∧ 23 < x.target.toNat)) := by
  decide +kernel

theorem meets_RequestsCarryTheirFields :
    ∀ x ∈ [(posted member 1 7 2 1 0).slot 0, (posted member 1 7 0 0 0).slot 0,
        (posted member 1 7 1 0 0).slot 0], x.kind = 1 ∧ x.context.toNat = (7 : Context).val ∧
        (x.policy = 0 ∨ x.policy = 1 ∨ (x.policy = 2 ∧ x.waitLimit ≠ 0)) := by decide +kernel

theorem meets_RequestsOfTheOtherKinds :
    ((posted member 2 7 0 0 0).slot 0).kind = 2 ∧ ((posted member 2 7 0 0 0).slot 0).context.toNat = 7 ∧
      ((posted member 3 0 0 0 0).slot 0).kind = 3 ∧ ((posted member 4 0 0 0 23).slot 0).kind = 4 ∧
      ((posted member 4 0 0 0 23).slot 0).target.toNat = (23 : SlotIx).val := by decide +kernel

/-- The ACQUIRE of a context, by a table. -/
def acquires (l : List LockEntry) (context : BitVec 4) : State := acquire (entries l) context

def acquireOf (c : Context) : Request := .acquire c r₁ .wait none

theorem meets_AcquireStepsOneToSixInOrder :
    (acquire (inState .joining) 0).TakesRequest (acquireOf 0) ∧
      (acquire (inState .joining) 0).member.station ≠ .member ∧
      (let s := acquire (member.withConfig { member.config with policyVector := 0 }) 0
       s.TakesRequest (acquireOf 0) ∧ s.config.permits 0 r₁ = false) ∧
      (let s := acquires [holds] 0
       s.TakesRequest (acquireOf 0) ∧ s.config.permits 0 r₁ = true ∧ s.entryOf 0 r₁ = some holds) ∧
      (acquires [{ holds with state := .holding 0 255 13 16 false }] 0).TakesRequest (acquireOf 0) ∧
      (acquires [lost] 0).entryOf 0 r₁ = some lost ∧
      (acquires [claims] 2).entryOf 2 r₁ = some claims ∧ claims.slot.isSome = true ∧
      (acquires [lost] 1).entryOf 1 r₁ = none ∧
      (acquires [lost] 1).lock.entries.find? (fun x => decide (x.resource = r₁) && x.isLost)
        = some lost := by
  simp only [State.TakesRequest]; decide +kernel

/-- Four entries of context 0, and thirty-two entries of other contexts, on other resources. -/
def atLimit : List LockEntry :=
  (List.range 4).map (fun n => ⟨n, BitVec.ofNat 24 n, .holding 0 1 0 1 false, []⟩)
def fullTable : List LockEntry :=
  (List.range 32).map (fun n => ⟨n, BitVec.ofNat 24 n, .handing 0 2 1 none, []⟩)

theorem meets_AcquireStepFiveAndSix :
    (acquires atLimit 0).TakesRequest (acquireOf 0) ∧ (acquires atLimit 0).entryOf 0 r₁ = none ∧
      (∀ e ∈ (acquires atLimit 0).lock.entries, e.resource = r₁ → e.isLost = false) ∧
      ((acquires atLimit 0).config.holdLimits[(0 : Context)]).toNat
        ≤ (acquires atLimit 0).countedEntries 0 ∧
      (acquires fullTable 0).entryOf 0 r₁ = none ∧
      (acquires fullTable 0).countedEntries 0
        < ((acquires fullTable 0).config.holdLimits[(0 : Context)]).toNat ∧
      32 ≤ (acquires fullTable 0).lock.entries.length := by
  simp only [State.TakesRequest]; decide +kernel

theorem meets_AcquireUnderAHolderEntry :
    (∀ l ∈ [[holds], [hands]],
      (acquires l 5).ReachesStepSeven 5 r₁ .wait none ∧ (acquires l 5).holderOf r₁ = l.head? ∧
      (acquires l 5).lock.wants = [] ∧
      (∀ f ∈ (acquires l 5).queue.frames, f.owner ≠ .lock (.entry (acquires l 5).lock.takings))) ∧
      (posted (entries [holds]) 1 5 0 0 0).ReachesStepSeven 5 r₁ .nowait none ∧
      (holds.issue - holds.serve - 1).toNat < (acquires [holds] 5).spanLimit ∧
      (let h : LockEntry := { holds with state := .holding 0 1 13 18 false }
       (acquires [h] 5).ReachesStepSeven 5 r₁ .wait none ∧ (acquires [h] 5).holderOf r₁ = some h ∧
       (acquires [h] 5).spanLimit ≤ (h.issue - h.serve - 1).toNat) := by
  simp only [State.ReachesStepSeven, State.TakesRequest]; decide +kernel

theorem meets_AcquireWithoutAHolderEntry :
    (∀ l ∈ [[claims], [], [waitsThere]],
      (acquires l 5).ReachesStepSeven 5 r₁ .wait none ∧ (acquires l 5).holderOf r₁ = none ∧
      (acquires l 5).lock.wants.contains (.entry (acquires l 5).lock.takings) = false ∧
      (∀ f ∈ (acquires l 5).queue.frames, f.owner ≠ .lock (.entry (acquires l 5).lock.takings))) ∧
      (∃ e ∈ (acquires [claims] 5).lock.entries, e.resource = r₁ ∧ e.isClaiming = true) ∧
      (∀ e ∈ (acquires [waitsThere] 5).lock.entries, e.resource = r₁ → e.isClaiming = false) := by
  simp only [State.ReachesStepSeven, State.TakesRequest]; decide +kernel

def sixFrames (s : State) : State :=
  queued s ((List.range 6).map (fun n => ⟨.query, .lock (.query (50 + n)), n, 0, none, false⟩))

theorem meets_sixLockFrames :
    6 ≤ (sixFrames (acquire member 5)).queue.frames.countP (fun f => f.kind.isLock) ∧
      (sixFrames (acquire member 5)).ReachesStepSeven 5 r₁ .wait none := by
  simp only [State.ReachesStepSeven, State.TakesRequest]; decide +kernel

/-- The slots that entries and queries name, PENDING. -/
def named (s : State) : State :=
  s.namedSlots.foldl (fun s i => s.setSlot i { s.slot i with state := .pending }) s

/-- The RELEASE, QUERY and CANCEL of a table. -/
def releases (l : List LockEntry) (context : BitVec 4) : State := posted (entries l) 2 context 0 0 0

theorem meets_ReleaseThatKeepsOrFindsNoLock :
    (releases [] 0).TakesRequest (.release 0 r₁) ∧ (releases [] 0).entryOf 0 r₁ = none ∧
      (releases [claims] 2).TakesRequest (.release 2 r₁) ∧
      (releases [claims] 2).entryOf 2 r₁ = some claims ∧ claims.slot.isSome = true ∧
      (releases [{ holds with state := .holding 0 2 13 16 false }] 0).TakesRequest (.release 0 r₁) ∧
      (releases [lost] 0).entryOf 0 r₁ = some lost ∧
      (releases [lost] 0).hasFrame (.entry lost.id) = false := by
  simp only [State.TakesRequest]; decide +kernel

theorem meets_ReleaseOfTheLastAcquisition :
    (releases [holds, waitsHere] 0).TakesRequest (.release 0 r₁) ∧
      (releases [holds, waitsHere] 0).entryOf 0 r₁ = some holds ∧
      (releases [holds, waitsHere] 0).hasFrame (.entry 1) = false ∧
      (releases [holds, waitsHere] 0).lock.wants = [] ∧
      (releases [holds, waitsHere] 0).localWaiter r₁ 14 = some waitsHere ∧
      (releases [holds] 0).localWaiter r₁ 14 = none ∧ (16 - 13 - 1 : Ticket) ≠ 0 ∧
      (releases [{ holds with state := .holding 0 1 13 14 false }] 0).TakesRequest (.release 0 r₁) ∧
      (14 - 13 - 1 : Ticket) = 0 ∧
      (let s := named (releases [holds, waitsHere] 0)
       s.TakesRequest (.release 0 r₁) ∧ s.entryOf 0 r₁ = some holds ∧
       s.localWaiter r₁ 14 = some waitsHere ∧ s.PendingSlotsAreNamed) := by
  simp only [State.TakesRequest, State.PendingSlotsAreNamed]; decide +kernel

theorem meets_localWaiters (s : State) (h : s.own = 7) :
    s.CountsAsLocal r₁ 14 waitsHere ∧ ¬ s.CountsAsLocal r₁ 14 holds ∧
      (named (releases [holds, waitsHere] 0)).lock.entries = [holds] ++ waitsHere :: [] ∧
      waitsHere.Unmoved s.own :=
  ⟨⟨rfl, 1, 3, 7, none, some 0, none, rfl, .inl h.symm⟩,
    fun ⟨_, _, _, _, _, _, _, e, _⟩ => (nomatch e), by decide +kernel, h.symm⟩

/-- The GRANT of station 9 that this station has taken is in its answer field. -/
def granted : State :=
  linked (withPeer (entries [holds, waitsThere]) .present (some 8))
    (.listeningAnswer ⟨9, .grant r₁ 13 16, true, none, some 1⟩)

theorem meets_localWaiters_of_a_grant : granted.CountsAsLocal r₁ 14 waitsThere :=
  ⟨rfl, 1, 3, 9, some 3, some 0, some 0, rfl,
    .inr ⟨⟨9, .grant r₁ 13 16, true, none, some 1⟩, 13, 16, rfl, rfl, (nomatch ·), rfl, by decide +kernel⟩⟩

theorem meets_QueryIsAnsweredLocallyOrSent :
    (posted (inState .leaving) 3 0 0 0 0).TakesRequest (.query r₁) ∧
      (posted (entries [hands]) 3 0 0 0 0).TakesRequest (.query r₁) ∧
      (posted (entries [hands]) 3 0 0 0 0).holderOf r₁ = some hands ∧
      (posted (entries [lost]) 3 0 0 0 0).TakesRequest (.query r₁) ∧
      (posted (entries [lost]) 3 0 0 0 0).holderOf r₁ = none := by
  simp only [State.TakesRequest]; decide +kernel

/-- The CANCEL of a slot, of a station that waits with a CLAIM and a QUERY. -/
def cancels (target : Byte) (link : LinkState) : State :=
  posted (linked (queued (member.withLock ⟨[claims], [query₆], [], 9⟩) [claimFrame claims 0, { queryFrame with age := 2 }])
    link) 4 0 0 0 target

theorem meets_CancelActsOrIsHeld :
    (∀ i ∈ [(4 : SlotIx), 2, 9], ∀ l ∈ [LinkState.idle, .sending ⟨1, .query r₁⟩, .sending ⟨2, .query r₁⟩],
      (cancels (BitVec.ofNat 8 i.val) l).TakesRequest (.cancel i)) ∧
      (cancels 9 .idle).entryAt 9 = none ∧ (cancels 9 .idle).queryAt 9 = none ∧
      (cancels 4 .idle).entryAt 4 = some claims ∧
      (cancels 4 (.sending ⟨1, .query r₁⟩)).ownerOnLink (.entry 3) = true ∧
      (cancels 4 .idle).ownerOnLink (.entry 3) = false ∧
      (cancels 2 .idle).entryAt 2 = none ∧ (cancels 2 .idle).queryAt 2 = some query₆ ∧
      (cancels 2 (.sending ⟨2, .query r₁⟩)).ownerOnLink (.query 6) = true ∧
      (cancels 2 .idle).ownerOnLink (.query 6) = false := by
  simp only [State.TakesRequest]; decide +kernel

theorem meets_CancelActsOrIsHeld_named :
    (named (cancels 4 .idle)).TakesRequest (.cancel 4) ∧ (named (cancels 4 .idle)).PendingSlotsAreNamed ∧
      (named (cancels 4 .idle)).entryAt 4 = some claims ∧
      (named (cancels 4 .idle)).ownerOnLink (.entry 3) = false ∧
      (named (cancels 2 .idle)).TakesRequest (.cancel 2) ∧ (named (cancels 2 .idle)).PendingSlotsAreNamed ∧
      (named (cancels 2 .idle)).entryAt 2 = none ∧
      (named (cancels 2 .idle)).queryAt 2 = some query₆ ∧
      (named (cancels 2 .idle)).ownerOnLink (.query 6) = false := by
  simp only [State.TakesRequest, State.PendingSlotsAreNamed]; decide +kernel

/-- The CANCEL of a claim that has a DEFERRED sibling and a queued frame; and of a waiter that wants its probe. -/
def cancelsBeside (l : List LockEntry) (frames : List FrameRecord) (wants : List Owner) (target : Byte) : State :=
  named (posted (linked (queued (member.withLock ⟨l, [], wants, 9⟩) frames) .idle) 4 0 0 0 target)

theorem meets_CancelActsOrIsHeld_beside_others :
    (let s := cancelsBeside [claims, defers, defersNowait] [claimFrame claims 0] [] 4
     s.TakesRequest (.cancel 4) ∧ s.PendingSlotsAreNamed ∧ s.entryAt 4 = some claims ∧
     s.ownerOnLink (.entry 3) = false ∧ s.OneFrame (.entry 3) ∧ s.ClaimsAlone claims ∧ s.SiblingsOffLink r₁ ∧
     s.lock.entries.find? (fun x => decide (x.resource = r₁) && x.isDeferred) = some defers) ∧
    (let s := cancelsBeside [waitsThere, defers] [] [.entry 2] 3
     s.TakesRequest (.cancel 3) ∧ s.PendingSlotsAreNamed ∧ s.entryAt 3 = some waitsThere ∧
     s.ownerOnLink (.entry 2) = false ∧ s.OneFrame (.entry 2)) := by
  simp only [State.TakesRequest, State.PendingSlotsAreNamed, State.OneFrame, State.ClaimsAlone,
    State.SiblingsOffLink]
  decide +kernel

theorem test_cancel_of_a_claim :
    (let t := after .taking (cancelsBeside [claims, defers, defersNowait] [claimFrame claims 0] [] 4)
     t.lock.entries = [{ defers with state := .claiming 3 5 .wait none none }, defersNowait] ∧
     t.queue.frames = [⟨.claim, .lock (.entry 4), 9, 0, none, false⟩] ∧
     t.notices.records = [⟨.completed 0 .accepted, false⟩]) := by decide +kernel

theorem meets_DeadlineExpiryEndsTheWaitOrIsHeld :
    (entries [defers]).entryAt 5 = some defers ∧ defers.deadline = none ∧
      (cancels 4 (.sending ⟨1, .query r₁⟩)).entryAt 4 = some claims ∧ claims.deadline.isSome = true ∧
      .deadline ∉ claims.held ∧
      (entries [waitsThere]).entryAt 3 = some waitsThere ∧ waitsThere.deadline.isSome = true ∧
      waitsThere.isClaiming = false ∧ (entries [waitsThere]).ownerOnLink (.entry 2) = false ∧
      (entries [claims, defers]).UniqueIds ∧ (entries [claims, defers]).lock.wants = [] ∧
      (entries [claims, defers]).holderOf r₁ = none ∧
      (∀ x ∈ (entries [claims, defers]).lock.entries, x.resource = r₁ → x.isClaiming = true → x = claims) ∧
      (entries [claims, defers]).lock.entries.find?
        (fun x => decide (x.resource = r₁) && x.isDeferred) = some defers := by
  simp only [State.UniqueIds]; decide +kernel

/-- Waiters of a station, named, whose probe is queued, or wanted. -/
def probes : State := queued (named (entries [waitsThere])) [claimFrame waitsThere 0]
def wantsProbe : State := member.withLock ⟨[waitsThere], [], [.entry 2], 9⟩

theorem meets_DeadlineExpiry_with_a_probe :
    probes.entryAt 3 = some waitsThere ∧ probes.ownerOnLink (.entry 2) = false ∧
      probes.PendingSlotsAreNamed ∧ probes.lock.wants = [] ∧
      probes.queue.frames = [claimFrame waitsThere 0] ∧
      (claimFrame waitsThere 0).owner = .lock (.entry waitsThere.id) ∧
      wantsProbe.entryAt 3 = some waitsThere ∧ wantsProbe.queue.frames = [] ∧
      wantsProbe.ownerOnLink (.entry 2) = false := by
  simp only [State.PendingSlotsAreNamed]; decide +kernel

theorem meets_DeadlineExpiry_of_a_claim :
    (named (entries [claims, defers])).entryAt 4 = some claims ∧ claims.deadline.isSome = true ∧
      (named (entries [claims, defers])).ownerOnLink (.entry 3) = false ∧
      (named (entries [claims, defers])).PendingSlotsAreNamed := by
  simp only [State.PendingSlotsAreNamed]; decide +kernel

theorem meets_ProbeAndGrantRetryExpiriesWantTheirFrames :
    (entries [waitsThere]).entryAt 3 = some waitsThere ∧
      (entries [waitsThere]).entry 2 = some waitsThere ∧ waitsHere.probe = none ∧
      (entries [hands]).holderOf r₁ = some hands ∧ (entries [hands]).entry 1 = some hands ∧
      (entries [holds]).holderOf r₁ = some holds ∧ holds.grantRetry = none := by decide +kernel

theorem meets_ClaimRetryExpiryEvaluatesAgain :
    (∀ l ∈ [[retries], [retries, { claims with id := 8, state := .claiming 6 6 .wait none none }],
        [holds, retries], [{ holds with state := .holding 0 1 13 18 false }, retries]],
      (entries l).entryAt 4 = some retries ∧ (entries l).UniqueIds ∧ (entries l).lock.wants = [] ∧
      (∀ f ∈ (entries l).queue.frames, f.owner ≠ .lock (.entry retries.id)) ∧
      (∀ x ∈ (entries l).lock.entries, x.resource = retries.resource → x.isDeferred = false)) ∧
      (entries [retries]).holderOf r₁ = none ∧
      (entries [holds, retries]).holderOf r₁ = some holds ∧
      (holds.issue - holds.serve - 1).toNat < (entries []).spanLimit ∧
      (entries []).spanLimit ≤ ((18 : Ticket) - 13 - 1).toNat := by
  simp only [State.UniqueIds]; decide +kernel

theorem meets_ClaimRetryExpiry_with_siblings :
    ∀ l ∈ [[retries, defers], [holds, retries, defers, defersNowait],
        [holds, { retries with state := .claiming 2 4 .nowait none (some 0) }, defers],
        [{ holds with state := .holding 0 1 13 18 false }, retries, defers]],
      ∃ e ∈ l, e.isClaiming = true ∧ (named (entries l)).entryAt 4 = some e ∧ (named (entries l)).UniqueIds ∧
        (named (entries l)).PendingSlotsAreNamed ∧ (named (entries l)).lock.wants = [] ∧
        (named (entries l)).queue.frames = [] := by
  simp only [State.UniqueIds, State.PendingSlotsAreNamed]; decide +kernel

theorem test_claim_retry_places_the_siblings :
    (after (.claimRetryExpiry 4) (named (entries [holds, retries, defers, defersNowait]))).lock.entries
      = [{ holds with state := .holding 0 1 13 18 false },
          { retries with state := .waiting 2 4 16 7 none none none },
          { defers with state := .waiting 3 5 17 7 none none none }] := by decide +kernel

theorem meets_MembershipTimersWantTheirFrames :
    ((withPeer member .present (some 8)).record 9).silence.isSome = true ∧
      (member.record 9).silence = none ∧ (9 : StationNo) ≠ member.own ∧
      (∀ f ∈ (queued member [memberFrame (.beacon 5) 0]).queue.frames, f.departsOther 7 = false) ∧
      (∃ f ∈ (queued member [memberFrame (.depart 9 8) 0]).queue.frames, f.departsOther 7 = true) ∧
      member.member.departs = [] ∧ (inState .joining).member.station = .joining ∧
      member.member.beaconTimer.isSome = true ∧ member.member.ownTag = some 5 ∧
      (inState .leaving).member.station ≠ .member := by decide +kernel

theorem meets_LeadTakesTheHeadFrameAndIdleIsRegained :
    (linked (queued (entries [claims]) [claimFrame claims 0]) .leading).contentOf (claimFrame claims 0)
        = some (.claim r₁ 2 none false) ∧
      (claimFrame claims 0).withdrawn = false ∧
      ((memberFrame (.beacon 5) 0).kind.cls.toNat < (claimFrame claims 0).kind.cls.toNat) ∧
      (∀ f ∈ [{ claimFrame claims 0 with withdrawn := true }], f.withdrawn = true) ∧
      (linked (inState .joining) .seeking).member.ownTag = some 5 ∧
      (linked (inState .joining) .seeking).config.digest = some 0x1234 ∧
      (linked member .seeking).link.line = .recessive ∧ tailHeard.link.state = .idle ∧ tailHeard.link.line = .tail ∧
      tailHeard.link.line ≠ .pulse ∧
      (after (.lead .lineFalls) (linked member .seeking)).link = ⟨.seeking, 0, 0, .pulse⟩ ∧
      (after (.lead .lineFalls) (linked member .idle)).link = ⟨.idle, 0, 0, .pulse⟩ := by decide +kernel

def attempting (f : FrameRecord) (c : FrameContent) (l : List LockEntry) (st : StationState) : State :=
  (linked (queued ((inState st).withLock ⟨l, [query₆], [], 9⟩) [f]) (.sending ⟨1, c⟩))

theorem meets_AttemptsThatFailAreCounted :
    (attempting (claimFrame claims 6) (.query r₁) [claims] .member).frameAt 1
        = some (claimFrame claims 6) ∧
      (claimFrame claims 6).withdrawn = false ∧ (claimFrame claims 6).attempts + 1 < 8 ∧
      (attempting (claimFrame claims 6) (.query r₁) [claims] .member).NothingHeld
        (claimFrame claims 6).owner := by
  refine ⟨by decide +kernel, by decide, by decide, ?_⟩
  intro e h
  have : e = claims := by
    have h' : (attempting (claimFrame claims 6) (.query r₁) [claims] .member).entry 3 = some claims := by
      decide +kernel
    exact Option.some.inj (h.symm.trans h')
  rw [this]; rfl

theorem meets_FailsBy (f : FrameRecord) (c : FrameContent) (l : List LockEntry) (st : StationState) :
    FailsBy (attempting f c l st) ⟨1, c⟩ .collision
        { (attempting f c l st).link with state := .listening } ∧
      FailsBy (attempting f c l st) ⟨1, c⟩ (.vetoSlotEnd (linkFrame 9 c) (.ends true (nominalEnd 32 false)))
        (LinkAfterFrame (nominalEnd 32 false)) :=
  ⟨.inl ⟨.inr rfl, rfl, rfl⟩, .inr ⟨rfl, linkFrame 9 c, nominalEnd 32 false, rfl, rfl⟩⟩

theorem meets_AttemptEnds (s : State) (o : OwnFrame) (h : s.link.state = .arbitrating o) :
    AttemptEnds s o .arbitrationLost { s.link with state := .listening } := .inr ⟨h, rfl, rfl⟩

/-- Marked frames: a BEACON and a DEPART of station 9, in JOINING. -/
def marked (c : FrameContent) : State :=
  attempting { memberFrame c 0 with withdrawn := true } c [] .joining

theorem meets_markedFrames :
    (∀ c ∈ [FrameContent.beacon 5, .depart 9 8],
      (marked c).frameAt 1 = some { memberFrame c 0 with withdrawn := true } ∧
      (marked c).lock.wants = [] ∧ (marked c).member.departs = []) ∧
      ({ memberFrame (.beacon 5) 0 with withdrawn := true } : FrameRecord).departsOther 7 = false ∧
      ({ memberFrame (.depart 9 8) 0 with withdrawn := true } : FrameRecord).departNamed = some 9 ∧
      (9 : StationNo) ≠ (marked (.depart 9 8)).own := by decide +kernel

/-- A CLAIM and a QUERY on the link with an action held behind each. -/
def claimHeld : State :=
  named (attempting (claimFrame claims 0) (.claim r₁ 2 none false)
    [{ claims with held := [.deadline, .cancel] }] .member)
def queryHeld : State :=
  (attempting { queryFrame with attempts := 0 } (.query r₁) [] .member).withQueries
    [{ query₆ with heldCancel := true }]

theorem meets_heldActions :
    claimHeld.frameAt 1 = some (claimFrame claims 0) ∧ (claimFrame claims 0).attempts + 1 < 8 ∧
      claimHeld.entry 3 = some { claims with held := [.deadline, .cancel] } ∧
      claims.slot = some 4 ∧ claimHeld.PendingSlotsAreNamed ∧
      claimHeld.queue.frames = [claimFrame claims 0] ∧
      queryHeld.frameAt 1 = some { queryFrame with attempts := 0 } ∧
      queryHeld.query 6 = some { query₆ with heldCancel := true } := by
  simp only [State.PendingSlotsAreNamed]; decide +kernel

/-- A CLAIM on the link among the station's entries. -/
def claimAttempt (attempts : Nat) (l : List LockEntry) (e : LockEntry) : State :=
  named (attempting (claimFrame e attempts) (.claim r₁ 2 none false) l .member)

theorem meets_failed_claims_among_others :
    (∀ p ∈ [(0, heldBack claims), (7, claims), (7, heldBack claims)],
      (let s := claimAttempt p.1 [p.2, defers, defersNowait] p.2
       s.frameAt 1 = some (claimFrame p.2 p.1) ∧ s.entry 3 = some p.2 ∧ s.PendingSlotsAreNamed ∧
       s.ClaimsAlone p.2 ∧ s.lock.wants = [] ∧ s.queue.frames = [claimFrame p.2 p.1] ∧ 1 < s.queue.nextAge ∧
       s.lock.entries.find? (fun x => decide (x.resource = r₁) && x.isDeferred) = some defers)) ∧
    (let s := claimAttempt 7 [heldBack waitsThere, defers] (heldBack waitsThere)
     s.frameAt 1 = some (claimFrame waitsThere 7) ∧ s.entry 2 = some (heldBack waitsThere) ∧
     s.lock.wants = []) := by
  simp only [State.PendingSlotsAreNamed, State.ClaimsAlone]; decide +kernel

theorem test_abandoned_claim_lets_its_sibling_claim :
    (let t := after .collision (claimAttempt 7 [heldBack claims, defers, defersNowait] claims)
     t.lock.entries = [{ defers with state := .claiming 3 5 .wait none none }, defersNowait] ∧
     (t.slot 4).result.code = some .linkFail) := by decide +kernel

theorem meets_EighthFailure_of_membership_frames :
    (∀ f ∈ [memberFrame (.depart 7 5) 7, memberFrame (.beacon 5) 7, memberFrame (.depart 9 8) 7],
      (attempting f (.query r₁) [] .leaving).frameAt 1 = some f ∧ f.withdrawn = false ∧
      7 ≤ f.attempts ∧ f.owner = .membership ∧
      (attempting f (.query r₁) [] .leaving).FramesWithout 1 = []) ∧
      (attempting (memberFrame (.depart 7 5) 7) (.query r₁) [] .leaving).own = 7 ∧
      ((attempting (memberFrame (.depart 9 8) 7) (.query r₁) [] .member).withDeparts [(4, 0)]).frameAt 1
        = some (memberFrame (.depart 9 8) 7) := by decide +kernel

theorem meets_EighthFailureAbandonsTheFrame :
    (∀ f ∈ [claimFrame claims 7, claimFrame waitsThere 7, grantFrame, queryFrame,
        memberFrame (.join 5 0x1234) 7],
      (attempting f (.query r₁) [claims] .joining).frameAt 1 = some f ∧ f.withdrawn = false ∧
      7 ≤ f.attempts) ∧
      (attempting (claimFrame claims 7) (.query r₁) [claims] .member).entry 3 = some claims ∧
      (attempting (claimFrame waitsThere 7) (.query r₁) [waitsThere] .member).entry 2 = some waitsThere ∧
      (attempting grantFrame (.query r₁) [hands] .member).entry 1 = some hands ∧
      (attempting queryFrame (.query r₁) [] .member).query 6 = some query₆ ∧
      (attempting (memberFrame (.join 5 0x1234) 7) (.query r₁) [] .joining).member.station = .joining := by
  decide +kernel

theorem meets_FramesThatPassAreTheFramesThatAreSent :
    (linkFrame 9 (.query r₁)).payload.length = (linkFrame 9 (.query r₁)).length.toNat ∧
      (linkFrame 9 (.query r₁)).check = computedCheck (linkFrame 9 (.query r₁)) ∧
      frameContent (linkFrame 9 (.query r₁)) = some (.query r₁) ∧ (9 : StationNo) ≠ 0 := by
  decide +kernel

theorem meets_VetoSlotDropsAFrameOrPassesItOn :
    (linked member .listening).link.state = .listening ∧
      (⟨2, 9, 5, 3, [0, 0, 0], 0⟩ : LinkFrame).check ≠ computedCheck ⟨2, 9, 5, 3, [0, 0, 0], 0⟩ ∧
      frameContent ⟨2, 9, 7, 0, [], 0⟩ = none ∧
      frameContent (linkFrame 9 (.join 8 0x4321)) = some (.join 8 0x4321) ∧
      member.config.digest = some 0x1234 ∧ (FrameContent.query r₁).kind.isLock = true ∧
      (FrameContent.beacon 8).kind.isLock = false ∧ member.member.station ≠ .leaving ∧
      (linked member (.vetoSlot true)).drivesVeto = true ∧
      (after (.vetoSlotEnd (linkFrame 9 (.query r₁)) .checked) (linked member .listening)).link.state
        = .vetoSlot false := by
  decide +kernel

/-- A frame that this station does not veto. -/
theorem meets_notFinds : ¬ (linked member .listening).Finds (linkFrame 9 (.beacon 8)) := by
  rintro (h | h | ⟨g, d, d', h, -, -, -⟩)
  · exact absurd h (by decide +kernel)
  · exact absurd h (by decide +kernel)
  · exact absurd (h.symm.trans (show _ = some (.beacon 8) by decide +kernel)) (by simp)

theorem meets_MembershipFramesHeard :
    (linked (withPeer member .present (some 8)) .listening).Hears 9 ∧
      ((withPeer member .present (some 8)).record 9).state = .present ∧
      ((withPeer member .present none).record 9).tag = none ∧
      ((withPeer member .absent none).record 9).state ≠ .present ∧
      (linked (entries [waitsThere]) .listening).Hears 9 ∧
      (entries [waitsThere]).UniqueIds ∧
      ((withPeer member .present (some 8)).record 9).tag = some 8 ∧ (8 : Tag) ≠ 6 := by
  simp only [State.Hears, State.UniqueIds]; decide +kernel

/-- A MEMBER that listens beside its queued DEPART of station 9, with another pending. -/
def departing : State :=
  (linked (queued (withPeer member .present (some 8)) [memberFrame (.depart 9 8) 0]) .listening).withDeparts
    [(9, 8), (4, 0)]

/-- A CLAIM of station 9 in its answer field, its record ABSENT or PRESENT, a DEPART of it queued; one of the own
number; and frames of that number heard. -/
theorem meets_frames_of_any_sender :
    (∀ p ∈ [Presence.absent, .present],
      (let s := linked (queued (withPeer member p none) [memberFrame (.depart 9 8) 0]) (answering (.claim r₁ 1 none false))
       s.link.state = answering (.claim r₁ 1 none false) ∧ (9 : StationNo) ≠ s.own ∧
       memberFrame (.depart 9 8) 0 ∈ s.queue.frames ∧ s.FramesWithout 1 = [])) ∧
      (FrameContent.claim r₁ 1 none false).kind = .claim ∧ (FrameContent.grant r₁ 1 2).kind = .grant ∧
      (linked (withPeer member .present (some 8)) .listening).HearsFrom member.own ∧
      (linked (withPeer member .absent none) (.vetoSlot false)).HearsFrom 9 ∧
      (linked (withPeer member .present (some 8)) .listening).HearsFrom 4 ∧
      departing.HearsFrom member.own ∧ member.own = 7 := by
  simp only [State.HearsFrom]; decide +kernel

theorem test_depart_of_another_by_an_unknown_station :
    (after (.vetoSlotEnd (linkFrame 4 (.depart 9 0)) (.ends false (nominalEnd 32 true)))
      (linked (withPeer member .present (some 8)) .listening)).notices.records
        = [⟨.peerUp 4, false⟩, ⟨.peerDown 9 .heard, false⟩] := by decide +kernel

theorem test_depart_of_the_own_number :
    (let t := after (.vetoSlotEnd (linkFrame 7 (.depart 9 0)) (.ends false (nominalEnd 32 true)))
      (linked (withPeer member .present (some 8)) .listening)
     t.notices.records = [⟨.peerDown 9 .heard, false⟩] ∧ t.record 7 = member.record 7) := by decide +kernel

theorem meets_HearsBeside : ∀ x ∈ [(9 : StationNo), 4],
    departing.HearsBeside x 9 (memberFrame (.depart 9 8) 0) ∧ departing.NoneWaitsOn x ∧
      (departing.record 9).state = .present ∧ (departing.record 9).tag = some 8 ∧
      departing.config.digest = some 0x1234 := by
  have h : departing.FramesWithout 1 = [] := by decide +kernel
  refine fun x hx => ⟨⟨.inl rfl, ?_, by decide +kernel, by decide +kernel, fun f hf => ?_⟩,
    fun _ h => (nomatch h), by decide +kernel, by decide +kernel, rfl⟩
  · revert x; decide
  · exact nomatch h ▸ hf

theorem test_depart_withdrawn :
    (after (.vetoSlotEnd (linkFrame 9 (.beacon 8)) (.ends false (nominalEnd 32 true))) departing).queue.frames
      = [⟨.depart, .membership, 9, 0, some (.depart 4 0), false⟩] := by decide +kernel

/-- The own DEPART of station 9 at its veto slot, with another pending. -/
def departSent : State :=
  (withPeer (attempting (memberFrame (.depart 9 8) 0) (.depart 9 8) [] .member) .present (some 8)).withDeparts
    [(4, 0)]

theorem meets_OwnDepartAccepted :
    departSent.link.state = .sending ⟨1, .depart 9 8⟩ ∧ departSent.own = 7 ∧
      departSent.frameAt 1 = some (memberFrame (.depart 9 8) 0) ∧ (departSent.record 9).state = .present ∧
      (departSent.record 9).tag = some 8 ∧ departSent.FramesWithout 1 = [] ∧
      departSent.lock.entries = [] ∧ departSent.member.departs = [(4, 0)] := by decide +kernel

theorem meets_OwnMembershipFramesAccepted :
    ∀ p ∈ [(FrameContent.join 5 0x1234, StationState.joining), (.beacon 5, .member),
        (.depart 7 5, .leaving)],
      (attempting (memberFrame p.1 0) p.1 [] p.2).link.state = .sending ⟨1, p.1⟩ ∧
      (attempting (memberFrame p.1 0) p.1 [] p.2).own = 7 ∧
      (attempting (memberFrame p.1 0) p.1 [] p.2).frameAt 1 = some (memberFrame p.1 0) ∧
      (attempting (memberFrame p.1 0) p.1 [] p.2).member.station = p.2 := by decide +kernel

theorem meets_HolderAnswersClaimsProbesAndQueries :
    (linked (entries [holds]) (answering (.query r₁))).holderOf r₁ = some holds ∧
      (linked (entries [hands]) (answering (.query r₁))).holderOf r₁ = some hands ∧
      (entries [waitsThere]).holderOf r₁ = none ∧
      (holds.issue - holds.serve - 1).toNat < member.spanLimit ∧
      member.spanLimit ≤ ((18 : Ticket) - 13 - 1).toNat ∧
      1 ≤ ((15 : Ticket) - 13).toNat ∧ ((15 : Ticket) - 13).toNat < ((16 : Ticket) - 13).toNat ∧
      ¬ (1 ≤ ((13 : Ticket) - 13).toNat) := by decide +kernel

theorem meets_GrantIsTakenByTheWaiterItOffers :
    (let s := linked (withPeer (entries [waitsThere]) .present (some 8)) (answering (.grant r₁ 14 16))
     s.holderOf r₁ = none ∧ s.lock.entries.find? (s.MayTake 9 r₁ 14) = some waitsThere ∧
     1 ≤ ((16 : Ticket) - 14).toNat ∧ ((16 : Ticket) - 14).toNat ≤ s.spanLimit ∧
     s.spanLimit < ((19 : Ticket) - 14).toNat) ∧
      (∀ e ∈ (entries [waitsHere]).lock.entries,
        (entries [waitsHere]).MayTake 9 r₁ 14 e = false) := by decide +kernel

/-- Five lock-engine frames beside the one of age 1. -/
def five : List FrameRecord :=
  (List.range 5).map (fun n => ⟨.query, .lock (.query (50 + n)), n + 2, 0, none, false⟩)

/-- The GRANT that station 9 offers a waiter whose probe is one of six lock-engine frames, a want waiting. -/
def grantBesideProbe : State :=
  named (linked (queued (withPeer (member.withLock ⟨[waitsThere], [query₆], [.query 6], 9⟩) .present (some 8))
    (claimFrame waitsThere 0 :: five)) (answering (.grant r₁ 14 16)))

theorem meets_GrantIsTaken_with_a_probe :
    grantBesideProbe.lock.entries.find? (grantBesideProbe.MayTake 9 r₁ 14) = some waitsThere ∧
      grantBesideProbe.holderOf r₁ = none ∧ claimFrame waitsThere 0 ∈ grantBesideProbe.queue.frames ∧
      grantBesideProbe.OneFrame (.entry 2) ∧ .entry 2 ∉ grantBesideProbe.lock.wants ∧
      grantBesideProbe.SixLockFrames 1 ∧ grantBesideProbe.WantsKind (.query 6) .query ∧
      grantBesideProbe.lock.wants = [.query 6] := by
  simp only [State.OneFrame, State.SixLockFrames]
  exact ⟨by decide +kernel, by decide +kernel, by decide +kernel, by decide +kernel, by decide +kernel,
    by decide +kernel, rfl, by decide +kernel⟩

theorem test_grant_taken_frees_the_probe :
    (after .answerStart grantBesideProbe).queue.frames.length = 6 ∧
      (after .answerStart grantBesideProbe).lock.wants = [] := by decide +kernel

/-- The CLAIM of an entry in its answer field. -/
def claimSent (e : LockEntry) (c : Context) (probe : Option Ticket) : State :=
  linked (queued (entries [e]) [claimFrame e 0]) (.sendingAnswer ⟨1, .claim e.resource c probe false⟩)

theorem meets_FreshClaimOutcomes : ∀ e ∈ [claims, heldBack claims],
    (claimSent e 2 none).ClaimInAnswer 1 e 2 none false := by
  simp only [List.forall_mem_cons]
  refine ⟨?_, ?_, fun _ h => nomatch h⟩ <;>
  refine ⟨rfl, ⟨claimFrame claims 0, rfl, rfl, rfl, rfl⟩, by decide, ?_, by decide, by decide, rfl,
    by decide⟩ <;>
  simp only [State.UniqueIds] <;> decide

theorem meets_ProbeOutcomes : ∀ e ∈ [waitsThere, heldBack waitsThere],
    (claimSent e 1 (some 14)).ClaimInAnswer 1 e 1 (some 14) false := by
  simp only [List.forall_mem_cons]
  refine ⟨?_, ?_, fun _ h => nomatch h⟩ <;>
  refine ⟨rfl, ⟨claimFrame waitsThere 0, rfl, rfl, rfl, rfl⟩, by decide, ?_, by decide, by decide, rfl,
    by decide⟩ <;>
  simp only [State.UniqueIds] <;> decide

/-- 2.8: B's CLAIM with the CANCEL held is answered HELD: B is gone, CANCELLED, and C claims. -/
theorem test_held_cancel_after_held :
    (let t := after (.answerEnd ⟨answerBits .held 9 15, nominalEnd 32 true⟩)
        (named (linked (queued (entries [heldBack claims, defersNowait]) [claimFrame claims 0])
          (.sendingAnswer ⟨1, .claim r₁ 2 none false⟩)))
     t.lock.entries = [{ defersNowait with state := .claiming 4 6 .nowait none none }] ∧
     (t.slot 4).result.code = some .cancelled) := by decide +kernel

theorem test_held_cancel_after_none :
    (after (.answerEnd silence) (claimSent (heldBack claims) 2 none)).lock.entries
      = [{ claims with state := .holding 2 1 0 1 false }] := by decide +kernel

/-- The CLAIM of an entry in its answer field, among the station's other entries and a pending QUERY. -/
def claimAmong (e : LockEntry) (others : List LockEntry) (c : Context) (probe : Option Ticket) : State :=
  named (linked (queued (member.withLock ⟨e :: others, [query₆], [], 9⟩) [claimFrame e 0])
    (.sendingAnswer ⟨1, .claim e.resource c probe false⟩))

theorem claimAmong_named :
    (∀ e ∈ [claims, heldBack claims],
      (claimAmong e [defers, defersNowait, waitsThere] 2 none).PendingSlotsAreNamed) ∧
      (∀ e ∈ [waitsThere, heldBack waitsThere],
        (claimAmong e [claims, defers] 1 (some 14)).PendingSlotsAreNamed) := by
  simp only [State.PendingSlotsAreNamed]; decide +kernel

theorem meets_FreshClaim_among_others : ∀ e ∈ [claims, heldBack claims],
    (claimAmong e [defers, defersNowait, waitsThere] 2 none).ClaimAmongOthers 1 e 2 none false ∧
      (claimAmong e [defers, defersNowait, waitsThere] 2 none).ClaimsAlone e ∧
      [e, defers, defersNowait, waitsThere].find?
        (fun x => decide (x.resource = r₁) && x.isDeferred) = some defers := by
  intro e he
  have hn := claimAmong_named.1 e he
  revert e
  simp only [List.forall_mem_cons]
  refine ⟨fun h => ?_, fun h => ?_, fun _ h => nomatch h⟩ <;>
  exact ⟨⟨rfl, ⟨claimFrame claims 0, by decide +kernel, rfl, rfl, rfl⟩, by decide +kernel, h,
    by decide +kernel, by decide +kernel, by decide +kernel⟩, ⟨by decide +kernel, by decide +kernel⟩,
    by decide⟩

theorem meets_Probe_among_others : ∀ e ∈ [waitsThere, heldBack waitsThere],
    (claimAmong e [claims, defers] 1 (some 14)).ClaimAmongOthers 1 e 1 (some 14) false := by
  intro e he
  have hn := claimAmong_named.2 e he
  revert e
  simp only [List.forall_mem_cons]
  refine ⟨fun h => ?_, fun h => ?_, fun _ h => nomatch h⟩ <;>
  exact ⟨rfl, ⟨claimFrame waitsThere 0, by decide +kernel, rfl, rfl, rfl⟩, by decide +kernel, h,
    by decide +kernel, by decide +kernel, by decide +kernel⟩

/-- The marked CLAIM of an entry on the link, among the station's other entries. -/
def claimMarked (e : LockEntry) (others : List LockEntry) (l : LinkState) : State :=
  named (linked (queued (member.withLock ⟨e :: others, [query₆], [], 9⟩)
    [{ claimFrame e 0 with withdrawn := true }]) l)

/-- Its answer field, and the frame before it. -/
def markedLinks : List LinkState :=
  [.sendingAnswer ⟨1, .claim r₁ 2 none false⟩, .sending ⟨1, .claim r₁ 2 none false⟩]

theorem claimMarked_named : ∀ e ∈ [claims, waitsThere, heldBack claims, heldBack waitsThere], ∀ l ∈ markedLinks,
    ∀ others ∈ [[defers], [holds, defers]], (claimMarked e others l).PendingSlotsAreNamed := by
  simp only [State.PendingSlotsAreNamed]; decide +kernel

theorem meets_marked_claims : ∀ l ∈ markedLinks, ∀ others ∈ [[defers], [holds, defers]],
    (∀ e ∈ [claims, heldBack claims], (claimMarked e others l).PlacedBehind 1 e
        { claimFrame e 0 with withdrawn := true } 2 4 .limited (some 0)) ∧
      (∀ e ∈ [waitsThere, heldBack waitsThere], (claimMarked e others l).PlacedBehind 1 e
        { claimFrame e 0 with withdrawn := true } 1 3 .limited (some 0)) := fun l hl o ho =>
  ⟨fun e he => ⟨by revert l o e; decide +kernel, rfl, rfl, by revert l o e; decide +kernel,
      by revert e; decide, by revert l o e; decide +kernel,
      claimMarked_named e (by revert e; decide) l hl o ho, by revert l o e; decide +kernel,
      by revert l o e; decide +kernel⟩,
    fun e he => ⟨by revert l o e; decide +kernel, rfl, rfl, by revert l o e; decide +kernel,
      by revert e; decide, by revert l o e; decide +kernel,
      claimMarked_named e (by revert e; decide) l hl o ho, by revert l o e; decide +kernel,
      by revert l o e; decide +kernel⟩⟩

theorem meets_marked_claims_alone : ∀ l ∈ markedLinks,
    (claimMarked (heldBack claims) [defers] l).ClaimsAlone (heldBack claims) ∧
      (claimMarked (heldBack claims) [defers] l).lock.entries.find?
        (fun x => decide (x.resource = r₁) && x.isDeferred) = some defers := by
  simp only [State.ClaimsAlone]; decide +kernel

theorem meets_holders_of_marked_claims : ∀ l ∈ markedLinks,
    (claimMarked claims [holds, defers] l).holderOf r₁ = some holds ∧
      (claimMarked claims [defers] l).holderOf r₁ = none ∧
      (∀ x ∈ (claimMarked claims [defers] l).lock.entries, x.resource = r₁ → x.isClaiming = true →
        x = claims) := by decide +kernel

/-- R4, R13: a release hands the lock on while a CLAIM is on the link; and then the CLAIM's answer. -/
def releasesBehind : State :=
  named (posted (linked (queued (entries [holds, waitsHere, claims, defers]) [claimFrame claims 0])
    (.sendingAnswer ⟨1, .claim r₁ 2 none false⟩)) 2 0 0 0 0)

def handedOn : State := after .taking releasesBehind

theorem meets_ReleaseOfTheLastAcquisition_behind_a_claim :
    releasesBehind.TakesRequest (.release 0 r₁) ∧ releasesBehind.entryOf 0 r₁ = some holds ∧
      releasesBehind.hasFrame (.entry 1) = false ∧ releasesBehind.lock.wants = [] ∧
      releasesBehind.lock.entries = [holds] ++ waitsHere :: [claims, defers] ∧
      releasesBehind.PendingSlotsAreNamed ∧ releasesBehind.ownerOnLink (.entry 3) = true ∧
      (claims.Moved releasesBehind.own).isSome = true ∧
      releasesBehind.queue.frames = [claimFrame claims 0] := by
  simp only [State.TakesRequest, State.PendingSlotsAreNamed]; decide +kernel

theorem test_placed_claim_is_marked_and_discarded :
    handedOn.queue.frames = [{ claimFrame claims 0 with withdrawn := true }] ∧
      claims ∈ handedOn.lock.entries ∧
      (after (.answerEnd silence) handedOn).entry 3
        = some { claims with state := .waiting 2 4 17 7 none (some 0) none } := by decide +kernel

theorem meets_answersOfAClaim :
    decodeAnswer .claim (BitVec.allOnes 28) = .none ∧
      decodeAnswer .claim (answerBits .held 9 14) = .code .held 9 14 ∧
      decodeAnswer .claim (answerBits .requeued 9 14) = .code .requeued 9 14 ∧
      decodeAnswer .claim (answerBits .busy 9 0) = .code .busy 9 0 ∧
      decodeAnswer .claim 0 = .damaged ∧ (9 : StationNo) ≠ member.own := by decide +kernel

theorem meets_GrantOutcomes :
    (let s := linked (queued (entries [hands, waitsHere]) [grantFrame]) (.sendingAnswer ⟨1, .grant r₁ 14 16⟩)
     s.frameAt 1 = some grantFrame ∧ hands ∈ s.lock.entries ∧ s.UniqueIds ∧ s.lock.wants = [] ∧
     (∀ x ∈ s.lock.entries, x.resource = r₁ → x = hands ∨ x = waitsHere) ∧
     (∀ f ∈ s.queue.frames, f.owner = .lock (.entry 1) → f.age = 1)) ∧
      (14 + 1 : Ticket) ≠ 16 ∧
      decodeAnswer .grant (answerBits .taken 9 7) = .code .taken 9 7 ∧
      decodeAnswer .grant (answerBits .held 9 7) = .damaged := by
  simp only [State.UniqueIds]; decide +kernel

/-- A GRANT in its answer field that carries issue 15, where the HANDING entry's is now 16, beside a local
waiter and an entry in retry pending, with a want waiting. -/
def grantBeside : State :=
  linked (queued (member.withLock ⟨[hands, waitsHere, retries], [query₆], [.query 6], 9⟩) (grantFrame :: five))
    (.sendingAnswer ⟨1, .grant r₁ 14 15⟩)

theorem meets_GrantOutcomes_beside_others :
    grantBeside.frameAt 1 = some grantFrame ∧ grantBeside.UniqueIds ∧ grantBeside.SixLockFrames 1 ∧
      grantBeside.WantsKind (.query 6) .query ∧ .entry 1 ∉ grantBeside.lock.wants ∧
      (∀ f ∈ grantBeside.queue.frames, f.owner = .lock (.entry 1) → f.age = 1) := by
  refine ⟨by decide +kernel, ?_, ?_, rfl, by decide, by decide +kernel⟩
  · simp only [State.UniqueIds]; decide +kernel
  · simp only [State.SixLockFrames]; decide +kernel

theorem meets_GrantOutcomes_entries : ∀ x ∈ grantBeside.lock.entries, x.resource = hands.resource →
    x = hands ∨ grantBeside.WaitsHere hands.resource x ∨ x.RetriesClaim hands.resource := by
  intro x hx _
  rcases List.mem_cons.1 hx with rfl | hx
  · exact .inl rfl
  · rcases List.mem_cons.1 hx with rfl | hx
    · exact .inr (.inl ⟨rfl, 1, 3, 14, none, some 0, none, rfl⟩)
    · exact .inr (.inr (List.mem_singleton.1 hx ▸ ⟨rfl, 2, 4, .wait, none, 0, rfl⟩))

theorem test_admission_before_the_outcome :
    (after (.answerEnd silence) grantBeside).lock.wants = [.entry 1] ∧
      (after (.answerEnd silence) grantBeside).queue.frames
        = five ++ [⟨.query, .lock (.query 6), 9, 0, none, false⟩] := by decide +kernel

/-- A QUERY in its answer field among six lock-engine frames, with a want waiting. -/
def queryBeside : State :=
  linked (queued (member.withLock ⟨[claims], [query₆], [.entry 3], 9⟩) (queryFrame :: five))
    (.sendingAnswer ⟨1, .query query₆.resource⟩)

theorem meets_QueryOutcomes_admission :
    queryBeside.frameAt 1 = some queryFrame ∧ queryBeside.query 6 = some query₆ ∧
      queryBeside.SixLockFrames 1 ∧ queryBeside.WantsKind (.entry 3) .claim ∧
      .query 6 ∉ queryBeside.lock.wants ∧
      (∀ g ∈ queryBeside.queue.frames, g.owner = .lock (.query 6) → g.age = 1) := by
  refine ⟨by decide +kernel, by decide +kernel, ?_, ⟨claims, by decide +kernel, rfl⟩, by decide,
    by decide +kernel⟩
  simp only [State.SixLockFrames]; decide +kernel

theorem meets_QueryOutcomes :
    (let s := linked (queued (member.withLock ⟨[], [query₆], [], 9⟩) [queryFrame])
        (.sendingAnswer ⟨1, .query query₆.resource⟩)
     s.frameAt 1 = some queryFrame ∧ s.query 6 = some query₆ ∧ s.lock.wants = []) ∧
      decodeAnswer .query (answerBits .holder 9 0x0703) = .code .holder 9 0x0703 ∧
      (0x0703 : BitVec 16).toNat / 256 ≤ 7 ∧ (0x0703 : BitVec 16).toNat % 256 ≤ member.spanLimit := by
  decide +kernel

/-- The same of named slots, where no entry of this station took it. -/
theorem meets_WaitersFollow_named :
    (let s := named (linked (withPeer (entries [waitsThere]) .present (some 8)) (answering (.grant r₁ 13 16)))
     s.link.state = answering (.grant r₁ 13 16) ∧ s.UniqueIds ∧ s.PendingSlotsAreNamed ∧
     waitsThere ∈ s.lock.entries ∧ decodeAnswer .grant (answerBits .taken 4 3) = .code .taken 4 3 ∧
     s.OtherStation 4) := by
  simp only [State.UniqueIds, State.PendingSlotsAreNamed, State.OtherStation]; decide +kernel

theorem meets_WaitersFollowAHeardGrant :
    (let s := linked (withPeer (entries [waitsThere]) .present (some 8)) (answering (.grant r₁ 13 16))
     s.link.state = answering (.grant r₁ 13 16) ∧ s.UniqueIds ∧ (9 : StationNo) ≠ s.own ∧
     waitsThere ∈ s.lock.entries ∧ some (s.record 9).epoch = some 3) := by
  simp only [State.UniqueIds]; decide +kernel

/-- The same where the holding is gone again. -/
def grantedAlone : State := granted.withEntries [waitsThere]

/-- R4, R68: at the answer end of a GRANT that this station took, a waiter that keeps its ticket; and one alone
without a holder entry. -/
theorem meets_WaitersOfATakenGrant :
    (∀ s ∈ [named granted, named grantedAlone], s.PendingSlotsAreNamed) ∧
      (∀ s ∈ [named granted, named grantedAlone], s.UniqueIds ∧ waitsThere ∈ s.lock.entries ∧
        (9 : StationNo) ≠ s.own) ∧
      (named granted).holderOf r₁ = some holds ∧
      (named granted).KeepsItsTicket 9 holds waitsThere = true ∧ (named grantedAlone).holderOf r₁ = none ∧
      waitsThere.Moved (named grantedAlone).own = some (1, 3, .limited, some 0) := by
  refine ⟨?_, ?_, by decide +kernel, by decide +kernel, by decide +kernel, by decide +kernel⟩
  · simp only [State.PendingSlotsAreNamed]; decide +kernel
  · simp only [State.UniqueIds]; decide +kernel

theorem test_taken_grant_makes_the_waiter_local :
    (after (.answerEnd silence) (named granted)).entry 2
      = some { waitsThere with state := .waiting 1 3 14 7 none (some 0) none } := by decide +kernel

/-- A fresh CLAIM on its eighth attempt. -/
def eighthClaim : State := named (attempting (claimFrame claims 7) (.claim r₁ 2 none false) [claims] .member)

theorem meets_LossOfSynchronization_at_a_sender :
    eighthClaim.link.state = .sending ⟨1, .claim r₁ 2 none false⟩ ∧
      eighthClaim.frameAt 1 = some (claimFrame claims 7) ∧ eighthClaim.entry 3 = some claims ∧
      eighthClaim.PendingSlotsAreNamed ∧ eighthClaim.member.station = .member ∧
      (after .collision eighthClaim).link.state = .listening ∧
      (after .collision (attempting (memberFrame (.join 5 0x1234) 7) (.join 5 0x1234) [] .joining)).link.state
        = .off := by
  simp only [State.PendingSlotsAreNamed]; decide +kernel

theorem meets_TruncationDropsAndLossOfSynchronizationFences :
    (linked member .listening).link.state = .listening ∧ (linked member .idle).member.station = .member ∧
      (linked member (.vetoSlot true)).link.state = .vetoSlot true ∧
      (linked (inState .joining) .leading).member.station ≠ .member ∧
      fences.link.state = .idle ∧ fences.member.station = .member ∧ fences.member.ownTag = some 5 ∧
      fences.own ≠ 0 := by decide +kernel

theorem meets_AnswersDecodeToWhatIsSent :
    AnswerCode.held.allowed .claim = true ∧ AnswerCode.held.allowed .grant = false ∧
      (0 : BitVec 28).extractLsb' 0 4 ≠ answerCheck ((0 : BitVec 28).extractLsb' 4 24) := by decide

theorem meets_StepKeeps :
    step member.heldInReset = .next member.heldInReset.tick ∧
      step (member.withPending [.taking]) = .next member ∧ member.WithinCapacities ∧
      member.PopHoldsTheHead :=
  ⟨rfl, rfl, by simp only [State.WithinCapacities]; decide, fun _ h => nomatch h⟩

/-- A JOINING station whose BEACON, marked, is still on the link beside its JOIN, and a MEMBER that wants two
frames. -/
def fencedAtBeacon : State :=
  linked (queued (inState .joining)
    [{ memberFrame (.beacon 5) 0 with withdrawn := true }, { memberFrame (.join 6 0x1234) 0 with age := 2 }])
    (.sending ⟨1, .beacon 5⟩)
def wantsTwo : State := member.withLock ⟨[waitsThere, claims], [query₆], [.entry 2, .query 6], 9⟩

theorem fencedAtBeacon_allows : ∀ f ∈ fencedAtBeacon.queue.frames, f.kind.isLock = false →
    fencedAtBeacon.Allows f := by
  intro f hf _
  rcases List.mem_cons.1 hf with rfl | hf
  · exact .inr ⟨by decide +kernel, rfl⟩
  · exact (List.mem_singleton.1 hf) ▸ .inl rfl

theorem fencedAtBeacon_agrees : ∀ f ∈ fencedAtBeacon.queue.frames,
    f.Agrees ∧ f.age < fencedAtBeacon.queue.nextAge := by
  intro f hf
  rcases List.mem_cons.1 hf with rfl | hf
  · exact ⟨⟨rfl, rfl⟩, by decide⟩
  · exact (List.mem_singleton.1 hf) ▸ ⟨⟨rfl, rfl⟩, by decide⟩

theorem fencedAtBeacon_sends : fencedAtBeacon.SendsWhatIsQueued := by
  rintro o (h | h | h)
  · exact nomatch h
  · cases h
    refine ⟨by decide, fun f hf ha _ => ?_⟩
    rcases List.mem_cons.1 hf with rfl | hf
    · rfl
    · rw [List.mem_singleton.1 hf] at ha; exact absurd ha (by decide)
  · exact nomatch h

theorem meets_QueuesFit_frames : fencedAtBeacon.QueuesFit ∧ fencedAtBeacon.PendingSlotsAreNamed ∧
    fencedAtBeacon.WithinCapacities := by
  refine ⟨⟨⟨by decide, fun o h => nomatch h⟩, fencedAtBeacon_agrees, fencedAtBeacon_allows, ?_,
    ⟨fun _ h => (nomatch h), fun _ => rfl, by decide +kernel, by decide +kernel, fun h => nomatch h⟩,
    fencedAtBeacon_sends⟩, ?_, ?_⟩
  · refine List.pairwise_pair.2 ⟨by decide, fun p q hp hq => ?_⟩
    cases hp; cases hq; rfl
  · simp only [State.PendingSlotsAreNamed]; decide +kernel
  · simp only [State.WithinCapacities]; decide +kernel

theorem meets_QueuesFit_wants : wantsTwo.WantsAreOwned ∧ wantsTwo.SendsWhatIsQueued := by
  refine ⟨⟨by decide, ?_⟩, by rintro o (h | h | h) <;> exact nomatch h⟩
  intro o ho
  rcases List.mem_cons.1 ho with rfl | ho
  · exact ⟨waitsThere, by decide, rfl⟩
  · exact (List.mem_singleton.1 ho) ▸ ⟨query₆, by decide, rfl⟩

theorem meets_StepKeepsOneOwnerAndSpans :
    (entries [holds, waitsHere]).lock.entries.Pairwise (fun a b => a.id ≠ b.id) ∧
      (∀ e ∈ (entries [holds, waitsHere]).lock.entries, e.id < 9) ∧
      (entries [hands]).config.accepted = true ∧ hands.SpanWithin 4 ∧ holds.SpanWithin 4 ∧
      (entries [holds, waitsHere]).WithinHoldLimits ∧ (inState .joining).member.station ≠ .member ∧
      ((inState .joining).withLock ⟨[lost], [], [], 9⟩).LostOutsideMember := by
  refine ⟨by decide, by decide, by decide, ?_, ?_, ?_, by decide, ?_⟩
  · simp only [LockEntry.SpanWithin, hands]; decide
  · simp only [LockEntry.SpanWithin, holds]; decide
  · simp only [State.WithinHoldLimits]; decide +kernel
  · simp only [State.LostOutsideMember]; decide

theorem meets_StepKeepsPendingSlotsNamed :
    (named (entries [holds, waitsHere, defers])).PendingSlotsAreNamed ∧
      (named (entries [holds, waitsHere, defers])).namedSlots = [3, 5] := by
  simp only [State.PendingSlotsAreNamed]; decide +kernel

end Sys2Proof.Tests
end

section
/-! PROOFS. The fields that the hold limit and the policy read (R9, R10). -/

namespace Sys2Proof.Machine
open Sys2Proof

theorem classOf_eq (g : ConfigRecord) (c : Context) :
    g.classOf c = g.contextClasses.toNat / 4 ^ c.val % 4 := by
  rw [ConfigRecord.classOf, BitVec.extractLsb'_toNat, Nat.shiftRight_eq_div_pow, Nat.pow_mul]

theorem resourceClass_eq (r : Resource) : (r.extractLsb' 22 2).toNat = r.toNat / 2 ^ 22 := by
  rw [BitVec.extractLsb'_toNat, Nat.shiftRight_eq_div_pow]
  have := r.isLt
  omega

/-- Settles O29: an entry counts by its state's constructor, and the policy bit's index is read off the two
class fields. -/
theorem acquireChecksCountEntriesAndReadThePolicy :
    Obligations.AcquireChecksCountEntriesAndReadThePolicy := by
  refine ⟨fun s c => congrArg (List.countP · s.lock.entries) (funext fun e => ?_), fun g c r => ?_⟩
  · rcases e with ⟨id, r, st, held⟩
    cases st <;> simp [LockEntry.isCounted, LockEntry.context]
  · rw [ConfigRecord.permits, classOf_eq, resourceClass_eq, BitVec.getLsbD]

end Sys2Proof.Machine
end

section
/-! PROOFS. The conversion of the lock table at the fence and at LEAVE (R17, R18, R104, R106). -/

namespace Sys2Proof.Machine
open Sys2Proof

/-! ### The waiting slots in taking order (R17) -/

theorem insertById_perm (x : Nat × SlotIx) (l : List (Nat × SlotIx)) :
    (insertById x l).Perm (x :: l) := by
  induction l with
  | nil => exact .refl _
  | cons y l ih =>
    unfold insertById
    split
    · exact .refl _
    · exact (ih.cons y).trans (.swap x y l)

theorem foldl_insertById_perm (l acc : List (Nat × SlotIx)) :
    (l.foldl (fun l x => insertById x l) acc).Perm (l ++ acc) := by
  induction l generalizing acc with
  | nil => exact .refl _
  | cons x l ih =>
    exact (ih _).trans (((insertById_perm x acc).append_left l).trans List.perm_middle)

/-- The conversion completes the slots that entries and pending queries name, each as often as it is named. -/
theorem waitingSlots_perm (s : State) : s.waitingSlots.Perm s.namedSlots := by
  have h := (foldl_insertById_perm (s.lock.entries.filterMap (fun e =>
    e.claimant.map (fun c => (c.id, c.slot))) ++ s.lock.queries.map (fun q => (q.id, q.slot))) []).map
      Prod.snd
  refine h.trans (.of_eq ?_)
  simp only [List.append_nil, List.map_append, List.map_map, List.map_filterMap, State.namedSlots]
  congr 1
  refine congrArg (List.filterMap · _) (funext fun e => ?_)
  simp [LockEntry.slot, Function.comp_def]

theorem mem_namedSlots {s : State} {i : SlotIx} : i ∈ s.namedSlots ↔ s.Names i := by
  simp [State.namedSlots, State.Names]

/-! ### A row of completions -/

theorem slot_completeBare_foldl (l : List SlotIx) (s : State) (c : Code) (i : SlotIx) :
    (i ∈ l → ((l.foldl (fun s i => s.completeBare i c) s).slot i).state = .done ∧
      ((l.foldl (fun s i => s.completeBare i c) s).slot i).result = .bare c) ∧
    (i ∉ l → (l.foldl (fun s i => s.completeBare i c) s).slot i = s.slot i) := by
  induction l generalizing s with
  | nil => simp
  | cons j l ih =>
    obtain ⟨hin, hout⟩ := ih (s.completeBare j c)
    rw [List.foldl_cons]
    refine ⟨fun h => ?_, fun h => ?_⟩
    · by_cases hl : i ∈ l
      · exact hin hl
      · obtain rfl : i = j := (List.mem_cons.1 h).resolve_right hl
        rw [hout hl, State.completeBare, slot_complete, if_pos rfl]
        exact ⟨rfl, rfl⟩
    · obtain ⟨hj, hl⟩ := not_or.1 (fun h' => h (List.mem_cons.2 h'))
      rw [hout hl, State.completeBare, slot_complete, if_neg hj]

/-! ### The conversion (R17, R18) -/

/-- A lock-engine frame off the link leaves, one on it is marked; the other frames stay. -/
def State.convertedFrames (s : State) : List FrameRecord :=
  s.queue.frames.filterMap (fun f =>
    if f.kind.isLock then if s.onLink f then some { f with withdrawn := true } else none else some f)

@[simp] theorem convert_lock (s : State) (c : Code) : (s.convert c).lock =
    { s.lock with entries := s.lock.entries.filterMap LockEntry.toLost, queries := [], wants := [] } :=
  foldl_keeps State.lock _ (fun _ _ => complete_lock _ _ _) _ _

@[simp] theorem convert_queue (s : State) (c : Code) :
    (s.convert c).queue = { s.queue with frames := s.convertedFrames } :=
  foldl_keeps State.queue _ (fun _ _ => complete_queue _ _ _) _ _

theorem slot_convert (s : State) (c : Code) (i : SlotIx) :
    (s.Names i → ((s.convert c).slot i).state = .done ∧ ((s.convert c).slot i).result = .bare c) ∧
    (¬ s.Names i → (s.convert c).slot i = s.slot i) := by
  have hmem : i ∈ s.waitingSlots ↔ s.Names i := (waitingSlots_perm s).mem_iff.trans mem_namedSlots
  rw [← hmem]
  exact slot_completeBare_foldl _ _ c i

theorem toLost_eq_converted : LockEntry.toLost = LockEntry.Converted := by
  funext e
  rcases e with ⟨id, r, st, held⟩
  cases st <;> rfl

theorem isLost_of_toLost {e e' : LockEntry} (h : e.toLost = some e') : e'.isLost = true := by
  rcases e with ⟨id, r, st, held⟩
  cases st <;> simp [LockEntry.toLost] at h <;> subst h <;> rfl

theorem convert_entries_lost (s : State) (c : Code) : ∀ e ∈ (s.convert c).lock.entries, e.isLost = true := by
  intro e he
  rw [convert_lock] at he
  obtain ⟨e', -, h⟩ := List.mem_filterMap.1 he
  exact isLost_of_toLost h

theorem filter_lock_convertedFrames (s : State) :
    s.convertedFrames.filter (fun f => f.kind.isLock) =
      ((s.queue.frames.filter (fun f => f.kind.isLock)).filter s.onLink).map
        (fun f => { f with withdrawn := true }) := by
  unfold State.convertedFrames
  induction s.queue.frames with
  | nil => rfl
  | cons f l ih =>
    simp only [List.filterMap_cons, List.filter_cons]
    cases hk : f.kind.isLock
    · simp [hk, ih]
    · cases ho : s.onLink f <;> simp [hk, ho, ih]

/-- What a state shows of a conversion: the lock table, the lock-engine frames and the slots. -/
theorem convertsTo_of_convert {s u t : State} {c : Code} (hlock : u.lock = s.lock) (hring : u.ring = s.ring)
    (hlink : u.link = s.link)
    (hframes : u.queue.frames.filter (fun f => f.kind.isLock) = s.queue.frames.filter (fun f => f.kind.isLock))
    (tlock : t.lock = (u.convert c).lock) (tring : t.ring = (u.convert c).ring)
    (tframes : t.queue.frames.filter (fun f => f.kind.isLock)
      = (u.convert c).queue.frames.filter (fun f => f.kind.isLock)) :
    ConvertsTo s t c := by
  have hslot : ∀ i, t.slot i = (u.convert c).slot i := fun i => by simp only [State.slot, tring]
  have hslot' : ∀ i, u.slot i = s.slot i := fun i => by simp only [State.slot, hring]
  have hnames : ∀ i, u.Names i ↔ s.Names i := fun i => by simp only [State.Names, hlock]
  have honLink : ∀ f, u.onLink f = s.onLink f := fun f => by simp only [State.onLink, hlink]
  refine ⟨?_, ?_, ?_, ?_, fun i hi => ?_, fun i hi => ?_⟩
  · rw [tlock, convert_lock, hlock, toLost_eq_converted]
  · rw [tlock, convert_lock]
  · rw [tlock, convert_lock]
  · rw [tframes, convert_queue, filter_lock_convertedFrames, hframes, List.filter_filter]
    simp only [honLink, Bool.and_comm]
  · rw [hslot]
    exact (slot_convert u c i).1 ((hnames i).2 hi)
  · rw [hslot, (slot_convert u c i).2 (fun h => hi ((hnames i).1 h)), hslot']

/-! ### Before and after the conversion: the membership unit's part (R104, R106) -/

theorem departNamed_eq_some {f : FrameRecord} {x : StationNo} :
    f.departNamed = some x ↔ f.kind = .depart ∧ ∃ t, f.payload = some (.depart x t) := by
  unfold FrameRecord.departNamed
  split
  · simp_all
  · rename_i h
    exact iff_of_false nofun (fun ⟨hk, t, hp⟩ => h x t hk hp)

theorem departsOther_iff {own : StationNo} {f : FrameRecord} :
    f.departsOther own = true ↔ ∃ x, f.departNamed = some x ∧ x ≠ own := by
  unfold FrameRecord.departsOther
  split <;> simp_all

theorem isLock_of_endsWithMembership {own : StationNo} {f : FrameRecord}
    (h : f.endsWithMembership own = true) : f.kind.isLock = false := by
  rcases Bool.or_eq_true _ _ ▸ h with h | h
  · rw [of_decide_eq_true h]; rfl
  · obtain ⟨x, hx, -⟩ := departsOther_iff.1 h
    rw [(departNamed_eq_some.1 hx).1]; rfl

@[simp] theorem setRecord_lock (s : State) (x : StationNo) (r : MemberRecord) :
    (s.setRecord x r).lock = s.lock := by
  unfold State.setRecord; split <;> rfl

@[simp] theorem setRecord_queue (s : State) (x : StationNo) (r : MemberRecord) :
    (s.setRecord x r).queue = s.queue := by
  unfold State.setRecord; split <;> rfl

@[simp] theorem setRecord_ring (s : State) (x : StationNo) (r : MemberRecord) :
    (s.setRecord x r).ring = s.ring := by
  unfold State.setRecord; split <;> rfl

@[simp] theorem setRecord_link (s : State) (x : StationNo) (r : MemberRecord) :
    (s.setRecord x r).link = s.link := by
  unfold State.setRecord; split <;> rfl

@[simp] theorem restartSilenceIfPresent_lock (s : State) (x : StationNo) :
    (s.restartSilenceIfPresent x).lock = s.lock := by
  unfold State.restartSilenceIfPresent State.restartSilence; split <;> simp

@[simp] theorem restartSilenceIfPresent_queue (s : State) (x : StationNo) :
    (s.restartSilenceIfPresent x).queue = s.queue := by
  unfold State.restartSilenceIfPresent State.restartSilence; split <;> simp

@[simp] theorem restartSilenceIfPresent_ring (s : State) (x : StationNo) :
    (s.restartSilenceIfPresent x).ring = s.ring := by
  unfold State.restartSilenceIfPresent State.restartSilence; split <;> simp

@[simp] theorem restartSilenceIfPresent_link (s : State) (x : StationNo) :
    (s.restartSilenceIfPresent x).link = s.link := by
  unfold State.restartSilenceIfPresent State.restartSilence; split <;> simp

/-- The frames that the fence and LEAVE leave before the conversion (R104, R106, R139). -/
def State.framesWithoutMembership (s : State) : List FrameRecord :=
  s.queue.frames.filterMap (fun f =>
    if f.endsWithMembership s.own then
      if s.onLink f then some { f with withdrawn := true } else none
    else some f)

section
variable (s : State)

@[simp] theorem withdrawMembership_lock : s.withdrawMembership.lock = s.lock :=
  foldl_keeps State.lock _ (fun _ _ => restartSilenceIfPresent_lock _ _) _ _

@[simp] theorem withdrawMembership_ring : s.withdrawMembership.ring = s.ring :=
  foldl_keeps State.ring _ (fun _ _ => restartSilenceIfPresent_ring _ _) _ _

@[simp] theorem withdrawMembership_link : s.withdrawMembership.link = s.link :=
  foldl_keeps State.link _ (fun _ _ => restartSilenceIfPresent_link _ _) _ _

@[simp] theorem withdrawMembership_queue :
    s.withdrawMembership.queue = { s.queue with frames := s.framesWithoutMembership } :=
  foldl_keeps State.queue _ (fun _ _ => restartSilenceIfPresent_queue _ _) _ _

/-- The membership unit's withdrawals leave the lock engine's frames as they are. -/
theorem filter_lock_framesWithoutMembership :
    s.framesWithoutMembership.filter (fun f => f.kind.isLock)
      = s.queue.frames.filter (fun f => f.kind.isLock) := by
  unfold State.framesWithoutMembership
  induction s.queue.frames with
  | nil => rfl
  | cons f l ih =>
    rw [List.filterMap_cons, List.filter_cons]
    by_cases he : f.endsWithMembership s.own = true
    · have hk := isLock_of_endsWithMembership he
      cases ho : s.onLink f <;> simp [he, hk, ih]
    · rw [Bool.not_eq_true] at he
      simp [he, ih, List.filter_cons]

@[simp] theorem placeMember_lock (c : FrameContent) : (s.placeMember c).lock = s.lock := by
  unfold State.placeMember; split <;> rfl

@[simp] theorem placeMember_ring (c : FrameContent) : (s.placeMember c).ring = s.ring := by
  unfold State.placeMember; split <;> rfl

/-- A membership frame joins no lock-engine frame. -/
theorem filter_lock_placeMember (c : FrameContent) (hc : c.kind.isLock = false) :
    (s.placeMember c).queue.frames.filter (fun f => f.kind.isLock)
      = s.queue.frames.filter (fun f => f.kind.isLock) := by
  unfold State.placeMember State.placeFrame
  split
  · rfl
  · simp [hc]

/-- R83: where every entry is LOST no waiter is woken. -/
theorem wakeWaiters_of_lost (x : StationNo) (h : ∀ e ∈ s.lock.entries, e.isLost = true) :
    s.wakeWaiters x = s := by
  unfold State.wakeWaiters
  rw [List.filter_eq_nil_iff.2]
  · rfl
  · intro e he
    have hl := h e he
    rcases e with ⟨id, r, st, held⟩
    cases st <;> simp_all [LockEntry.isLost, LockEntry.isRemoteWaiter]

end

theorem wantJoin_lock (s : State) : s.wantJoin.lock = s.lock := by
  unfold State.wantJoin; split <;> simp

theorem wantJoin_ring (s : State) : s.wantJoin.ring = s.ring := by
  unfold State.wantJoin; split <;> simp

theorem filter_lock_wantJoin (s : State) :
    s.wantJoin.queue.frames.filter (fun f => f.kind.isLock)
      = s.queue.frames.filter (fun f => f.kind.isLock) := by
  unfold State.wantJoin
  split
  · exact filter_lock_placeMember _ _ rfl
  · rfl

/-- The fence after its conversion: only the membership unit's frames come and go. -/
theorem fence_after_convert (s : State) (cause : FenceCause) :
    (s.fence cause).lock = (s.withdrawMembership.convert .fenced).lock ∧
    (s.fence cause).ring = (s.withdrawMembership.convert .fenced).ring ∧
    (s.fence cause).queue.frames.filter (fun f => f.kind.isLock)
      = (s.withdrawMembership.convert .fenced).queue.frames.filter (fun f => f.kind.isLock) := by
  have hlost : ∀ e ∈ (s.withdrawMembership.convert .fenced).endOwnRecord.lock.entries,
      e.isLost = true := by
    rw [State.endOwnRecord, setRecord_lock]
    exact convert_entries_lost _ _
  unfold State.fence
  dsimp only
  rw [wakeWaiters_of_lost _ _ hlost]
  split
  · rw [wantJoin_lock, wantJoin_ring, filter_lock_wantJoin]
    simp [State.endOwnRecord]
  · simp [State.endOwnRecord]

theorem fence_convertsTo (s : State) (cause : FenceCause) : ConvertsTo s (s.fence cause) .fenced := by
  obtain ⟨hlock, hring, hframes⟩ := fence_after_convert s cause
  refine convertsTo_of_convert (u := s.withdrawMembership) (by simp) (by simp) (by simp) ?_
    hlock hring hframes
  rw [withdrawMembership_queue]
  exact filter_lock_framesWithoutMembership s

theorem beginLeave_convertsTo (s : State) : ConvertsTo s s.beginLeave .offline := by
  refine convertsTo_of_convert (u := s.withdrawMembership) (by simp) (by simp) (by simp) ?_ ?_ ?_ ?_
  · rw [withdrawMembership_queue]
    exact filter_lock_framesWithoutMembership s
  · exact placeMember_lock _ _
  · exact placeMember_ring _ _
  · exact filter_lock_placeMember _ _ rfl

/-- Settles O12: both run to the conversion between the membership unit's withdrawals and its own frame. -/
theorem fenceAndLeaveConvertTheLockTable : Obligations.FenceAndLeaveConvertTheLockTable := by
  intro s hmember
  refine ⟨fun hreset => ⟨s.beginLeave, ?_, beginLeave_convertsTo s⟩,
    fun htimer => ⟨s.fence .silence, ?_, fence_convertsTo s .silence⟩⟩
  · simp [exec, execLeave, State.atPort, hreset, State.leaveCommand, hmember]
  · simp [exec, execFenceTimerExpiry, hmember, htimer]

end Sys2Proof.Machine
end

section
/-! PROOFS. A COMMIT outside the states that the record's agreement allows (R88, R169). -/

namespace Sys2Proof.Machine

open Sys2Proof

/-- A record in range that has not been accepted. -/
def uncommittedRecord : ConfigRecord :=
  { ConfigRecord.reset with
    stationNumber := 1, beaconInterval := 2, presenceMultiple := 3, probeInterval := 1, spanLimit := 1
    holdLimits := Vector.replicate 8 1 }

/-- A MEMBER that holds a lock while its record has not been accepted, with COMMIT before it. No run from reset comes
here (`State.RecordAgrees` fails), but `State.LostOutsideMember` asks nothing of it. -/
def uncommittedMember : State :=
  { State.reset with
    config  := uncommittedRecord
    member  := .reset .member
    lock    := ⟨[⟨0, 0, .holding 0 1 0 1 false, []⟩], [], [], 1⟩
    pending := [.commit] }

/-- COMMIT takes that station OFFLINE and leaves its lock table as it is. -/
theorem step_uncommittedMember :
    step uncommittedMember = .next (uncommittedMember.withPending []).acceptRecord := by
  have hrange : uncommittedRecord.inRange = true := by decide
  simp [step, uncommittedMember, exec, execCommit, State.atPort, State.commit, State.reset, hrange,
    show uncommittedRecord.accepted = false from rfl]

/-- Refutes O58 in its last part: LOST alone outside MEMBER is not kept by itself. COMMIT takes a station whose
record is not accepted to OFFLINE whatever its state was; in MEMBER, which the agreement of record and station state
excludes there, a HOLDING entry is left outside MEMBER. -/
theorem not_stepKeepsOneOwnerAndSpans : ¬ Obligations.StepKeepsOneOwnerAndSpans := by
  intro h
  obtain ⟨-, -, -, hlost⟩ := h _ _ step_uncommittedMember
  have hmember : uncommittedMember.LostOutsideMember := fun h => absurd rfl h
  obtain ⟨hentries, -⟩ := hlost hmember (by decide)
  exact absurd (hentries ⟨0, 0, .holding 0 1 0 1 false, []⟩ List.mem_cons_self) (by decide)

end Sys2Proof.Machine
end

section
/-! PROOFS. The reset state. -/

namespace Sys2Proof.Machine
open Sys2Proof

theorem slot_reset (i : SlotIx) : State.reset.slot i = Slot.reset := by
  simp [State.slot, State.reset, Ring.reset]

theorem record_reset (x : StationNo) : State.reset.record x = MemberRecord.reset := by
  unfold State.record
  split
  · rfl
  · simp [State.reset, MembershipUnit.reset]

theorem reset_withinCapacities : State.reset.WithinCapacities :=
  ⟨Nat.zero_le _, Nat.zero_le _, Nat.zero_le _⟩

theorem reset_recordAgrees : State.reset.RecordAgrees := by
  refine ⟨?_, rfl, fun h => nomatch h⟩
  simp [State.reset, ConfigRecord.reset, MembershipUnit.reset]

theorem reset_pendingSlotsAreNamed : State.reset.PendingSlotsAreNamed := by
  refine ⟨List.nodup_nil, fun i => ?_, List.nodup_nil, List.nodup_nil, nofun, nofun⟩
  rw [slot_reset]
  exact iff_of_false (fun h => nomatch h) List.not_mem_nil

theorem reset_departsFit : State.reset.DepartsFit := by
  refine ⟨nofun, fun _ => rfl, ?_, reset_recordAgrees.1, fun _ => ⟨rfl, fun x => ?_⟩⟩
  all_goals rw [record_reset]; rfl

theorem reset_queuesFit : State.reset.QueuesFit := by
  refine ⟨⟨List.nodup_nil, nofun⟩, nofun, nofun, .nil, reset_departsFit, ?_⟩
  rintro o (h | h | h) <;> exact nomatch h

theorem reset_spansWithinLimit : State.reset.SpansWithinLimit :=
  ⟨fun _ => rfl, reset_recordAgrees.1, nofun⟩

theorem reset_atRestartValues : State.reset.AtRestartValues := by
  refine ⟨rfl, rfl, rfl, rfl, rfl, rfl, rfl, rfl, rfl, rfl, rfl, rfl, record_reset, slot_reset, rfl,
    rfl, rfl, rfl, rfl, rfl, rfl, rfl, rfl, rfl⟩

/-- Settles O60: the tables, queues and timers are empty and every slot is EMPTY. -/
theorem resetHasWhatEveryStepKeeps : Obligations.ResetHasWhatEveryStepKeeps :=
  ⟨reset_withinCapacities, reset_recordAgrees, nofun, ⟨.nil, nofun⟩, reset_spansWithinLimit,
    fun _ => Nat.zero_le _, fun _ => ⟨nofun, rfl, rfl⟩, reset_pendingSlotsAreNamed, reset_queuesFit,
    reset_atRestartValues⟩

end Sys2Proof.Machine
end

section
/-! PROOFS. The lock engine in small moves. Every operation of the lock engine is a row of `Move`s: one change of one
field, with the conditions under which the kept properties survive it. A property that every move keeps is kept by
every operation (`Moves.keeps`). -/

namespace Sys2Proof.Machine

open Sys2Proof

/-! ### What an entry claims -/

/-- The context and the slot of a state in DEFERRED, CLAIMING or WAITING. -/
def EntryState.claim : EntryState → Option (Context × SlotIx)
  | .deferred c sl _ _ => some (c, sl)
  | .claiming c sl _ _ _ => some (c, sl)
  | .waiting c sl _ _ _ _ _ => some (c, sl)
  | .holding _ _ _ _ _ => none
  | .handing _ _ _ _ => none
  | .lost _ _ => none

theorem slot_eq_claim (e : LockEntry) : e.slot = e.state.claim.map Prod.snd := by
  rcases e with ⟨id, r, st, held⟩
  cases st <;> rfl

theorem claim_of_claimant {e : LockEntry} {c : Claimant} (h : e.claimant = some c) :
    e.state.claim = some (c.context, c.slot) ∧ c.id = e.id ∧ c.resource = e.resource := by
  rcases e with ⟨id, r, st, held⟩
  cases st <;> simp [LockEntry.claimant] at h <;> subst h <;> exact ⟨rfl, rfl, rfl⟩

/-- What a claim says of its entry: it carries the context, names the slot, counts, and neither holds nor is LOST. -/
theorem facts_of_claim {e : LockEntry} {c : Context} {sl : SlotIx} (h : e.state.claim = some (c, sl)) :
    e.context = some c ∧ e.slot = some sl ∧ e.isHolder = false ∧ e.isLost = false ∧ e.isCounted = true := by
  rcases e with ⟨id, r, st, held⟩
  cases st <;> simp [EntryState.claim] at h <;> obtain ⟨rfl, rfl⟩ := h <;> exact ⟨rfl, rfl, rfl, rfl, rfl⟩

theorem facts_of_holder {e : LockEntry} (h : e.isHolder = true) : e.slot = none ∧ e.isLost = false := by
  rcases e with ⟨id, r, st, held⟩
  cases st with
  | holding => exact ⟨rfl, rfl⟩
  | handing => exact ⟨rfl, rfl⟩
  | _ => exact nomatch h

/-! ### The ledger -/

/-- What is known beside the state in the middle of an operation: the PENDING slots that no entry and no query names
just now, a bound for the places in use, and which of the kept properties may be relied on. -/
structure Ledger where
  loose   : Multiset SlotIx
  used    : Nat
  entries : Prop
  queries : Prop
  owners  : Prop
  spans   : Prop
  lost    : Prop

def Ledger.push (b : Ledger) (m : Multiset SlotIx) : Ledger := { b with loose := m + b.loose }

section
variable (b : Ledger) (m n : Multiset SlotIx)

@[simp] theorem Ledger.push_loose : (b.push m).loose = m + b.loose := rfl
@[simp] theorem Ledger.push_used : (b.push m).used = b.used := rfl
@[simp] theorem Ledger.push_entries : (b.push m).entries = b.entries := rfl
@[simp] theorem Ledger.push_queries : (b.push m).queries = b.queries := rfl
@[simp] theorem Ledger.push_owners : (b.push m).owners = b.owners := rfl
@[simp] theorem Ledger.push_spans : (b.push m).spans = b.spans := rfl
@[simp] theorem Ledger.push_lost : (b.push m).lost = b.lost := rfl
@[simp] theorem Ledger.push_zero : b.push 0 = b := by simp [Ledger.push]
theorem Ledger.push_push : (b.push m).push n = b.push (n + m) := by simp [Ledger.push, add_assoc]

end

/-- The entries' places are distinct and below n. -/
def State.EntriesDistinct (s : State) (n : Nat) : Prop :=
  (s.lock.entries.map LockEntry.id).Nodup ∧ ∀ e ∈ s.lock.entries, e.id < n

/-- The queries' places are distinct and below n. -/
def State.QueriesDistinct (s : State) (n : Nat) : Prop :=
  (s.lock.queries.map PendingQuery.id).Nodup ∧ ∀ q ∈ s.lock.queries, q.id < n

def State.OwnersApart (s : State) : Prop := s.lock.entries.Pairwise LockEntry.Compatible

def State.SpansHold (s : State) : Prop := ∀ e ∈ s.lock.entries, e.SpanWithin s.spanLimit

/-- What the ledger relies on is so. -/
structure Ledger.Honest (b : Ledger) (s : State) : Prop where
  entries : b.entries → s.EntriesDistinct b.used
  queries : b.queries → s.QueriesDistinct b.used
  owners  : b.owners → s.OwnersApart
  spans   : b.spans → s.SpansHold
  lost    : b.lost → s.LostOutsideMember

/-- The ledger that relies on no more than is so. -/
def Ledger.honest (b : Ledger) (s : State) : Ledger :=
  { b with
    entries := b.entries ∧ s.EntriesDistinct b.used
    queries := b.queries ∧ s.QueriesDistinct b.used
    owners  := b.owners ∧ s.OwnersApart
    spans   := b.spans ∧ s.SpansHold
    lost    := b.lost ∧ s.LostOutsideMember }

theorem Ledger.honest_honest (b : Ledger) (s : State) : (b.honest s).Honest s :=
  ⟨And.right, And.right, And.right, And.right, And.right⟩

/-- A ledger may be exchanged for another that relies on all that was relied on and is so. -/
structure Ledger.Doubts (s : State) (b b' : Ledger) : Prop where
  entries : b.entries → s.EntriesDistinct b.used → b'.entries ∧ b'.used = b.used
  queries : b.entries → s.EntriesDistinct b.used → b.queries → s.QueriesDistinct b.used →
    b'.queries ∧ b'.loose = b.loose
  owners  : b.owners → s.OwnersApart → b'.owners
  spans   : b.spans → s.SpansHold → b'.spans
  lost    : b.lost → s.LostOutsideMember → b'.lost

/-! ### The moves -/

/-- What an entry x may become, with the slots it stops naming: a claim stays a claim or becomes a holding, where
no other entry of the resource holds; a holding stays one or becomes HANDING; HANDING stays HANDING. -/
inductive Succeeds (s : State) (owners : Prop) (x : LockEntry) : EntryState → Multiset SlotIx → Prop
  | claims (st : EntryState) (h : st.claim = x.state.claim) (hx : x.state.claim.isSome = true) :
      Succeeds s owners x st 0
  | holds (c : Context) (sl : SlotIx) (n : Byte) (serve issue : Ticket) (noted : Bool)
      (h : x.state.claim = some (c, sl))
      (free : owners → ∀ z ∈ s.lock.entries, z.resource = x.resource → z.isHolder = false) :
      Succeeds s owners x (.holding c n serve issue noted) {sl}
  | serves (c : Context) (n : Byte) (serve issue : Ticket) (noted : Bool) (h : x.isHolder = true)
      (hc : x.context = some c) : Succeeds s owners x (.holding c n serve issue noted) 0
  | hands (serve issue offered : Ticket) (g : Option Timer) (h : x.isHolder = true) :
      Succeeds s owners x (.handing serve issue offered g) 0

/-- Two entries that differ in timers and held actions alone. -/
structure LockEntry.Alike (a b : LockEntry) : Prop where
  id       : a.id = b.id
  resource : a.resource = b.resource
  context  : a.context = b.context
  slot     : a.slot = b.slot
  holder   : a.isHolder = b.isHolder
  isLost   : a.isLost = b.isLost
  counted  : a.isCounted = b.isCounted
  span     : ∀ n, b.SpanWithin n → a.SpanWithin n

/-- A frame that is left or marked, or counts an attempt. -/
structure FrameRecord.Follows (f g : FrameRecord) : Prop where
  kind    : f.kind = g.kind
  owner   : f.owner = g.owner
  age     : f.age = g.age
  payload : f.payload = g.payload
  marked  : g.withdrawn = true → f.withdrawn = true

/-- The slots named by the entries, and by the queries, of a place. -/
def State.slotsAt (s : State) (id : Nat) : Multiset SlotIx :=
  ((s.lock.entries.filter (fun e => decide (e.id = id))).filterMap LockEntry.slot : List SlotIx)

def State.querySlotsAt (s : State) (id : Nat) : Multiset SlotIx :=
  ((s.lock.queries.filter (fun q => decide (q.id = id))).map PendingQuery.slot : List SlotIx)

/-- The owner of a want is there (R14). -/
def State.Owned (s : State) : Owner → Prop
  | .entry id => ∃ e ∈ s.lock.entries, e.id = id
  | .query id => ∃ q ∈ s.lock.queries, q.id = id

/-- One small change. `p` are the changes beyond the lock engine that are let in. -/
inductive Move (p : State → State → Prop) : Ledger → State → Ledger → State → Prop
  | other {b : Ledger} {s t : State} (h : p s t) : Move p b s b t
  | doubt {b b' : Ledger} {s : State} (h : b.Doubts s b') : Move p b s b' s
  | notice (b : Ledger) (s : State) (n : NoticeBody) : Move p b s b (s.enterNotice n)
  | ring {b : Ledger} {s : State} (r : Ring) (h : r.slots = s.ring.slots) : Move p b s b (s.withRing r)
  | slot {b : Ledger} {s : State} (i : SlotIx) (x : Slot)
      (h : x.state = .pending ↔ (s.slot i).state = .pending) : Move p b s b (s.setSlot i x)
  | takes {b : Ledger} {s : State} (i : SlotIx) (x : Slot) (h : (s.slot i).state ≠ .pending)
      (hx : x.state = .pending) : Move p b s (b.push {i}) (s.setSlot i x)
  | completes {b : Ledger} {s : State} (i : SlotIx) (x : Slot) (hx : x.state ≠ .pending) :
      Move p (b.push {i}) s b (s.setSlot i x)
  | count (b : Ledger) (s : State) :
      Move p b s b (s.withLock { s.lock with takings := s.lock.takings + 1 })
  | reserve {b : Ledger} {s : State} (n : Nat) (h : b.used ≤ n) (h' : n ≤ s.lock.takings) :
      Move p b s { b with used := n } s
  | restate {b : Ledger} {s : State} (id : Nat) (st : EntryState) (m : Multiset SlotIx)
      (hm : b.lost → s.member.station = .member)
      (hs : b.spans → ∀ e : LockEntry, ({ e with state := st } : LockEntry).SpanWithin s.spanLimit)
      (h : b.entries → ∃ x ∈ s.lock.entries, x.id = id ∧ Succeeds s b.owners x st m) :
      Move p b s (b.push m) (s.setEntry id st)
  | enters {b : Ledger} {s : State} (c : Claimant) (st : EntryState)
      (hst : st.claim = some (c.context, c.slot)) (hm : s.member.station = .member)
      (hroom : s.lock.entries.length < 32)
      (hnew : ∀ e ∈ s.lock.entries, e.resource = c.resource →
        e.isLost = false ∧ e.context ≠ some c.context)
      (hlimit : s.countedEntries c.context < s.holdLimit c.context)
      (hid : c.id = b.used) (htaken : c.id < s.lock.takings) :
      Move p (b.push {c.slot}) s { b with used := b.used + 1 } (s.putEntry c st)
  | relabel {b : Ledger} {s : State} (f : LockEntry → LockEntry) (h : ∀ e, (f e).Alike e) :
      Move p b s b (s.withEntries (s.lock.entries.map f))
  | drop {b : Ledger} {s : State} (id : Nat) (m : Multiset SlotIx) (h : b.entries → s.slotsAt id = m) :
      Move p b s (b.push m)
        ((s.dropEntry id).withWants (s.lock.wants.filter (fun w => decide (w ≠ .entry id))))
  | dropQuery {b : Ledger} {s : State} (id : Nat) (m : Multiset SlotIx)
      (h : b.queries → s.querySlotsAt id = m) :
      Move p b s (b.push m)
        ((s.dropQuery id).withWants (s.lock.wants.filter (fun w => decide (w ≠ .query id))))
  | asks {b : Ledger} {s : State} (q : PendingQuery) (hm : s.member.station = .member)
      (hid : q.id = b.used) (htaken : q.id < s.lock.takings) :
      Move p (b.push {q.slot}) s { b with used := b.used + 1 } (s.withQueries (s.lock.queries ++ [q]))
  | relabelQueries {b : Ledger} {s : State} (f : PendingQuery → PendingQuery)
      (h : ∀ q, (f q).id = q.id ∧ (f q).slot = q.slot) :
      Move p b s b (s.withQueries (s.lock.queries.map f))
  | unwant {b : Ledger} {s : State} (l : List Owner) (h : l.Sublist s.lock.wants) :
      Move p b s b (s.withWants l)
  | want {b : Ledger} {s : State} (o : Owner) (hm : b.lost → s.member.station = .member)
      (hnew : o ∉ s.lock.wants) (howned : b.entries → s.Owned o) :
      Move p b s b (s.withWants (s.lock.wants ++ [o]))
  | place {b : Ledger} {s : State} (o : Owner) (h : s.lockFrames < Config.lockPlaces) :
      Move p b s b (s.placeLock o)
  | thin {b : Ledger} {s : State} (g : FrameRecord → Option FrameRecord)
      (h : ∀ f f', g f = some f' → f'.Follows f) :
      Move p b s b (s.withFrames (s.queue.frames.filterMap g))
  | falls (b : Ledger) (s : State) :
      Move p b s (b.push (s.namedSlots : List SlotIx))
        (s.withLock { s.lock with
          entries := s.lock.entries.filterMap LockEntry.toLost, queries := [], wants := [] })

/-- A row of moves. -/
def Moves (p : State → State → Prop) (b : Ledger) (s : State) (b' : Ledger) (t : State) : Prop :=
  Relation.ReflTransGen (fun x y : Ledger × State => Move p x.1 x.2 y.1 y.2) (b, s) (b', t)

section
variable {p : State → State → Prop} {b b' b'' : Ledger} {s t u : State}

theorem Moves.refl : Moves p b s b s := Relation.ReflTransGen.refl

theorem Move.moves (h : Move p b s b' t) : Moves p b s b' t := Relation.ReflTransGen.single h

theorem Moves.trans (h : Moves p b s b' t) (h' : Moves p b' t b'' u) : Moves p b s b'' u :=
  Relation.ReflTransGen.trans h h'

theorem Moves.after (h' : Moves p b' t b'' u) (h : Moves p b s b' t) : Moves p b s b'' u := h.trans h'

/-- Moves that end with some more where a condition holds. -/
theorem Moves.thenIf {c : Prop} [Decidable c] (h : Moves p b s b' t) (h' : c → Moves p b' t b' u) :
    Moves p b s b' (if c then u else t) := by
  split
  · rename_i hc; exact h.trans (h' hc)
  · exact h

/-- What every move keeps, a row of moves keeps. -/
theorem Moves.keeps {P : Ledger → State → Prop}
    (hP : ∀ b s b' t, Move p b s b' t → P b s → P b' t) (h : Moves p b s b' t) (hs : P b s) : P b' t := by
  have key : ∀ x y : Ledger × State,
      Relation.ReflTransGen (fun x y : Ledger × State => Move p x.1 x.2 y.1 y.2) x y →
        P x.1 x.2 → P y.1 y.2 := by
    intro x y hxy hx
    induction hxy with
    | refl => exact hx
    | tail _ hyz ih => exact hP _ _ _ _ hyz ih
  exact key _ _ h hs

/-- In an operation that leaves the ledger as it was, what the ledger relies on may be taken to be so. -/
theorem Moves.honestly (h : ∀ b : Ledger, b.Honest s → Moves p b s b t) : Moves p b s b t := by
  have hto : b.Doubts s (b.honest s) :=
    ⟨fun h k => ⟨⟨h, k⟩, rfl⟩, fun _ _ h k => ⟨⟨h, k⟩, rfl⟩, And.intro, And.intro, And.intro⟩
  have hback : (b.honest s).Doubts t b :=
    ⟨fun h _ => ⟨h.1, rfl⟩, fun _ _ h _ => ⟨h.1, rfl⟩, fun h _ => h.1, fun h _ => h.1, fun h _ => h.1⟩
  exact (Move.doubt hto).moves.trans ((h _ (b.honest_honest s)).trans (Move.doubt hback).moves)

/-- A fold of operations that each are rows of moves. -/
theorem Moves.foldl {α : Type} {f : State → α → State} (h : ∀ s a, Moves p b s b (f s a)) (l : List α) :
    Moves p b s b (l.foldl f s) := by
  induction l generalizing s with
  | nil => exact .refl
  | cons a l ih => exact (h s a).trans ih

end

end Sys2Proof.Machine
end

section
/-! PROOFS. What every move keeps: the capacities, one owner per resource, the spans, the hold limits, LOST alone
outside MEMBER, and the PENDING slots. -/

namespace Sys2Proof.Machine

open Sys2Proof

variable {p : State → State → Prop} {b b' : Ledger} {s t : State}

/-! ### Entries that one update touches -/

/-- The entry of a place and the others: the table before and after an update of that entry. -/
theorem perm_at {l : List LockEntry} (hl : (l.map LockEntry.id).Nodup) {x : LockEntry} (hx : x ∈ l)
    (f : LockEntry → LockEntry) :
    l.Perm (x :: l.filter (fun e => decide (e.id ≠ x.id))) ∧
    (l.map (fun e => if e.id = x.id then f e else e)).Perm
      (f x :: l.filter (fun e => decide (e.id ≠ x.id))) := by
  induction l with
  | nil => exact nomatch hx
  | cons a l ih =>
    obtain ⟨ha, hl⟩ := List.nodup_cons.1 hl
    rcases List.mem_cons.1 hx with rfl | hx
    · have hne : ∀ e ∈ l, e.id ≠ x.id := fun e he h => ha (h ▸ List.mem_map_of_mem he)
      have hfilter : l.filter (fun e => decide (e.id ≠ x.id)) = l :=
        List.filter_eq_self.2 (fun e he => decide_eq_true (hne e he))
      have hmap : l.map (fun e => if e.id = x.id then f e else e) = l :=
        (List.map_congr_left (fun e he => if_neg (hne e he))).trans (List.map_id' l)
      rw [List.filter_cons_of_neg (by simp), hfilter, List.map_cons, if_pos rfl, hmap]
      exact ⟨.refl _, .refl _⟩
    · have hne : a.id ≠ x.id := fun h => ha (h ▸ List.mem_map_of_mem hx)
      obtain ⟨h₁, h₂⟩ := ih hl hx
      rw [List.filter_cons_of_pos (by simpa using hne), List.map_cons, if_neg hne]
      exact ⟨(h₁.cons a).trans (.swap _ _ _), (h₂.cons a).trans (.swap _ _ _)⟩

theorem mem_setEntry {s : State} {id : Nat} {st : EntryState} {e : LockEntry}
    (h : e ∈ (s.setEntry id st).lock.entries) :
    e ∈ s.lock.entries ∨ ∃ x ∈ s.lock.entries, x.id = id ∧ e = { x with state := st } := by
  obtain ⟨x, hx, rfl⟩ := List.mem_map.1 h
  by_cases hid : x.id = id
  · rw [if_pos hid]; exact .inr ⟨x, hx, hid, rfl⟩
  · rw [if_neg hid]; exact .inl hx

theorem mem_putEntry {s : State} {c : Claimant} {st : EntryState} {e : LockEntry}
    (h : e ∈ (s.putEntry c st).lock.entries) : e ∈ s.lock.entries ∨ e.state = st := by
  unfold State.putEntry at h
  split at h
  · rcases mem_setEntry h with h | ⟨x, -, -, rfl⟩
    · exact .inl h
    · exact .inr rfl
  · rcases List.mem_append.1 h with h | h
    · exact .inl h
    · rw [List.mem_singleton.1 h]; exact .inr rfl

section
variable (c : Claimant) (st : EntryState)

theorem length_putEntry_le : (s.putEntry c st).lock.entries.length ≤ s.lock.entries.length + 1 := by
  unfold State.putEntry
  split <;> simp [State.withEntries]

@[simp] theorem putEntry_takings : (s.putEntry c st).lock.takings = s.lock.takings := by
  unfold State.putEntry; split <;> rfl

@[simp] theorem putEntry_queries : (s.putEntry c st).lock.queries = s.lock.queries := by
  unfold State.putEntry; split <;> rfl

@[simp] theorem putEntry_wants : (s.putEntry c st).lock.wants = s.lock.wants := by
  unfold State.putEntry; split <;> rfl

@[simp] theorem putEntry_queue : (s.putEntry c st).queue = s.queue := by
  unfold State.putEntry; split <;> rfl

@[simp] theorem putEntry_ring : (s.putEntry c st).ring = s.ring := by
  unfold State.putEntry; split <;> rfl

@[simp] theorem putEntry_notices : (s.putEntry c st).notices = s.notices := by
  unfold State.putEntry; split <;> rfl

@[simp] theorem putEntry_member : (s.putEntry c st).member = s.member := by
  unfold State.putEntry; split <;> rfl

@[simp] theorem putEntry_link : (s.putEntry c st).link = s.link := by
  unfold State.putEntry; split <;> rfl

@[simp] theorem putEntry_config : (s.putEntry c st).config = s.config := by
  unfold State.putEntry; split <;> rfl

end

/-! ### Changes beyond the lock engine -/

/-- A change that leaves the lock engine, the slots, the notices, the record and the pop read alone, and leaves
MEMBER only over a table that is LOST alone. -/
structure Beyond (s t : State) : Prop where
  lock       : t.lock = s.lock
  slots      : t.ring.slots = s.ring.slots
  notices    : t.notices = s.notices
  config     : t.config = s.config
  pop        : t.port.popRecord = s.port.popRecord
  frames     : t.lockFrames ≤ s.lockFrames
  configured : t.member.station = .unconfigured ↔ s.member.station = .unconfigured
  leaves     : t.member.station ≠ .member → s.member.station ≠ .member ∨
    ((∀ e ∈ s.lock.entries, e.isLost = true) ∧ s.lock.queries = [] ∧ s.lock.wants = [])

/-! ### What an update makes of an entry -/

section
variable {owners : Prop} {x : LockEntry} {st : EntryState} {m : Multiset SlotIx}

theorem claim_eq_some {e : LockEntry} (h : e.state.claim.isSome = true) :
    ∃ c sl, e.state.claim = some (c, sl) := by
  obtain ⟨⟨c, sl⟩, h⟩ := Option.isSome_iff_exists.1 h
  exact ⟨c, sl, h⟩

theorem Succeeds.notLost (h : Succeeds s owners x st m) :
    x.isLost = false ∧ ({ x with state := st } : LockEntry).isLost = false := by
  cases h with
  | claims _ h hx =>
    obtain ⟨c, sl, hc⟩ := claim_eq_some hx
    obtain ⟨-, -, -, hx, -⟩ := facts_of_claim hc
    obtain ⟨-, -, -, hy, -⟩ := facts_of_claim (e := { x with state := st }) (h.trans hc)
    exact ⟨hx, hy⟩
  | holds c sl n serve issue noted h free => exact ⟨(facts_of_claim h).2.2.2.1, rfl⟩
  | serves c n serve issue noted h hc => exact ⟨(facts_of_holder h).2, rfl⟩
  | hands serve issue offered g h => exact ⟨(facts_of_holder h).2, rfl⟩

theorem Succeeds.context (h : Succeeds s owners x st m) :
    ({ x with state := st } : LockEntry).context = x.context ∨
      ({ x with state := st } : LockEntry).context = none := by
  cases h with
  | claims _ h hx =>
    obtain ⟨c, sl, hc⟩ := claim_eq_some hx
    obtain ⟨hy, -⟩ := facts_of_claim (e := { x with state := st }) (h.trans hc)
    exact .inl (hy.trans (facts_of_claim hc).1.symm)
  | holds c sl n serve issue noted h free => exact .inl (facts_of_claim h).1.symm
  | serves c n serve issue noted h hc => exact .inl hc.symm
  | hands serve issue offered g h => exact .inr rfl

theorem Succeeds.holder (h : Succeeds s owners x st m) (ho : owners)
    (hy : ({ x with state := st } : LockEntry).isHolder = true) :
    x.isHolder = true ∨ ∀ z ∈ s.lock.entries, z.resource = x.resource → z.isHolder = false := by
  cases h with
  | claims _ h hx =>
    obtain ⟨c, sl, hc⟩ := claim_eq_some hx
    obtain ⟨-, -, hn, -⟩ := facts_of_claim (e := { x with state := st }) (h.trans hc)
    exact absurd hy (by rw [hn]; decide)
  | holds c sl n serve issue noted h free => exact .inr (free ho)
  | serves c n serve issue noted h hc => exact .inl h
  | hands serve issue offered g h => exact .inl h

theorem Succeeds.counted (h : Succeeds s owners x st m)
    (hy : ({ x with state := st } : LockEntry).isCounted = true) :
    x.isCounted = true ∧ ({ x with state := st } : LockEntry).context = x.context := by
  cases h with
  | claims _ h hx =>
    obtain ⟨c, sl, hc⟩ := claim_eq_some hx
    obtain ⟨hyc, -⟩ := facts_of_claim (e := { x with state := st }) (h.trans hc)
    obtain ⟨hxc, -, -, -, hx⟩ := facts_of_claim hc
    exact ⟨hx, hyc.trans hxc.symm⟩
  | holds c sl n serve issue noted h free =>
    obtain ⟨hxc, -, -, -, hx⟩ := facts_of_claim h
    exact ⟨hx, hxc.symm⟩
  | serves c n serve issue noted h hc =>
    refine ⟨?_, hc.symm⟩
    rcases x with ⟨id, r, st, held⟩
    cases st with
    | holding => rfl
    | handing => exact absurd hc (by simp [LockEntry.context])
    | _ => exact absurd h (by simp [LockEntry.isHolder])
  | hands serve issue offered g h => exact nomatch hy

theorem Succeeds.slots (h : Succeeds s owners x st m) :
    (x.slot.toList : Multiset SlotIx) = (({ x with state := st } : LockEntry).slot.toList : List SlotIx) + m := by
  cases h with
  | claims _ h hx => simp [slot_eq_claim, h]
  | holds c sl n serve issue noted h free =>
    rw [(facts_of_claim h).2.1]; exact (add_zero _).symm
  | serves c n serve issue noted h hc => rw [(facts_of_holder h).1]; rfl
  | hands serve issue offered g h => rw [(facts_of_holder h).1]; rfl

end

theorem toLost_facts {e e' : LockEntry} (h : e.toLost = some e') :
    e'.id = e.id ∧ e'.resource = e.resource ∧ (e.isLost = true ∨ e.isHolder = true) ∧ e'.slot = none ∧
      e'.isCounted = false ∧ e'.isHolder = false := by
  rcases e with ⟨id, r, st, held⟩
  cases st with
  | holding c n serve issue noted => cases h; exact ⟨rfl, rfl, .inr rfl, rfl, rfl, rfl⟩
  | lost c n => cases h; exact ⟨rfl, rfl, .inl rfl, rfl, rfl, rfl⟩
  | _ => exact nomatch h

/-! ### The capacities -/

theorem countP_filterMap_follows {g : FrameRecord → Option FrameRecord}
    (h : ∀ f f', g f = some f' → f'.Follows f) (l : List FrameRecord) :
    (l.filterMap g).countP (fun f => f.kind.isLock) ≤ l.countP (fun f => f.kind.isLock) := by
  induction l with
  | nil => exact Nat.le_refl _
  | cons f l ih =>
    cases hg : g f with
    | none =>
      rw [List.filterMap_cons_none hg, List.countP_cons]
      omega
    | some f' =>
      rw [List.filterMap_cons_some hg, List.countP_cons, List.countP_cons, (h f f' hg).kind]
      omega

theorem length_enterNotice_le (n : NoticeBody) (h : s.notices.records.length ≤ 16) :
    (s.enterNotice n).notices.records.length ≤ 16 := by
  by_cases hroom : s.notices.records.length < Config.notices
  · rw [enterNotice_room n hroom, List.length_append]
    exact hroom
  · rw [enterNotice_full n (Nat.le_of_not_lt hroom)]
    exact h

theorem wantedKind_isLock (s : State) (o : Owner) : (s.wantedKind o).isLock = true := by
  unfold State.wantedKind
  split
  · rfl
  · split
    · split <;> rfl
    · rfl

theorem Move.capacities (hp : ∀ s t, p s t → Beyond s t) (h : Move p b s b' t) (hs : s.WithinCapacities) :
    t.WithinCapacities := by
  obtain ⟨hn, he, hf⟩ := hs
  cases h with
  | other h =>
    have h := hp _ _ h
    exact ⟨h.notices ▸ hn, h.lock ▸ he, h.frames.trans hf⟩
  | doubt => exact ⟨hn, he, hf⟩
  | notice _ _ n =>
    exact ⟨length_enterNotice_le n hn, (enterNotice_lock (s := s) n).symm ▸ he,
      (enterNotice_queue (s := s) n).symm ▸ hf⟩
  | ring => exact ⟨hn, he, hf⟩
  | slot => exact ⟨hn, he, hf⟩
  | takes => exact ⟨hn, he, hf⟩
  | completes => exact ⟨hn, he, hf⟩
  | count => exact ⟨hn, he, hf⟩
  | reserve => exact ⟨hn, he, hf⟩
  | restate id st => exact ⟨hn, (List.length_map _).trans_le he, hf⟩
  | enters c st hst hm hroom =>
    refine ⟨?_, (length_putEntry_le c st).trans hroom, ?_⟩
    · rwa [putEntry_notices]
    · rwa [putEntry_queue]
  | relabel f => exact ⟨hn, (List.length_map _).trans_le he, hf⟩
  | drop id => exact ⟨hn, (List.length_filter_le _ _).trans he, hf⟩
  | dropQuery => exact ⟨hn, he, hf⟩
  | asks => exact ⟨hn, he, hf⟩
  | relabelQueries => exact ⟨hn, he, hf⟩
  | unwant => exact ⟨hn, he, hf⟩
  | want => exact ⟨hn, he, hf⟩
  | place o h =>
    refine ⟨hn, he, ?_⟩
    simp only [State.placeLock, State.placeFrame, State.withQueue_queue, List.countP_append,
      List.countP_singleton, wantedKind_isLock, if_true]
    exact h
  | thin g h => exact ⟨hn, he, (countP_filterMap_follows h _).trans hf⟩
  | falls => exact ⟨hn, (List.length_filterMap_le _ _).trans he, hf⟩

/-! ### The notice of a pop read, and the record -/

theorem head_enterNotice (n : NoticeBody) {x : Notice} (h : s.notices.records.head? = some x) :
    (s.enterNotice n).notices.records.head? = some x := by
  by_cases hroom : s.notices.records.length < Config.notices
  · rw [enterNotice_room n hroom, List.head?_append, h]
    rfl
  · rw [enterNotice_full n (Nat.le_of_not_lt hroom)]
    exact h

theorem port_of_enterNotice (n : NoticeBody) : (s.enterNotice n).port = s.port := by
  rw [enterNotice_eq]

/-- A move's notices: those that were there, or one more. -/
theorem Move.pop (hp : ∀ s t, p s t → Beyond s t) (h : Move p b s b' t) (hs : s.PopHoldsTheHead) :
    t.PopHoldsTheHead := by
  cases h with
  | other h =>
    have h := hp _ _ h
    intro x hx
    rw [h.notices]
    exact hs x (h.pop ▸ hx)
  | notice _ _ n => exact fun x hx => head_enterNotice n (hs x (port_of_enterNotice (s := s) n ▸ hx))
  | enters c st =>
    intro x hx
    rw [putEntry_notices]
    refine hs x ?_
    rwa [port_of_shell (shell_of_beyondLock (putEntry_beyondLock s c st))] at hx
  | _ => exact hs

/-- No move touches the record, or leaves or enters UNCONFIGURED. -/
theorem Move.settled (hp : ∀ s t, p s t → Beyond s t) (h : Move p b s b' t) :
    t.config = s.config ∧ (t.member.station = .unconfigured ↔ s.member.station = .unconfigured) := by
  cases h with
  | other h => exact ⟨(hp _ _ h).config, (hp _ _ h).configured⟩
  | notice _ _ n => rw [enterNotice_config, enterNotice_member]; exact ⟨rfl, .rfl⟩
  | enters c st => rw [putEntry_config, putEntry_member]; exact ⟨rfl, .rfl⟩
  | _ => exact ⟨rfl, .rfl⟩

/-! ### One owner per resource -/

theorem LockEntry.Compatible.symm {x y : LockEntry} (h : x.Compatible y) : y.Compatible x := by
  refine ⟨h.1.symm, fun hr => ?_⟩
  obtain ⟨hcontext, hx, hy, hholder⟩ := h.2 hr.symm
  refine ⟨fun c hc hc' => hcontext c hc' hc, hy, hx, fun hh => ?_⟩
  cases hxh : x.isHolder with
  | false => rfl
  | true => rw [hholder hxh] at hh; exact hh.symm

theorem OwnersApart_of_perm {l l' : List LockEntry} (h : l.Perm l') :
    l.Pairwise LockEntry.Compatible ↔ l'.Pairwise LockEntry.Compatible :=
  h.pairwise_iff LockEntry.Compatible.symm

theorem nodup_of_ownersApart {l : List LockEntry} (h : l.Pairwise LockEntry.Compatible) :
    (l.map LockEntry.id).Nodup := by
  rw [List.Nodup, List.pairwise_map]
  exact h.imp And.left

theorem Succeeds.compatible {owners : Prop} {x z : LockEntry} {st : EntryState} {m : Multiset SlotIx}
    (h : Succeeds s owners x st m) (ho : owners) (hz : z ∈ s.lock.entries) (hxz : x.Compatible z) :
    ({ x with state := st } : LockEntry).Compatible z := by
  refine ⟨hxz.1, fun hr => ?_⟩
  obtain ⟨hcontext, -, hzl, hholder⟩ := hxz.2 hr
  refine ⟨fun c hc => ?_, h.notLost.2, hzl, fun hy => ?_⟩
  · rcases h.context with hyx | hy
    · exact hcontext c (hyx ▸ hc)
    · rw [hy] at hc; exact nomatch hc
  · rcases h.holder ho hy with hx | hfree
    · exact hholder hx
    · exact hfree z hz hr.symm

/-- One owner per resource, relied on and so. -/
structure OneOwnerIn (b : Ledger) (l : LockEngine) : Prop where
  entries : b.entries
  owners  : b.owners
  apart   : l.entries.Pairwise LockEntry.Compatible
  below   : ∀ e ∈ l.entries, e.id < b.used
  taken   : b.used ≤ l.takings

theorem OneOwnerIn.distinct (h : OneOwnerIn b s.lock) : s.EntriesDistinct b.used :=
  ⟨nodup_of_ownersApart h.apart, h.below⟩

theorem OneOwnerIn.of_sublist {l l' : LockEngine} (h : OneOwnerIn b l) (he : l'.entries.Sublist l.entries)
    (ht : l'.takings = l.takings) : OneOwnerIn b l' :=
  ⟨h.entries, h.owners, h.apart.sublist he, fun e hm => h.below e (he.subset hm), ht ▸ h.taken⟩

theorem OneOwnerIn.push {l : LockEngine} (m : Multiset SlotIx) : OneOwnerIn (b.push m) l ↔ OneOwnerIn b l :=
  ⟨fun h => ⟨h.entries, h.owners, h.apart, h.below, h.taken⟩,
    fun h => ⟨h.entries, h.owners, h.apart, h.below, h.taken⟩⟩

/-- The table before and after one entry is restated. -/
theorem restate_perm (hd : s.EntriesDistinct b.used) {x : LockEntry} (hx : x ∈ s.lock.entries)
    (st : EntryState) :
    ∃ rest : List LockEntry, s.lock.entries.Perm (x :: rest) ∧
      (s.setEntry x.id st).lock.entries.Perm ({ x with state := st } :: rest) := by
  obtain ⟨h₁, h₂⟩ := perm_at hd.1 hx (fun e => { e with state := st })
  exact ⟨_, h₁, h₂⟩

theorem OneOwnerIn.restate (hs : OneOwnerIn b s.lock) {x : LockEntry} (hx : x ∈ s.lock.entries)
    {st : EntryState} {m : Multiset SlotIx} (h : Succeeds s b.owners x st m) :
    OneOwnerIn b (s.setEntry x.id st).lock := by
  obtain ⟨rest, h₁, h₂⟩ := restate_perm hs.distinct hx st
  obtain ⟨hxr, hrest⟩ := List.pairwise_cons.1 ((OwnersApart_of_perm h₁).1 hs.apart)
  refine ⟨hs.entries, hs.owners, (OwnersApart_of_perm h₂).2 (List.pairwise_cons.2 ⟨fun z hz => ?_, hrest⟩),
    fun e he => ?_, hs.taken⟩
  · exact h.compatible hs.owners (h₁.mem_iff.2 (List.mem_cons_of_mem _ hz)) (hxr z hz)
  · rcases mem_setEntry he with he | ⟨y, hy, -, rfl⟩
    · exact hs.below e he
    · exact hs.below y hy

theorem OneOwnerIn.enters (hs : OneOwnerIn b s.lock) {c : Claimant} {st : EntryState}
    (hst : st.claim = some (c.context, c.slot))
    (hnew : ∀ e ∈ s.lock.entries, e.resource = c.resource → e.isLost = false ∧ e.context ≠ some c.context)
    (hid : c.id = b.used) (htaken : c.id < s.lock.takings) :
    OneOwnerIn { b with used := b.used + 1 } (s.putEntry c st).lock := by
  obtain ⟨hcontext, -, hholder, hlost, -⟩ :=
    facts_of_claim (e := ⟨c.id, c.resource, st, []⟩) hst
  have hbelow : ∀ e ∈ s.lock.entries, e.id < c.id := fun e he => hid ▸ hs.below e he
  rw [putEntry_new c st (fun e he => (hbelow e he).ne)]
  refine ⟨hs.entries, hs.owners, ?_, fun e he => ?_, hid ▸ htaken⟩
  · refine List.pairwise_append.2 ⟨hs.apart, List.pairwise_singleton _ _, fun e he z hz => ?_⟩
    obtain rfl := List.mem_singleton.1 hz
    refine ⟨(hbelow e he).ne, fun hr => ?_⟩
    obtain ⟨hel, hec⟩ := hnew e he hr
    refine ⟨fun c' hc' hz => ?_, hel, hlost, fun _ => hholder⟩
    rw [hcontext] at hz
    exact hec (hc'.trans hz.symm)
  · rcases List.mem_append.1 he with he | he
    · exact (hs.below e he).trans (Nat.lt_succ_self _)
    · rw [List.mem_singleton.1 he]
      exact hid ▸ Nat.lt_succ_self _

theorem OneOwnerIn.falls (hs : OneOwnerIn b s.lock) :
    OneOwnerIn b { s.lock with
      entries := s.lock.entries.filterMap LockEntry.toLost, queries := [], wants := [] } := by
  refine ⟨hs.entries, hs.owners, List.pairwise_filterMap.2 (hs.apart.imp ?_), fun e he => ?_, hs.taken⟩
  · intro x y hxy x' hx' y' hy'
    obtain ⟨hxid, hxr, hxs, -⟩ := toLost_facts hx'
    obtain ⟨hyid, hyr, hys, -⟩ := toLost_facts hy'
    refine ⟨hxid ▸ hyid ▸ hxy.1, fun hr => ?_⟩
    obtain ⟨-, hxl, hyl, hholder⟩ := hxy.2 (by rw [← hxr, ← hyr, hr])
    have hxh := hxs.resolve_left (by rw [hxl]; decide)
    have hyh := hys.resolve_left (by rw [hyl]; decide)
    rw [hholder hxh] at hyh
    exact nomatch hyh
  · obtain ⟨x, hx, hxe⟩ := List.mem_filterMap.1 he
    rw [(toLost_facts hxe).1]
    exact hs.below x hx

theorem OneOwnerIn.relabel (hs : OneOwnerIn b s.lock) {f : LockEntry → LockEntry} (h : ∀ e, (f e).Alike e) :
    OneOwnerIn b (s.withEntries (s.lock.entries.map f)).lock := by
  refine ⟨hs.entries, hs.owners, List.pairwise_map.2 (hs.apart.imp ?_), fun e he => ?_, hs.taken⟩
  · intro x y hxy
    simp only [LockEntry.Compatible, (h _).id, (h _).resource, (h _).context, (h _).isLost, (h _).holder]
    exact hxy
  · obtain ⟨x, hx, rfl⟩ := List.mem_map.1 he
    rw [(h x).id]
    exact hs.below x hx

theorem Move.oneOwner (hp : ∀ s t, p s t → Beyond s t) (h : Move p b s b' t) (hs : OneOwnerIn b s.lock) :
    OneOwnerIn b' t.lock := by
  cases h with
  | other h => rw [(hp _ _ h).lock]; exact hs
  | doubt h =>
    obtain ⟨he, hu⟩ := h.entries hs.entries hs.distinct
    exact ⟨he, h.owners hs.owners hs.apart, hs.apart, hu ▸ hs.below, hu ▸ hs.taken⟩
  | notice _ _ n => rw [enterNotice_lock]; exact hs
  | ring => exact hs
  | slot => exact hs
  | takes i x => exact (OneOwnerIn.push _).2 hs
  | completes i x => exact (OneOwnerIn.push _).1 hs
  | count => exact ⟨hs.entries, hs.owners, hs.apart, hs.below, hs.taken.trans (Nat.le_succ _)⟩
  | reserve n h h' =>
    exact ⟨hs.entries, hs.owners, hs.apart, fun e he => (hs.below e he).trans_le h, h'⟩
  | restate id st m hm hspan h =>
    obtain ⟨x, hx, rfl, hsucc⟩ := h hs.entries
    exact (OneOwnerIn.push _).2 (hs.restate hx hsucc)
  | enters c st hst hm hroom hnew hlimit hid htaken =>
    exact ((OneOwnerIn.push _).1 hs).enters hst hnew hid htaken
  | relabel f h => exact hs.relabel h
  | drop id => exact (OneOwnerIn.push _).2 (hs.of_sublist (List.filter_sublist) rfl)
  | dropQuery => exact (OneOwnerIn.push _).2 (hs.of_sublist (.refl _) rfl)
  | asks q hm hid htaken =>
    have hs := (OneOwnerIn.push _).1 hs
    exact ⟨hs.entries, hs.owners, hs.apart, fun e he => (hs.below e he).trans (Nat.lt_succ_self _),
      hid ▸ htaken⟩
  | relabelQueries => exact hs.of_sublist (.refl _) rfl
  | unwant => exact hs.of_sublist (.refl _) rfl
  | want => exact hs.of_sublist (.refl _) rfl
  | place => exact hs
  | thin => exact hs
  | falls => exact (OneOwnerIn.push _).2 hs.falls

/-! ### The spans -/

theorem spanWithin_of_claim {e : LockEntry} {x : Context × SlotIx} (h : e.state.claim = some x) (n : Nat) :
    e.SpanWithin n := by
  rcases e with ⟨id, r, st, held⟩
  cases st <;> trivial

theorem spanWithin_of_toLost {e e' : LockEntry} (h : e.toLost = some e') (n : Nat) : e'.SpanWithin n := by
  rcases e with ⟨id, r, st, held⟩
  cases st <;> simp [LockEntry.toLost] at h <;> subst h <;> trivial

/-- Only an entry that comes into the table needs a span of its own. -/
theorem spans_of {u v : State} (hs : u.SpansWithinLimit) (hc : v.config = u.config)
    (hconf : v.member.station = .unconfigured ↔ u.member.station = .unconfigured)
    (hnil : v.member.station = .unconfigured → u.lock.entries = [] → v.lock.entries = [])
    (h : ∀ e ∈ v.lock.entries, e ∈ u.lock.entries ∨ e.SpanWithin u.spanLimit) : v.SpansWithinLimit := by
  obtain ⟨hempty, hacc, hspan⟩ := hs
  refine ⟨fun hv => hnil hv (hempty (hconf.1 hv)), ?_, fun e he => ?_⟩
  · rw [hc, hacc, not_iff_not]; exact hconf.symm
  · have hlimit : v.spanLimit = u.spanLimit := by rw [State.spanLimit, hc]; rfl
    rw [hlimit]
    exact (h e he).elim (hspan e) id

theorem Move.spans (hp : ∀ s t, p s t → Beyond s t) (h : Move p b s b' t)
    (hs : b.spans ∧ s.SpansWithinLimit) : b'.spans ∧ t.SpansWithinLimit := by
  obtain ⟨hb, hs⟩ := hs
  have keeps : ∀ {v : State}, v.config = s.config →
      (v.member.station = .unconfigured ↔ s.member.station = .unconfigured) →
      v.lock.entries.Sublist s.lock.entries → v.SpansWithinLimit := fun hc hconf hsub =>
    spans_of hs hc hconf (fun _ h => by rw [h] at hsub; exact List.sublist_nil.1 hsub)
      (fun e he => .inl (hsub.subset he))
  cases h with
  | other h =>
    have h := hp _ _ h
    exact ⟨hb, keeps h.config h.configured (by rw [h.lock])⟩
  | doubt h => exact ⟨h.spans hb hs.2.2, hs⟩
  | notice _ _ n => exact ⟨hb, keeps (enterNotice_config _) (by rw [enterNotice_member]) (by rw [enterNotice_lock])⟩
  | restate id st m hm hspan h =>
    refine ⟨hb, spans_of hs rfl .rfl (fun _ h => by rw [setEntry_entries, h]; rfl) (fun e he => ?_)⟩
    rcases mem_setEntry he with he | ⟨x, -, -, rfl⟩
    · exact .inl he
    · exact .inr (hspan hb x)
  | enters c st hst hm =>
    refine ⟨hb, spans_of hs (putEntry_config c st) (by rw [putEntry_member]) ?_ (fun e he => ?_)⟩
    · rw [putEntry_member, hm]
      exact nofun
    · rcases mem_putEntry he with he | he
      · exact .inl he
      · exact .inr (spanWithin_of_claim (he ▸ hst) _)
  | relabel f h =>
    refine ⟨hb, fun hu => congrArg (List.map f) (hs.1 hu), hs.2.1, fun e he => ?_⟩
    obtain ⟨x, hx, rfl⟩ := List.mem_map.1 he
    exact (h x).span _ (hs.2.2 x hx)
  | drop id => exact ⟨hb, keeps rfl .rfl List.filter_sublist⟩
  | falls =>
    refine ⟨hb, spans_of hs rfl .rfl (fun _ h => congrArg (List.filterMap _) h) (fun e he => ?_)⟩
    obtain ⟨x, -, hx⟩ := List.mem_filterMap.1 he
    exact .inr (spanWithin_of_toLost hx _)
  | _ => exact ⟨hb, keeps rfl .rfl (.refl _)⟩

/-! ### The hold limits -/

theorem counted_of_perm {u v : State} (h : v.lock.entries.Perm u.lock.entries) (c : Context) :
    v.countedEntries c = u.countedEntries c := h.countP_eq _

theorem counted_restate (hd : s.EntriesDistinct b.used) {x : LockEntry} (hx : x ∈ s.lock.entries)
    {owners : Prop} {st : EntryState} {m : Multiset SlotIx} (h : Succeeds s owners x st m) (c : Context) :
    (s.setEntry x.id st).countedEntries c ≤ s.countedEntries c := by
  obtain ⟨rest, h₁, h₂⟩ := restate_perm hd hx st
  simp only [State.countedEntries, h₁.countP_eq, h₂.countP_eq, List.countP_cons]
  refine Nat.add_le_add_left ?_ _
  split
  · rename_i hy
    obtain ⟨hy, hyc⟩ := (Bool.and_eq_true _ _).mp hy
    obtain ⟨hxcount, hcontext⟩ := h.counted hy
    rw [if_pos ((Bool.and_eq_true _ _).mpr ⟨hxcount, hcontext ▸ hyc⟩)]
  · exact Nat.zero_le _

theorem counted_of_toLost (l : List LockEntry) (c : Context) :
    (l.filterMap LockEntry.toLost).countP (fun e => e.isCounted && decide (e.context = some c)) = 0 := by
  refine List.countP_eq_zero.2 (fun e he => ?_)
  obtain ⟨x, -, hx⟩ := List.mem_filterMap.1 he
  rw [(toLost_facts hx).2.2.2.2.1]
  exact nofun

theorem counted_relabel {f : LockEntry → LockEntry} (h : ∀ e, (f e).Alike e) (l : List LockEntry)
    (c : Context) : (l.map f).countP (fun e => e.isCounted && decide (e.context = some c))
      = l.countP (fun e => e.isCounted && decide (e.context = some c)) := by
  rw [List.countP_map]
  refine congrArg (List.countP · l) (funext fun e => ?_)
  rw [Function.comp_apply, (h e).counted, (h e).context]

theorem counted_enters {c : Claimant} (hid : ∀ e ∈ s.lock.entries, e.id ≠ c.id) {st : EntryState}
    (hst : st.claim = some (c.context, c.slot)) (c' : Context) :
    (s.putEntry c st).countedEntries c'
      = s.countedEntries c' + if c.context = c' then 1 else 0 := by
  obtain ⟨hcontext, -, -, -, hcounted⟩ := facts_of_claim (e := ⟨c.id, c.resource, st, []⟩) hst
  rw [putEntry_new c st hid]
  simp only [State.countedEntries, State.withEntries, State.withLock_lock, List.countP_append,
    List.countP_singleton, hcounted, hcontext, Option.some.injEq, Bool.true_and, decide_eq_true_eq]

/-- A move adds to a context's counted entries only below its limit. -/
theorem Move.holdLimits (hp : ∀ s t, p s t → Beyond s t) (h : Move p b s b' t)
    (hs : OneOwnerIn b s.lock ∧ s.WithinHoldLimits) : OneOwnerIn b' t.lock ∧ t.WithinHoldLimits := by
  refine ⟨h.oneOwner hp hs.1, fun c => ?_⟩
  obtain ⟨hone, hs⟩ := hs
  have hlimit : t.holdLimit c = s.holdLimit c := by rw [State.holdLimit, (h.settled hp).1]; rfl
  rw [hlimit]
  cases h with
  | other h => exact (counted_of_perm (.of_eq (by rw [(hp _ _ h).lock])) c).trans_le (hs c)
  | notice _ _ n => exact (counted_of_perm (.of_eq (by rw [enterNotice_lock])) c).trans_le (hs c)
  | restate id st m hm hspan h =>
    obtain ⟨x, hx, rfl, hsucc⟩ := h hone.entries
    exact (counted_restate hone.distinct hx hsucc c).trans (hs c)
  | enters c' st hst hm hroom hnew hbelow hid htaken =>
    rw [counted_enters (fun e he => hid ▸ (hone.below e he).ne) hst]
    split
    · rename_i hc; exact hc ▸ hbelow
    · exact hs c
  | relabel f h => exact (counted_relabel h _ c).trans_le (hs c)
  | drop id => exact (List.Sublist.countP_le List.filter_sublist).trans (hs c)
  | falls => exact (counted_of_toLost _ c).trans_le (Nat.zero_le _)
  | _ => exact hs c

/-! ### LOST alone outside MEMBER -/

/-- Every entry is LOST, no QUERY is pending and no want waits. -/
def LockEngine.Quiet (l : LockEngine) : Prop :=
  (∀ e ∈ l.entries, e.isLost = true) ∧ l.queries = [] ∧ l.wants = []

theorem Move.lost (hp : ∀ s t, p s t → Beyond s t) (h : Move p b s b' t)
    (hs : b.lost ∧ s.LostOutsideMember) : b'.lost ∧ t.LostOutsideMember := by
  obtain ⟨hb, hs⟩ := hs
  cases h with
  | other h =>
    have h := hp _ _ h
    refine ⟨hb, fun ht => ?_⟩
    rw [h.lock]
    exact (h.leaves ht).elim hs id
  | doubt h => exact ⟨h.lost hb hs, hs⟩
  | notice _ _ n => refine ⟨hb, ?_⟩; rw [State.LostOutsideMember, enterNotice_lock, enterNotice_member]; exact hs
  | restate id st m hm => exact ⟨hb, fun ht => absurd (hm hb) ht⟩
  | enters c st hst hm => refine ⟨hb, fun ht => absurd ?_ ht⟩; rwa [putEntry_member]
  | want o hm => exact ⟨hb, fun ht => absurd (hm hb) ht⟩
  | asks q hm => exact ⟨hb, fun ht => absurd hm ht⟩
  | relabel f h =>
    refine ⟨hb, fun ht => ⟨fun e he => ?_, (hs ht).2⟩⟩
    obtain ⟨x, hx, rfl⟩ := List.mem_map.1 he
    rw [(h x).isLost]
    exact (hs ht).1 x hx
  | drop id =>
    refine ⟨hb, fun ht => ?_⟩
    obtain ⟨he, hq, hw⟩ := hs ht
    exact ⟨fun e h => he e (List.mem_of_mem_filter h), hq, congrArg (List.filter _) hw⟩
  | dropQuery id =>
    refine ⟨hb, fun ht => ?_⟩
    obtain ⟨he, hq, hw⟩ := hs ht
    exact ⟨he, congrArg (List.filter _) hq, congrArg (List.filter _) hw⟩
  | relabelQueries f =>
    refine ⟨hb, fun ht => ?_⟩
    obtain ⟨he, hq, hw⟩ := hs ht
    exact ⟨he, congrArg (List.map _) hq, hw⟩
  | unwant l h =>
    refine ⟨hb, fun ht => ?_⟩
    obtain ⟨he, hq, hw⟩ := hs ht
    exact ⟨he, hq, List.sublist_nil.1 (hw ▸ h)⟩
  | falls =>
    refine ⟨hb, fun _ => ⟨fun e he => ?_, rfl, rfl⟩⟩
    obtain ⟨x, -, hx⟩ := List.mem_filterMap.1 he
    exact isLost_of_toLost hx
  | _ => exact ⟨hb, hs⟩

end Sys2Proof.Machine
end

section
/-! PROOFS. What every move keeps, continued: the PENDING slots are the named ones. -/

namespace Sys2Proof.Machine

open Sys2Proof

variable {p : State → State → Prop} {b b' : Ledger} {s t : State}

/-! ### The named slots as a bag -/

def State.entrySlots (s : State) : Multiset SlotIx := (s.lock.entries.filterMap LockEntry.slot : List SlotIx)

def State.querySlots (s : State) : Multiset SlotIx := (s.lock.queries.map PendingQuery.slot : List SlotIx)

/-- The slots that ought to be PENDING: the named ones and the loose ones. -/
def State.slotBag (s : State) (b : Ledger) : Multiset SlotIx := s.entrySlots + s.querySlots + b.loose

theorem namedSlots_coe (s : State) : (s.namedSlots : Multiset SlotIx) = s.entrySlots + s.querySlots := rfl

theorem entrySlots_of_perm {e : LockEntry} {l : List LockEntry} (h : s.lock.entries.Perm (e :: l)) :
    s.entrySlots = (e.slot.toList : List SlotIx) + (l.filterMap LockEntry.slot : List SlotIx) := by
  refine (Multiset.coe_eq_coe.2 (h.filterMap LockEntry.slot)).trans ?_
  cases he : e.slot with
  | none => rw [List.filterMap_cons_none he]; rfl
  | some i => rw [List.filterMap_cons_some he]; rfl

theorem entrySlots_dropEntry (s : State) (id : Nat) :
    s.slotsAt id + (s.dropEntry id).entrySlots = s.entrySlots := by
  have h := List.filter_append_perm (fun e : LockEntry => decide (e.id = id)) s.lock.entries
  have h' := Multiset.coe_eq_coe.2 (h.filterMap LockEntry.slot)
  rw [List.filterMap_append] at h'
  simpa [State.slotsAt, State.entrySlots, State.dropEntry, State.withEntries] using h'

theorem querySlots_dropQuery (s : State) (id : Nat) :
    s.querySlotsAt id + (s.dropQuery id).querySlots = s.querySlots := by
  have h := List.filter_append_perm (fun q : PendingQuery => decide (q.id = id)) s.lock.queries
  have h' := Multiset.coe_eq_coe.2 (h.map PendingQuery.slot)
  rw [List.map_append] at h'
  simpa [State.querySlotsAt, State.querySlots, State.dropQuery, State.withQueries] using h'

theorem entrySlots_relabel {f : LockEntry → LockEntry} (h : ∀ e, (f e).Alike e) (s : State) :
    (s.withEntries (s.lock.entries.map f)).entrySlots = s.entrySlots := by
  simp [State.entrySlots, State.withEntries, List.filterMap_map, (h _).slot]

theorem querySlots_relabel {f : PendingQuery → PendingQuery}
    (h : ∀ q, (f q).id = q.id ∧ (f q).slot = q.slot) (s : State) :
    (s.withQueries (s.lock.queries.map f)).querySlots = s.querySlots := by
  simp [State.querySlots, State.withQueries, Function.comp_def, (h _).2]

/-! ### The PENDING slots -/

/-- The PENDING slots are the named and the loose ones, each once; and the places are distinct. -/
structure NamedIn (b : Ledger) (s : State) : Prop where
  entries  : b.entries
  queries  : b.queries
  nodup    : (s.slotBag b).Nodup
  pending  : ∀ i, (s.slot i).state = .pending ↔ i ∈ s.slotBag b
  distinct : s.EntriesDistinct b.used
  asked    : s.QueriesDistinct b.used
  taken    : b.used ≤ s.lock.takings

/-- A change that keeps the bag and the slots. -/
theorem NamedIn.of_bag (h : NamedIn b s) (hb : b'.entries) (hq : b'.queries)
    (hbag : t.slotBag b' = s.slotBag b) (hring : t.ring.slots = s.ring.slots)
    (hd : t.EntriesDistinct b'.used) (ha : t.QueriesDistinct b'.used) (ht : b'.used ≤ t.lock.takings) :
    NamedIn b' t :=
  ⟨hb, hq, hbag ▸ h.nodup, fun i => by
    rw [hbag, ← h.pending i]; simp only [State.slot, hring], hd, ha, ht⟩

/-- A change of the entries alone. -/
theorem NamedIn.of_entries (h : NamedIn b s) (m : Multiset SlotIx)
    (hslots : t.entrySlots + m = s.entrySlots) (hd : t.EntriesDistinct b.used)
    (hq : t.lock.queries = s.lock.queries) (hring : t.ring.slots = s.ring.slots)
    (ht : t.lock.takings = s.lock.takings) : NamedIn (b.push m) t := by
  refine h.of_bag h.entries h.queries ?_ hring hd ?_ (ht ▸ h.taken)
  · have : t.querySlots = s.querySlots := by rw [State.querySlots, hq]; rfl
    simp only [State.slotBag, Ledger.push_loose, this, ← hslots]
    abel
  · rw [State.QueriesDistinct, hq]; exact h.asked

/-- A change of the queries alone. -/
theorem NamedIn.of_queries (h : NamedIn b s) (m : Multiset SlotIx)
    (hslots : t.querySlots + m = s.querySlots) (hd : t.QueriesDistinct b.used)
    (he : t.lock.entries = s.lock.entries) (hring : t.ring.slots = s.ring.slots)
    (ht : t.lock.takings = s.lock.takings) : NamedIn (b.push m) t := by
  refine h.of_bag h.entries h.queries ?_ hring ?_ hd (ht ▸ h.taken)
  · have : t.entrySlots = s.entrySlots := by rw [State.entrySlots, he]; rfl
    simp only [State.slotBag, Ledger.push_loose, this, ← hslots]
    abel
  · rw [State.EntriesDistinct, he]; exact h.distinct

/-- A change that leaves the entries, the queries and the slots. -/
theorem NamedIn.of_same (h : NamedIn b s) (he : t.lock.entries = s.lock.entries)
    (hq : t.lock.queries = s.lock.queries) (hring : t.ring.slots = s.ring.slots)
    (ht : t.lock.takings = s.lock.takings) : NamedIn b t := by
  have := h.of_entries (t := t) 0 (by rw [State.entrySlots, he]; exact add_zero _)
    (by rw [State.EntriesDistinct, he]; exact h.distinct) hq hring ht
  rwa [Ledger.push_zero] at this

theorem state_setSlot (s : State) (i j : SlotIx) (x : Slot) :
    ((s.setSlot i x).slot j).state = if j = i then x.state else (s.slot j).state := by
  rw [slot_setSlot]; split <;> rfl

theorem NamedIn.takes (h : NamedIn b s) {i : SlotIx} {x : Slot} (hi : (s.slot i).state ≠ .pending)
    (hx : x.state = .pending) : NamedIn (b.push {i}) (s.setSlot i x) := by
  have hbag : (s.setSlot i x).slotBag (b.push {i}) = i ::ₘ s.slotBag b :=
    (add_left_comm _ {i} b.loose).trans (Multiset.singleton_add i _)
  refine ⟨h.entries, h.queries, ?_, fun j => ?_, h.distinct, h.asked, h.taken⟩
  · rw [hbag]
    exact Multiset.nodup_cons.2 ⟨fun hm => hi ((h.pending i).2 hm), h.nodup⟩
  · rw [hbag, state_setSlot, Multiset.mem_cons, ← h.pending j]
    split
    · rename_i hj; exact iff_of_true hx (.inl hj)
    · rename_i hj; exact (or_iff_right hj).symm

theorem NamedIn.completes {i : SlotIx} (h : NamedIn (b.push {i}) s) {x : Slot} (hx : x.state ≠ .pending) :
    NamedIn b (s.setSlot i x) := by
  have hbag : s.slotBag (b.push {i}) = i ::ₘ (s.setSlot i x).slotBag b :=
    (add_left_comm _ {i} b.loose).trans (Multiset.singleton_add i _)
  obtain ⟨hi, hnodup⟩ := Multiset.nodup_cons.1 (hbag ▸ h.nodup)
  refine ⟨h.entries, h.queries, hnodup, fun j => ?_, h.distinct, h.asked, h.taken⟩
  rw [state_setSlot]
  split
  · rename_i hj; exact iff_of_false hx (hj ▸ hi)
  · rename_i hj
    rw [h.pending j, hbag, Multiset.mem_cons, or_iff_right hj]

theorem distinct_setEntry {n id : Nat} (st : EntryState) (h : s.EntriesDistinct n) :
    (s.setEntry id st).EntriesDistinct n := by
  have hids : (s.setEntry id st).lock.entries.map LockEntry.id = s.lock.entries.map LockEntry.id := by
    rw [setEntry_entries, List.map_map]
    exact List.map_congr_left (fun e _ => by rw [Function.comp_apply]; split <;> rfl)
  refine ⟨hids ▸ h.1, fun e he => ?_⟩
  rcases mem_setEntry he with he | ⟨x, hx, -, rfl⟩
  · exact h.2 e he
  · exact h.2 x hx

theorem distinct_of_sublist {n : Nat} (hsub : t.lock.entries.Sublist s.lock.entries)
    (h : s.EntriesDistinct n) : t.EntriesDistinct n :=
  ⟨h.1.sublist (hsub.map _), fun e he => h.2 e (hsub.subset he)⟩

theorem NamedIn.restate (h : NamedIn b s) {x : LockEntry} (hx : x ∈ s.lock.entries) {owners : Prop}
    {st : EntryState} {m : Multiset SlotIx} (hsucc : Succeeds s owners x st m) :
    NamedIn (b.push m) (s.setEntry x.id st) := by
  obtain ⟨rest, h₁, h₂⟩ := restate_perm h.distinct hx st
  refine h.of_entries m ?_ (distinct_setEntry st h.distinct) rfl rfl rfl
  rw [entrySlots_of_perm h₁, entrySlots_of_perm h₂, hsucc.slots]
  abel

theorem NamedIn.enters {c : Claimant} {st : EntryState} (h : NamedIn (b.push {c.slot}) s)
    (hst : st.claim = some (c.context, c.slot)) (hid : c.id = b.used) (htaken : c.id < s.lock.takings) :
    NamedIn { b with used := b.used + 1 } (s.putEntry c st) := by
  have hne : ∀ e ∈ s.lock.entries, e.id ≠ c.id := fun e he => hid ▸ (h.distinct.2 e he).ne
  have hslot : (⟨c.id, c.resource, st, []⟩ : LockEntry).slot = some c.slot := (facts_of_claim hst).2.1
  rw [putEntry_new c st hne]
  refine h.of_bag h.entries h.queries ?_ rfl ⟨?_, fun e he => ?_⟩
    ⟨h.asked.1, fun q hq => (h.asked.2 q hq).trans (Nat.lt_succ_self _)⟩ (hid ▸ htaken)
  · have hadd : (s.withEntries (s.lock.entries ++ [⟨c.id, c.resource, st, []⟩])).entrySlots
        = s.entrySlots + {c.slot} := by
      simp only [State.entrySlots, State.withEntries, State.withLock_lock, List.filterMap_append,
        List.filterMap_cons_some hslot]
      rfl
    simp only [State.slotBag, hadd, Ledger.push_loose]
    rw [show (s.withEntries (s.lock.entries ++ [⟨c.id, c.resource, st, []⟩])).querySlots = s.querySlots
      from rfl]
    abel
  · simp only [State.withEntries, State.withLock_lock, List.map_append, List.map_singleton]
    refine List.Nodup.append h.distinct.1 (List.nodup_singleton _) ?_
    rw [List.disjoint_singleton]
    intro hm
    obtain ⟨e, he, heid⟩ := List.mem_map.1 hm
    exact hne e he heid
  · rcases List.mem_append.1 he with he | he
    · exact (h.distinct.2 e he).trans (Nat.lt_succ_self _)
    · rw [List.mem_singleton.1 he]; exact hid ▸ Nat.lt_succ_self _

theorem NamedIn.asks {q : PendingQuery} (h : NamedIn (b.push {q.slot}) s) (hid : q.id = b.used)
    (htaken : q.id < s.lock.takings) :
    NamedIn { b with used := b.used + 1 } (s.withQueries (s.lock.queries ++ [q])) := by
  refine h.of_bag h.entries h.queries ?_ rfl
    ⟨h.distinct.1, fun e he => (h.distinct.2 e he).trans (Nat.lt_succ_self _)⟩ ⟨?_, fun r hr => ?_⟩
    (hid ▸ htaken)
  · have hadd : (s.withQueries (s.lock.queries ++ [q])).querySlots = s.querySlots + {q.slot} := by
      simp [State.querySlots, State.withQueries]
      rfl
    simp only [State.slotBag, hadd, Ledger.push_loose]
    rw [show (s.withQueries (s.lock.queries ++ [q])).entrySlots = s.entrySlots from rfl]
    abel
  · simp only [State.withQueries, State.withLock_lock, List.map_append, List.map_singleton]
    refine List.Nodup.append h.asked.1 (List.nodup_singleton _) ?_
    rw [List.disjoint_singleton]
    intro hm
    obtain ⟨r, hr, hrid⟩ := List.mem_map.1 hm
    exact (hid ▸ (h.asked.2 r hr).ne : r.id ≠ q.id) hrid
  · rcases List.mem_append.1 hr with hr | hr
    · exact (h.asked.2 r hr).trans (Nat.lt_succ_self _)
    · rw [List.mem_singleton.1 hr]; exact hid ▸ Nat.lt_succ_self _

theorem distinct_relabel {n : Nat} {f : LockEntry → LockEntry} (h : ∀ e, (f e).Alike e)
    (hd : s.EntriesDistinct n) : (s.withEntries (s.lock.entries.map f)).EntriesDistinct n := by
  refine ⟨?_, fun e he => ?_⟩
  · simpa [State.withEntries, Function.comp_def, (h _).id] using hd.1
  · obtain ⟨x, hx, rfl⟩ := List.mem_map.1 he
    rw [(h x).id]
    exact hd.2 x hx

theorem NamedIn.falls (h : NamedIn b s) : NamedIn (b.push (s.namedSlots : List SlotIx))
    (s.withLock { s.lock with
      entries := s.lock.entries.filterMap LockEntry.toLost, queries := [], wants := [] }) := by
  refine h.of_bag h.entries h.queries ?_ rfl ⟨?_, fun e he => ?_⟩ ⟨List.nodup_nil, nofun⟩ h.taken
  · have hnil : (s.lock.entries.filterMap LockEntry.toLost).filterMap LockEntry.slot = [] := by
      refine List.filterMap_eq_nil_iff.2 (fun e he => ?_)
      obtain ⟨x, -, hx⟩ := List.mem_filterMap.1 he
      exact (toLost_facts hx).2.2.2.1
    simp only [State.slotBag, State.entrySlots, State.querySlots, State.withLock_lock, hnil,
      Ledger.push_loose, namedSlots_coe]
    exact zero_add _
  · refine List.pairwise_map.2 (List.pairwise_filterMap.2 ((List.pairwise_map.1 h.distinct.1).imp ?_))
    intro x y hxy x' hx' y' hy'
    rw [(toLost_facts hx').1, (toLost_facts hy').1]
    exact hxy
  · obtain ⟨x, hx, hxe⟩ := List.mem_filterMap.1 he
    rw [(toLost_facts hxe).1]
    exact h.distinct.2 x hx

theorem Move.named (hp : ∀ s t, p s t → Beyond s t) (h : Move p b s b' t) (hs : NamedIn b s) :
    NamedIn b' t := by
  cases h with
  | other h =>
    have h := hp _ _ h
    exact hs.of_same (by rw [h.lock]) (by rw [h.lock]) h.slots (by rw [h.lock])
  | doubt h =>
    obtain ⟨he, hu⟩ := h.entries hs.entries hs.distinct
    obtain ⟨hq, hl⟩ := h.queries hs.entries hs.distinct hs.queries hs.asked
    exact hs.of_bag he hq (by rw [State.slotBag, hl]; rfl) rfl (hu ▸ hs.distinct) (hu ▸ hs.asked)
      (hu ▸ hs.taken)
  | notice _ _ n =>
    exact hs.of_same (by rw [enterNotice_lock]) (by rw [enterNotice_lock]) (by rw [enterNotice_ring])
      (by rw [enterNotice_lock])
  | ring r h => exact hs.of_same rfl rfl h rfl
  | slot i x h =>
    refine ⟨hs.entries, hs.queries, hs.nodup, fun j => ?_, hs.distinct, hs.asked, hs.taken⟩
    rw [state_setSlot, show (s.setSlot i x).slotBag b = s.slotBag b from rfl, ← hs.pending j]
    split
    · rename_i hj; exact hj ▸ h
    · exact .rfl
  | takes i x h hx => exact hs.takes h hx
  | completes i x hx => exact hs.completes hx
  | count =>
    exact hs.of_bag hs.entries hs.queries rfl rfl hs.distinct hs.asked (hs.taken.trans (Nat.le_succ _))
  | reserve n h h' =>
    exact hs.of_bag hs.entries hs.queries rfl rfl
      ⟨hs.distinct.1, fun e he => (hs.distinct.2 e he).trans_le h⟩
      ⟨hs.asked.1, fun q hq => (hs.asked.2 q hq).trans_le h⟩ h'
  | restate id st m hm hspan h =>
    obtain ⟨x, hx, rfl, hsucc⟩ := h hs.entries
    exact hs.restate hx hsucc
  | enters c st hst hm hroom hnew hlimit hid htaken => exact hs.enters hst hid htaken
  | relabel f h =>
    have := hs.of_entries (t := s.withEntries (s.lock.entries.map f)) 0
      ((add_zero _).trans (entrySlots_relabel h s)) (distinct_relabel h hs.distinct) rfl rfl rfl
    rwa [Ledger.push_zero] at this
  | drop id m h =>
    refine hs.of_entries m ?_ (distinct_of_sublist List.filter_sublist hs.distinct) rfl rfl rfl
    rw [← h hs.entries, add_comm]
    exact entrySlots_dropEntry s id
  | dropQuery id m h =>
    refine hs.of_queries m ?_ ⟨hs.asked.1.sublist (List.filter_sublist.map _), fun q hq =>
      hs.asked.2 q (List.mem_of_mem_filter hq)⟩ rfl rfl rfl
    rw [← h hs.queries, add_comm]
    exact querySlots_dropQuery s id
  | asks q hm hid htaken => exact hs.asks hid htaken
  | relabelQueries f h =>
    have := hs.of_queries (t := s.withQueries (s.lock.queries.map f)) 0
      ((add_zero _).trans (querySlots_relabel h s)) ?_ rfl rfl rfl
    · rwa [Ledger.push_zero] at this
    · refine ⟨?_, fun q hq => ?_⟩
      · simpa [State.withQueries, Function.comp_def, (h _).1] using hs.asked.1
      · obtain ⟨x, hx, rfl⟩ := List.mem_map.1 hq
        rw [(h x).1]
        exact hs.asked.2 x hx
  | unwant => exact hs.of_same rfl rfl rfl rfl
  | want => exact hs.of_same rfl rfl rfl rfl
  | place => exact hs.of_same rfl rfl rfl rfl
  | thin => exact hs.of_same rfl rfl rfl rfl
  | falls => exact hs.falls

end Sys2Proof.Machine
end

section
/-! PROOFS. The lock engine's shared operations as rows of moves: notices, completions, frames and wants, entries
that are freed, restated, evaluated and placed. -/

namespace Sys2Proof.Machine

open Sys2Proof

variable {p : State → State → Prop} {b : Ledger} {s : State}

/-! ### Notices and completions -/

theorem moves_enterNotice (n : NoticeBody) : Moves p b s b (s.enterNotice n) := (Move.notice b s n).moves

theorem moves_withRing {r : Ring} (h : r.slots = s.ring.slots) : Moves p b s b (s.withRing r) :=
  (Move.ring r h).moves

/-- R152: what follows the slot's own part of a completion. -/
theorem complete_cases (i : SlotIx) (c : Code) (r : SlotResult) :
    Moves p b (s.setSlot i { s.slot i with state := .done, result := { r with code := some c } }) b
      (s.complete i c r) := by
  unfold State.complete
  refine Moves.thenIf ?_ (fun _ => moves_enterNotice _)
  exact moves_withRing rfl

/-- A loose slot completes. -/
theorem moves_complete (i : SlotIx) (c : Code) (r : SlotResult) :
    Moves p (b.push {i}) s b (s.complete i c r) :=
  (Move.completes i _ (by simp)).moves.trans (complete_cases i c r)

/-- A slot that is not PENDING completes. -/
theorem moves_complete_idle {i : SlotIx} (h : (s.slot i).state ≠ .pending) (c : Code) (r : SlotResult) :
    Moves p b s b (s.complete i c r) :=
  (Move.slot i _ (iff_of_false (by simp) h)).moves.trans (complete_cases i c r)

theorem moves_setSlotStation (i : SlotIx) (x : Option StationNo) :
    Moves p b s b (s.setSlotStation i x) :=
  (Move.slot i { s.slot i with result := { (s.slot i).result with station := x } } .rfl).moves

/-! ### Frames and wants -/

theorem Follows.refl (f : FrameRecord) : f.Follows f := ⟨rfl, rfl, rfl, rfl, id⟩

theorem moves_filterFrames (q : FrameRecord → Bool) :
    Moves p b s b (s.withFrames (s.queue.frames.filter q)) := by
  have h := Move.thin (p := p) (b := b) (s := s) (fun f => if q f then some f else none) (fun f f' h => by
    split at h
    · obtain rfl := Option.some.inj h; exact Follows.refl f
    · exact nomatch h)
  have hfilter : s.queue.frames.filterMap (fun f => if q f then some f else none)
      = s.queue.frames.filter q := by
    rw [← List.filterMap_eq_filter]
    refine congrArg (List.filterMap · _) (funext fun f => ?_)
    simp [Option.guard]
  rw [hfilter] at h
  exact h.moves

theorem moves_updateFrame (n : Nat) {g : FrameRecord → FrameRecord} (h : ∀ f, (g f).Follows f) :
    Moves p b s b (s.updateFrame n g) := by
  have hm := Move.thin (p := p) (b := b) (s := s) (fun f => some (if f.age = n then g f else f))
    (fun f f' hf => by
      obtain rfl := Option.some.inj hf
      split
      · exact h f
      · exact Follows.refl f)
  rw [List.filterMap_eq_map'] at hm
  exact hm.moves

theorem moves_admitWant : Moves p b s b s.admitWant := by
  unfold State.admitWant
  split
  · exact .refl
  · rename_i o rest hw
    split
    · rename_i h
      exact (Move.unwant rest (hw ▸ List.sublist_cons_self o rest)).moves.trans
        (Move.place (s := s.withWants rest) o h).moves
    · exact .refl

theorem moves_removeFrame (f : FrameRecord) : Moves p b s b (s.removeFrame f) := by
  unfold State.removeFrame
  exact (moves_filterFrames _).thenIf (fun _ => moves_admitWant)

theorem moves_withdrawFrame (f : FrameRecord) : Moves p b s b (s.withdrawFrame f) := by
  unfold State.withdrawFrame
  split
  · exact moves_updateFrame _ (fun _ => ⟨rfl, rfl, rfl, rfl, fun _ => rfl⟩)
  · exact moves_removeFrame f

/-- R15: once the want is out of the list, an owner's frame is withdrawn. -/
theorem withdrawOwner_cases (o : Owner) :
    Moves p b (s.withWants (s.lock.wants.filter (fun w => decide (w ≠ o)))) b (s.withdrawOwner o) := by
  unfold State.withdrawOwner
  dsimp only
  split
  · exact moves_withdrawFrame _
  · exact .refl

theorem moves_withdrawOwner (o : Owner) : Moves p b s b (s.withdrawOwner o) :=
  (Move.unwant _ List.filter_sublist).moves.trans (withdrawOwner_cases o)

/-- R1: an entry is freed, and the slot it names is loose. -/
theorem moves_freeEntry {id : Nat} {m : Multiset SlotIx} (h : b.entries → s.slotsAt id = m) :
    Moves p b s (b.push m) (s.freeEntry id) :=
  (Move.drop id m h).moves.trans (withdrawOwner_cases (s := s.dropEntry id) _)

theorem moves_freeQuery {id : Nat} {m : Multiset SlotIx} (h : b.queries → s.querySlotsAt id = m) :
    Moves p b s (b.push m) (s.freeQuery id) :=
  (Move.dropQuery id m h).moves.trans (withdrawOwner_cases (s := s.dropQuery id) _)

/-- R14: an owner that is there wants its frame. -/
theorem moves_raiseWant {o : Owner} (hm : b.lost → s.member.station = .member)
    (ho : b.entries → s.Owned o) : Moves p b s b (s.raiseWant o) := by
  unfold State.raiseWant
  split
  · exact .refl
  · rename_i h
    have hnew : o ∉ s.lock.wants := fun hw => h (by simp [hw])
    split
    · rename_i hplaces
      exact (Move.place o hplaces).moves
    · exact (Move.want o hm hnew ho).moves

/-! ### The slots of a place -/

theorem slotsAt_of_mem {n : Nat} (h : s.EntriesDistinct n) {e : LockEntry} (he : e ∈ s.lock.entries) :
    s.slotsAt e.id = (e.slot.toList : List SlotIx) := by
  have hsum := entrySlots_dropEntry s e.id
  have hperm := entrySlots_of_perm (perm_at h.1 he id).1
  rw [hperm] at hsum
  exact add_right_cancel hsum

theorem slotsAt_of_claim {n : Nat} (h : s.EntriesDistinct n) {e : LockEntry} (he : e ∈ s.lock.entries)
    {c : Claimant} (hc : e.claimant = some c) : s.slotsAt e.id = {c.slot} := by
  rw [slotsAt_of_mem h he, (facts_of_claim (claim_of_claimant hc).1).2.1]
  rfl

theorem querySlotsAt_of_mem {n : Nat} (h : s.QueriesDistinct n) {q : PendingQuery}
    (hq : q ∈ s.lock.queries) : s.querySlotsAt q.id = {q.slot} := by
  have hfilter : ∀ l : List PendingQuery, (l.map PendingQuery.id).Nodup → q ∈ l →
      l.filter (fun r => decide (r.id = q.id)) = [q] := by
    intro l hl hq
    induction l with
    | nil => exact nomatch hq
    | cons r l ih =>
      obtain ⟨hr, hl⟩ := List.nodup_cons.1 hl
      rcases List.mem_cons.1 hq with rfl | hq
      · rw [List.filter_cons_of_pos (by simp), List.filter_eq_nil_iff.2]
        intro x hx hid
        exact hr (of_decide_eq_true hid ▸ List.mem_map_of_mem hx)
      · rw [List.filter_cons_of_neg, ih hl hq]
        intro hid
        exact hr (of_decide_eq_true hid ▸ List.mem_map_of_mem hq)
  rw [State.querySlotsAt, hfilter _ h.1 hq]
  rfl

theorem slotsAt_of_fresh {id : Nat} (h : ∀ e ∈ s.lock.entries, e.id ≠ id) : s.slotsAt id = 0 := by
  rw [State.slotsAt, List.filter_eq_nil_iff.2]
  · rfl
  · exact fun e he hid => h e he (of_decide_eq_true hid)

/-! ### A table that is not LOST alone -/

/-- Outside MEMBER an entry that is there is LOST. -/
theorem Ledger.Honest.member (h : b.Honest s) {e : LockEntry} (he : e ∈ s.lock.entries)
    (hl : e.isLost = false) : b.lost → s.member.station = .member := by
  intro hb
  by_contra hm
  rw [(h.lost hb hm).1 e he] at hl
  exact nomatch hl

theorem notLost_of_claimant {e : LockEntry} {c : Claimant} (h : e.claimant = some c) : e.isLost = false :=
  (facts_of_claim (claim_of_claimant h).1).2.2.2.1

theorem entry_unique {n : Nat} (h : s.EntriesDistinct n) {x y : LockEntry} (hx : x ∈ s.lock.entries)
    (hy : y ∈ s.lock.entries) (hid : x.id = y.id) : x = y :=
  List.inj_on_of_nodup_map h.1 hx hy hid

/-! ### Entries that are restated -/

/-- An entry's claim stands, whatever its state has become. -/
def State.Claims (s : State) (id : Nat) (x : Option (Context × SlotIx)) : Prop :=
  ∃ e ∈ s.lock.entries, e.id = id ∧ e.state.claim = x

/-- A claim is restated. -/
theorem moves_reclaim {id : Nat} {st : EntryState} {x : Context × SlotIx} (hst : st.claim = some x)
    (hm : b.lost → s.member.station = .member) (h : b.entries → s.Claims id (some x)) :
    Moves p b s b (s.setEntry id st) := by
  have hmove := Move.restate (p := p) (b := b) (s := s) id st 0 hm
    (fun _ e => spanWithin_of_claim (e := { e with state := st }) hst _) (fun hb => by
      obtain ⟨e, he, hid, hc⟩ := h hb
      exact ⟨e, he, hid, .claims st (hst.trans hc.symm) (by rw [hc]; rfl)⟩)
  rw [Ledger.push_zero] at hmove
  exact hmove.moves

/-- A claim that is there is put back, or restated (R23). -/
theorem moves_putEntry {e : LockEntry} (he : e ∈ s.lock.entries) {c : Claimant} (hc : e.claimant = some c)
    {st : EntryState} (hst : st.claim = some (c.context, c.slot))
    (hm : b.lost → s.member.station = .member) : Moves p b s b (s.putEntry c st) := by
  obtain ⟨hclaim, hid, -⟩ := claim_of_claimant hc
  rw [putEntry_present c st he hid.symm]
  exact moves_reclaim hst hm (fun _ => ⟨e, he, hid.symm, hclaim⟩)

theorem moves_relabel {f : LockEntry → LockEntry} (h : ∀ e, (f e).Alike e) :
    Moves p b s b (s.withEntries (s.lock.entries.map f)) := (Move.relabel f h).moves

theorem alike_held (e : LockEntry) (l : List HeldAction) : ({ e with held := l } : LockEntry).Alike e :=
  ⟨rfl, rfl, rfl, rfl, rfl, rfl, rfl, fun _ h => h⟩

theorem alike_refl (e : LockEntry) : e.Alike e := alike_held e e.held

theorem moves_holdAction (id : Nat) (a : HeldAction) : Moves p b s b (s.holdAction id a) :=
  moves_relabel (fun e => by
    split
    · exact alike_held e _
    · exact alike_refl e)

theorem moves_clearHeld (id : Nat) : Moves p b s b (s.clearHeld id) :=
  moves_relabel (fun e => by
    split
    · exact alike_held e _
    · exact alike_refl e)

/-! ### Tickets and holdings -/

theorem spanOf_succ (serve issue : Ticket) : spanOf serve (issue + 1) = spanOf serve issue + 1 := by
  unfold spanOf; bv_omega

/-- A span below the limit is within it after one more ticket, and above 0. -/
theorem span_issue {serve issue : Ticket} {limit : Nat} (h : (spanOf serve issue).toNat < limit)
    (hl : limit ≤ 255) :
    1 ≤ (issue + 1 - serve - 1).toNat ∧ (issue + 1 - serve - 1).toNat ≤ limit := by
  have hs : issue + 1 - serve - 1 = spanOf serve issue + 1 := spanOf_succ serve issue
  have hone : (1 : Ticket).toNat = 1 := rfl
  rw [hs, BitVec.toNat_add, hone]
  omega

theorem spanLimit_le (s : State) : s.spanLimit ≤ 255 := by
  have := s.config.spanLimit.isLt
  unfold State.spanLimit
  omega

/-- R46, R47: a holder entry hands out a ticket. -/
theorem moves_issueTicket {h : LockEntry} (hh : h.isHolder = true)
    (hm : b.lost → s.member.station = .member) (hmem : b.entries → h ∈ s.lock.entries)
    (hspan : b.spans → h.SpanWithin s.spanLimit) (hroom : h.span.toNat < s.spanLimit) :
    Moves p b s b (s.issueTicket h) := by
  rcases h with ⟨id, r, st, held⟩
  have hissue := span_issue hroom (spanLimit_le s)
  cases st with
  | holding c n serve issue noted =>
    unfold State.issueTicket
    dsimp only
    have hmove := Move.restate (p := p) (b := b) (s := s) id
      (.holding c n serve (issue + 1) (noted || (decide (spanOf serve issue = 0) && !noted))) 0 hm
      (fun hb _ => ⟨(hspan hb).1, hissue.2⟩)
      (fun hb => ⟨_, hmem hb, rfl, .serves c n serve (issue + 1) _ hh rfl⟩)
    rw [Ledger.push_zero] at hmove
    exact hmove.moves.thenIf (fun _ => moves_enterNotice _)
  | handing serve issue offered g =>
    have hmove := Move.restate (p := p) (b := b) (s := s) id (.handing serve (issue + 1) offered g) 0 hm
      (fun hb _ => ⟨(hspan hb).1, hissue⟩)
      (fun hb => ⟨_, hmem hb, rfl, .hands serve (issue + 1) offered g hh⟩)
    rw [Ledger.push_zero] at hmove
    exact hmove.moves
  | _ => exact nomatch hh

/-- R5, R12, R47: a claim becomes a holding, where its resource has no holder entry. -/
theorem moves_enterHolding {e : LockEntry} {serve issue : Ticket}
    (hm : b.lost → s.member.station = .member) (hmem : b.entries → e ∈ s.lock.entries)
    (hspan : b.spans → (issue - serve - 1).toNat ≤ s.spanLimit)
    (hfree : b.entries → b.owners → ∀ z ∈ s.lock.entries, z.resource = e.resource → z.isHolder = false) :
    Moves p b s b (s.enterHolding e serve issue) := by
  unfold State.enterHolding
  split
  · exact .refl
  · rename_i c hc
    obtain ⟨hclaim, -⟩ := claim_of_claimant hc
    have hmove := Move.restate (p := p) (b := b) (s := s) e.id
      (.holding c.context 1 serve issue (decide (spanOf serve issue ≠ 0))) {c.slot} hm
      (fun hb _ => ⟨by decide, hspan hb⟩)
      (fun hb => ⟨e, hmem hb, rfl, .holds c.context c.slot 1 serve issue _ hclaim (hfree hb)⟩)
    dsimp only
    exact (Moves.after (moves_complete _ _ _) (hmove.moves.trans (moves_withdrawOwner _))).thenIf
      (fun _ => moves_enterNotice _)

/-! ### What the lookups find -/

theorem holderOf_some {r : Resource} {h : LockEntry} (hh : s.holderOf r = some h) :
    h ∈ s.lock.entries ∧ h.resource = r ∧ h.isHolder = true := by
  refine ⟨List.mem_of_find?_eq_some hh, ?_⟩
  simpa using List.find?_some hh

theorem holderOf_none {r : Resource} (hh : s.holderOf r = none) :
    ∀ z ∈ s.lock.entries, z.resource = r → z.isHolder = false := by
  intro z hz hr
  simpa [hr] using List.find?_eq_none.1 hh z hz

theorem mem_of_query {id : Nat} {q : PendingQuery} (h : s.query id = some q) :
    q ∈ s.lock.queries ∧ q.id = id :=
  ⟨List.mem_of_find?_eq_some h, by simpa using List.find?_some h⟩

/-! ### Step 7 (R23) -/

theorem moves_retryPending {e : LockEntry} (he : e ∈ s.lock.entries) {c : Claimant}
    (hc : e.claimant = some c) (hm : b.lost → s.member.station = .member) :
    Moves p b s b (s.retryPending c) :=
  Moves.after (moves_setSlotStation _ _) (moves_putEntry he hc rfl hm)

theorem mem_putEntry_of_ne {e h : LockEntry} (he : e ∈ s.lock.entries) {c : Claimant} (hid : e.id = c.id)
    (st : EntryState) (hh : h ∈ s.lock.entries) (hne : h.id ≠ c.id) :
    h ∈ (s.putEntry c st).lock.entries := by
  rw [putEntry_present c st he hid, setEntry_entries]
  exact List.mem_map.2 ⟨h, hh, if_neg hne⟩

theorem owned_putEntry {e : LockEntry} (he : e ∈ s.lock.entries) {c : Claimant} (hid : e.id = c.id)
    (st : EntryState) : (s.putEntry c st).Owned (.entry c.id) := by
  rw [putEntry_present c st he hid]
  exact ⟨{ e with state := st }, List.mem_map.2 ⟨e, he, if_pos hid⟩, hid⟩

/-- R23 to R28 for an entry that is there. -/
theorem moves_evaluate {e : LockEntry} (he : e ∈ s.lock.entries) {c : Claimant}
    (hc : e.claimant = some c) : Moves p b s b (s.evaluate c) := by
  refine Moves.honestly (fun b hb => ?_)
  have hm := hb.member he (notLost_of_claimant hc)
  obtain ⟨hclaim, hid, -⟩ := claim_of_claimant hc
  unfold State.evaluate
  split
  · rename_i h hh
    obtain ⟨hmem, -, hholder⟩ := holderOf_some hh
    split
    · exact (moves_freeEntry (fun hE => hid ▸ slotsAt_of_claim (hb.entries hE) he hc)).trans
        (moves_complete _ _ _)
    · split
      · rename_i hroom
        refine Moves.after (moves_issueTicket hholder ?_ (fun hE => ?_) (fun hS => ?_) ?_)
          (Moves.after (moves_setSlotStation _ _) (moves_putEntry he hc rfl hm))
        · simpa [State.setSlotStation, State.setSlot] using hm
        · refine mem_putEntry_of_ne he hid.symm _ hmem (fun heq => ?_)
          rw [entry_unique (hb.entries hE) hmem he (heq.trans hid),
            (facts_of_claim hclaim).2.2.1] at hholder
          exact nomatch hholder
        · simpa [State.setSlotStation, State.setSlot, State.spanLimit] using hb.spans hS h hmem
        · simpa [State.setSlotStation, State.setSlot, State.spanLimit] using hroom
      · exact moves_retryPending he hc hm
  · split
    · exact Moves.after (moves_setSlotStation _ _) (moves_putEntry he hc rfl hm)
    · refine Moves.after (moves_raiseWant ?_ (fun _ => owned_putEntry he hid.symm _))
        (Moves.after (moves_setSlotStation _ _) (moves_putEntry he hc rfl hm))
      simpa [State.setSlotStation, State.setSlot] using hm

theorem moves_reevaluate (id : Nat) : Moves p b s b (s.reevaluate id) := by
  unfold State.reevaluate
  split
  · exact .refl
  · rename_i e he
    split
    · exact .refl
    · rename_i c hc
      split
      · exact moves_withdrawOwner _
      · refine (moves_withdrawOwner _).trans (moves_evaluate (e := e) ?_ hc)
        rw [withdrawOwner_entries]
        exact mem_of_entry he

theorem moves_reevaluateDeferred (r : Resource) : Moves p b s b (s.reevaluateDeferred r) :=
  Moves.foldl (fun _ _ => moves_reevaluate _) _

end Sys2Proof.Machine
end

section
/-! PROOFS. The lock engine's operations as rows of moves, continued: waiters, the placement under a new holder
entry, the handoff and the GRANT chain, held actions and the outcomes of frames. -/

namespace Sys2Proof.Machine

open Sys2Proof

variable {p : State → State → Prop} {b : Ledger} {s : State}

/-! ### Claims across a row of restatements -/

theorem claims_of_mem {e : LockEntry} (he : e ∈ s.lock.entries) : s.Claims e.id e.state.claim :=
  ⟨e, he, rfl, rfl⟩

theorem claims_setEntry {n id id' : Nat} {st : EntryState} {x x' : Option (Context × SlotIx)}
    (hd : s.EntriesDistinct n) (h : s.Claims id x) (hst : st.claim = x) (h' : s.Claims id' x') :
    (s.setEntry id st).Claims id' x' := by
  obtain ⟨e, he, rfl, rfl⟩ := h
  obtain ⟨e', he', rfl, rfl⟩ := h'
  rw [State.Claims, setEntry_entries]
  by_cases hid : e'.id = e.id
  · obtain rfl := entry_unique hd he' he hid
    exact ⟨_, List.mem_map.2 ⟨e', he', if_pos rfl⟩, rfl, hst⟩
  · exact ⟨e', List.mem_map.2 ⟨e', he', if_neg hid⟩, rfl, rfl⟩

/-- An operation on an entry that leaves the entries, or restates its claim. -/
def Restates (f : State → LockEntry → State) : Prop :=
  ∀ s e, (f s e).member = s.member ∧ ((f s e).lock.entries = s.lock.entries ∨
    ∃ st : EntryState, st.claim = e.state.claim ∧
      (f s e).lock.entries = (s.setEntry e.id st).lock.entries)

/-- A fold over entries whose claims stand. -/
theorem moves_foldl_claims {f : State → LockEntry → State} (hr : Restates f)
    (hf : ∀ s e, (b.lost → s.member.station = .member) → (b.entries → s.Claims e.id e.state.claim) →
      Moves p b s b (f s e))
    (l : List LockEntry) (hm : ∀ e ∈ l, b.lost → s.member.station = .member)
    (hd : b.entries → s.EntriesDistinct b.used)
    (hc : b.entries → ∀ e ∈ l, s.Claims e.id e.state.claim) : Moves p b s b (l.foldl f s) := by
  induction l generalizing s with
  | nil => exact .refl
  | cons e l ih =>
    obtain ⟨hmem, hentries⟩ := hr s e
    refine (hf s e (hm e List.mem_cons_self) (fun hE => hc hE e List.mem_cons_self)).trans (ih ?_ ?_ ?_)
    · rw [hmem]; exact fun e' he' => hm e' (List.mem_cons_of_mem _ he')
    · intro hE
      rcases hentries with h | ⟨st, -, h⟩
      · rw [State.EntriesDistinct, h]; exact hd hE
      · rw [State.EntriesDistinct, h]; exact distinct_setEntry st (hd hE)
    · intro hE e' he'
      have hc' := hc hE e' (List.mem_cons_of_mem _ he')
      rcases hentries with h | ⟨st, hst, h⟩
      · rw [State.Claims, h]; exact hc'
      · rw [State.Claims, h]; exact claims_setEntry (hd hE) (hc hE e List.mem_cons_self) hst hc'

/-- A fold over entries of the table. -/
theorem moves_foldl_entries {f : State → LockEntry → State} (hr : Restates f)
    (hf : ∀ s e, (b.lost → s.member.station = .member) → (b.entries → s.Claims e.id e.state.claim) →
      Moves p b s b (f s e))
    (hb : b.Honest s) (l : List LockEntry) (hl : ∀ e ∈ l, e ∈ s.lock.entries ∧ e.isLost = false) :
    Moves p b s b (l.foldl f s) :=
  moves_foldl_claims hr hf l (fun e he => hb.member (hl e he).1 (hl e he).2) hb.entries
    (fun _ e he => claims_of_mem (hl e he).1)

/-! ### Waiters -/

theorem moves_immediateProbe (e : LockEntry) (hm : b.lost → s.member.station = .member)
    (hc : b.entries → s.Claims e.id e.state.claim) : Moves p b s b (s.immediateProbe e) := by
  unfold State.immediateProbe
  split
  · rename_i c sl t holder epoch d pr hst
    rw [hst] at hc
    refine Moves.after (moves_raiseWant hm (fun hE => ?_)) (moves_reclaim rfl hm hc)
    obtain ⟨x, hx, hid, -⟩ := hc hE
    exact ⟨{ x with state := .waiting c sl t holder epoch d none },
      List.mem_map.2 ⟨x, hx, if_pos hid⟩, hid⟩
  · exact .refl

theorem immediateProbe_restates : Restates State.immediateProbe := by
  intro s e
  refine ⟨member_of_beyondLock (immediateProbe_beyondLock s e), ?_⟩
  unfold State.immediateProbe
  split
  · rename_i hst
    rw [raiseWant_entries]
    exact .inr ⟨_, by rw [hst]; rfl, rfl⟩
  · exact .inl rfl

theorem notLost_of_waiting {e : LockEntry} {c : Context} {sl : SlotIx} {t : Ticket} {x : StationNo}
    {ep : Option Epoch} {d pr : Option Timer} (h : e.state = .waiting c sl t x ep d pr) :
    e.isLost = false := by
  simp [LockEntry.isLost, h]

theorem notLost_of_isRemoteWaiter {e : LockEntry} {own : StationNo} (h : e.isRemoteWaiter own = true) :
    e.isLost = false := by
  unfold LockEntry.isRemoteWaiter at h
  split at h
  · rename_i hst; exact notLost_of_waiting hst
  · exact nomatch h

theorem notLost_of_liveWaiter {e : LockEntry} {x : StationNo} (h : s.liveWaiter x e = true) :
    e.isLost = false := by
  unfold State.liveWaiter at h
  split at h
  · rename_i hst; exact notLost_of_waiting hst
  · exact nomatch h

theorem notLost_of_looksElsewhere {e : LockEntry} {own : StationNo} (h : e.looksElsewhere own = true) :
    e.isLost = false := by
  rcases e with ⟨id, r, st, held⟩
  cases st with
  | lost => exact nomatch h
  | _ => rfl

theorem moves_wakeWaiters (x : StationNo) : Moves p b s b (s.wakeWaiters x) := by
  refine Moves.honestly (fun b hb => moves_foldl_entries immediateProbe_restates
    (fun s e => moves_immediateProbe e) hb _ (fun e he => ?_))
  obtain ⟨he, hw⟩ := List.mem_filter.1 he
  exact ⟨he, notLost_of_isRemoteWaiter ((Bool.and_eq_true _ _).mp hw).1⟩

theorem moves_becomeLocal (e : LockEntry) (hm : b.lost → s.member.station = .member)
    (hc : b.entries → s.Claims e.id e.state.claim) : Moves p b s b (s.becomeLocal e) := by
  unfold State.becomeLocal
  split
  · rename_i hst
    rw [hst] at hc
    exact Moves.after (moves_setSlotStation _ _)
      (Moves.after (moves_withdrawOwner _) (moves_reclaim rfl hm hc))
  · exact .refl

theorem becomeLocal_restates : Restates State.becomeLocal := by
  intro s e
  refine ⟨member_of_beyondLock (becomeLocal_beyondLock s e), ?_⟩
  unfold State.becomeLocal
  split
  · rename_i hst
    refine .inr ⟨_, ?_, withdrawOwner_entries _ _⟩
    rw [hst]; rfl
  · exact .inl rfl

/-- R4, R68. -/
theorem moves_placeOthers (r : Resource) (x : Option StationNo) : Moves p b s b (s.placeOthers r x) := by
  refine Moves.honestly (fun b hb => ?_)
  unfold State.placeOthers
  dsimp only
  split
  · exact Moves.foldl (fun _ _ => moves_reevaluate _) _
  · refine Moves.trans (moves_foldl_entries becomeLocal_restates (fun s e => moves_becomeLocal e) hb _
      (fun e he => ?_)) (Moves.foldl (fun _ _ => moves_reevaluate _) _)
    obtain ⟨he, hlooks⟩ := List.mem_filter.1 (List.mem_of_mem_filter he)
    exact ⟨he, notLost_of_looksElsewhere ((Bool.and_eq_true _ _).mp hlooks).2⟩

/-! ### Queries answered locally (R49) -/

theorem removeFrame_queries (s : State) (f : FrameRecord) :
    (s.removeFrame f).lock.queries = s.lock.queries := by
  have hadmit : ∀ u : State, u.admitWant.lock.queries = u.lock.queries := by
    intro u
    unfold State.admitWant
    split
    · rfl
    · split <;> rfl
  unfold State.removeFrame
  dsimp only
  split
  · exact hadmit _
  · rfl

@[simp] theorem withdrawOwner_queries (s : State) (o : Owner) :
    (s.withdrawOwner o).lock.queries = s.lock.queries := by
  unfold State.withdrawOwner State.withdrawFrame
  dsimp only
  split
  · split
    · rfl
    · exact removeFrame_queries _ _
  · rfl

theorem freeQuery_queries (s : State) (id : Nat) :
    (s.freeQuery id).lock.queries = s.lock.queries.filter (fun q => decide (q.id ≠ id)) := by
  unfold State.freeQuery; rw [withdrawOwner_queries]; rfl

/-- A pending QUERY that is there completes and is gone. -/
theorem moves_endQuery {q : PendingQuery} (h : b.queries → s.querySlotsAt q.id = {q.slot}) (c : Code)
    (r : SlotResult) : Moves p b s b ((s.freeQuery q.id).complete q.slot c r) :=
  (moves_freeQuery h).trans (moves_complete _ _ _)

theorem moves_endQueries (c : Code) (r : State → SlotResult) (l : List PendingQuery)
    (hd : b.queries → s.QueriesDistinct b.used)
    (hl : b.queries → (l.map PendingQuery.id).Nodup ∧ ∀ q ∈ l, q ∈ s.lock.queries) :
    Moves p b s b (l.foldl (fun s q => (s.freeQuery q.id).complete q.slot c (r s)) s) := by
  induction l generalizing s with
  | nil => exact .refl
  | cons q l ih =>
    have hqueries : ((s.freeQuery q.id).complete q.slot c (r s)).lock.queries
        = s.lock.queries.filter (fun x => decide (x.id ≠ q.id)) := by
      rw [complete_lock, freeQuery_queries]
    refine (moves_endQuery (fun hQ => querySlotsAt_of_mem (hd hQ) ((hl hQ).2 q List.mem_cons_self))
      c (r s)).trans (ih (fun hQ => ?_) (fun hQ => ?_))
    · rw [State.QueriesDistinct, hqueries]
      exact ⟨(hd hQ).1.sublist (List.filter_sublist.map _), fun x hx =>
        (hd hQ).2 x (List.mem_of_mem_filter hx)⟩
    · obtain ⟨hnodup, hmem⟩ := hl hQ
      obtain ⟨hq, hnodup⟩ := List.nodup_cons.1 hnodup
      refine ⟨hnodup, fun x hx => ?_⟩
      rw [hqueries]
      refine List.mem_filter.2 ⟨hmem x (List.mem_cons_of_mem _ hx), decide_eq_true (fun hid => hq ?_)⟩
      exact hid ▸ List.mem_map_of_mem hx

theorem moves_answerQueries (r : Resource) : Moves p b s b (s.answerQueries r) := by
  refine Moves.honestly (fun b hb => ?_)
  unfold State.answerQueries
  split
  · exact .refl
  · rename_i h _
    exact moves_endQueries .answered (fun s => s.heldResult .answered none h.contextByte h.span) _
      hb.queries (fun hQ => ⟨(hb.queries hQ).1.sublist (List.filter_sublist.map _),
        fun q hq => List.mem_of_mem_filter hq⟩)

theorem moves_settleHolder (r : Resource) (x : Option StationNo) : Moves p b s b (s.settleHolder r x) :=
  (moves_placeOthers r x).trans (moves_answerQueries r)

/-! ### Release, handoff and the GRANT chain (R50 to R59) -/

theorem span_le {h : LockEntry} {n : Nat} (hh : h.isHolder = true) (hs : h.SpanWithin n) :
    h.span.toNat ≤ n := by
  rcases h with ⟨id, r, st, held⟩
  cases st with
  | holding c m serve issue noted => exact hs.2
  | handing serve issue offered g => exact hs.2.2
  | _ => exact nomatch hh

/-- The span after serve goes up by one. -/
theorem spanOf_serve_succ {serve issue : Ticket} {n : Nat} (h : spanOf serve issue ≠ 0)
    (hn : (spanOf serve issue).toNat ≤ n) : (issue - (serve + 1) - 1).toNat ≤ n := by
  have hpred : issue - (serve + 1) - 1 = spanOf serve issue - 1 := by unfold spanOf; bv_omega
  rw [hpred]
  generalize spanOf serve issue = x at *
  bv_omega

theorem one_le_span {serve issue : Ticket} (h : spanOf serve issue ≠ 0) :
    1 ≤ (issue - serve - 1).toNat := by
  have h : issue - serve - 1 ≠ 0 := h
  generalize issue - serve - 1 = x at *
  bv_omega

/-- A holder entry goes and its lock is free: its place names no slot. -/
theorem moves_freeHolder {h : LockEntry} (hh : h ∈ s.lock.entries) (hs : h.slot = none) :
    Moves p b s b (s.freeEntry h.id) := by
  refine Moves.honestly (fun b hb => ?_)
  have hm := moves_freeEntry (p := p) (b := b) (s := s) (id := h.id) (m := 0) (fun hE => by
    rw [slotsAt_of_mem (hb.entries hE) hh, hs]; rfl)
  rwa [Ledger.push_zero] at hm

theorem mem_freeEntry {id : Nat} {e : LockEntry} (he : e ∈ s.lock.entries) (hne : e.id ≠ id) :
    e ∈ (s.freeEntry id).lock.entries := by
  rw [freeEntry_entries]
  exact List.mem_filter.2 ⟨he, decide_eq_true hne⟩

@[simp] theorem freeEntry_member (s : State) (id : Nat) : (s.freeEntry id).member = s.member :=
  member_of_beyondLock (freeEntry_beyondLock s id)

theorem freeEntry_spanLimit (s : State) (id : Nat) : (s.freeEntry id).spanLimit = s.spanLimit := by
  rw [State.spanLimit, config_of_shell (shell_of_beyondLock (freeEntry_beyondLock s id))]; rfl

theorem not_holder_of_claimant {e : LockEntry} {c : Claimant} (h : e.claimant = some c) :
    e.isHolder = false := (facts_of_claim (claim_of_claimant h).1).2.2.1

theorem id_ne_of_holder {n : Nat} (hd : s.EntriesDistinct n) {h w : LockEntry} (hh : h ∈ s.lock.entries)
    (hholder : h.isHolder = true) (hw : w ∈ s.lock.entries) {c : Claimant} (hc : w.claimant = some c) :
    w.id ≠ h.id := by
  intro hid
  rw [← entry_unique hd hw hh hid, not_holder_of_claimant hc] at hholder
  exact nomatch hholder

theorem compatible_of_ne {l : List LockEntry} (h : l.Pairwise LockEntry.Compatible) {x y : LockEntry}
    (hx : x ∈ l) (hy : y ∈ l) (hne : x ≠ y) : x.Compatible y := by
  have : Std.Symm LockEntry.Compatible := ⟨fun _ _ => LockEntry.Compatible.symm⟩
  exact h.forall hx hy hne

/-- R53: the holder entry goes, and a waiter of its resource takes its place. -/
theorem moves_handoff {h w : LockEntry} (hh : h ∈ s.lock.entries) (hholder : h.isHolder = true)
    (hw : w ∈ s.lock.entries) {c : Claimant} (hc : w.claimant = some c) (hr : w.resource = h.resource)
    (hspan : h.span ≠ 0) : Moves p b s b (s.handoff h w) := by
  refine Moves.honestly (fun b hb => ?_)
  have hholding : Moves p b s b ((s.freeEntry h.id).enterHolding w (h.serve + 1) h.issue) := by
    refine Moves.trans (moves_freeHolder hh (facts_of_holder hholder).1) (moves_enterHolding ?_ ?_ ?_ ?_)
    · rw [freeEntry_member]; exact hb.member hh (facts_of_holder hholder).2
    · exact fun hE => mem_freeEntry hw (id_ne_of_holder (hb.entries hE) hh hholder hw hc)
    · rw [freeEntry_spanLimit]
      exact fun hS => spanOf_serve_succ hspan (span_le hholder (hb.spans hS h hh))
    · intro hE hO z hz hzr
      rw [freeEntry_entries] at hz
      obtain ⟨hz, hne⟩ := List.mem_filter.1 hz
      have hzh : h ≠ z := fun heq => of_decide_eq_true hne (congrArg LockEntry.id heq.symm)
      have hcompat := compatible_of_ne (hb.owners hO) hh hz hzh
      exact (hcompat.2 (hr.symm.trans hzr.symm)).2.2.2 hholder
  unfold State.handoff
  dsimp only
  split
  · exact hholding
  · exact hholding.trans (moves_placeOthers _ _)

/-- R52: the local waiter that is found. -/
theorem localWaiter_some {r : Resource} {t : Ticket} {w : LockEntry} (h : s.localWaiter r t = some w) :
    w ∈ s.lock.entries ∧ w.resource = r ∧ ∃ c, w.claimant = some c := by
  unfold State.localWaiter at h
  have hfound := List.find?_some h
  obtain ⟨hr, hw⟩ := (Bool.and_eq_true _ _).mp hfound
  refine ⟨List.mem_of_find?_eq_some h, of_decide_eq_true hr, ?_⟩
  split at hw
  · rename_i hst; exact ⟨_, by rw [LockEntry.claimant, hst]⟩
  · exact nomatch hw

theorem mem_setEntry_self {e : LockEntry} (he : e ∈ s.lock.entries) (st : EntryState) :
    { e with state := st } ∈ (s.setEntry e.id st).lock.entries :=
  List.mem_map.2 ⟨e, he, if_pos rfl⟩

/-- R54, R57: a holder entry is HANDING from here on. -/
theorem moves_setHanding {h : LockEntry} (hh : h ∈ s.lock.entries) (hholder : h.isHolder = true)
    {serve issue offered : Ticket} {g : Option Timer}
    (hspan : s.SpansHold →
      offered = serve + 1 ∧ 1 ≤ (issue - serve - 1).toNat ∧ (issue - serve - 1).toNat ≤ s.spanLimit) :
    Moves p b s b (s.setEntry h.id (.handing serve issue offered g)) := by
  refine Moves.honestly (fun b hb => ?_)
  have hmove := Move.restate (p := p) (b := b) (s := s) h.id (.handing serve issue offered g) 0
    (hb.member hh (facts_of_holder hholder).2) (fun hS _ => hspan (hb.spans hS))
    (fun _ => ⟨h, hh, rfl, .hands serve issue offered g hholder⟩)
  rw [Ledger.push_zero] at hmove
  exact hmove.moves

theorem moves_wantOf {e : LockEntry} (he : e ∈ s.lock.entries) (hl : e.isLost = false) :
    Moves p b s b (s.raiseWant (.entry e.id)) :=
  Moves.honestly (fun _ hb => moves_raiseWant (hb.member he hl) (fun _ => ⟨e, he, rfl⟩))

/-- R52 to R54. -/
theorem moves_releaseLock {h : LockEntry} (hh : h ∈ s.lock.entries) (hholder : h.isHolder = true) :
    Moves p b s b (s.releaseLock h) := by
  unfold State.releaseLock
  split
  · exact moves_freeHolder hh (facts_of_holder hholder).1
  · rename_i hspan
    split
    · rename_i w hw
      obtain ⟨hmem, hr, c, hc⟩ := localWaiter_some hw
      exact moves_handoff hh hholder hmem hc hr hspan
    · have hwant := moves_wantOf (p := p) (b := b)
        (mem_setEntry_self hh (.handing h.serve h.issue (h.serve + 1) none)) rfl
      exact Moves.trans (moves_setHanding hh hholder (fun hS => ⟨rfl, one_le_span hspan,
        span_le hholder (hS h hh)⟩)) hwant

theorem moves_convertWaiter (x : StationNo) (o i : Ticket) (e : LockEntry)
    (hm : b.lost → s.member.station = .member) (hc : b.entries → s.Claims e.id e.state.claim) :
    Moves p b s b (s.convertWaiter x o i e) := by
  unfold State.convertWaiter
  split
  · rename_i c sl t holder epoch d pr hst
    rw [hst] at hc
    have hset : ∀ st : EntryState, st.claim = some (c, sl) →
        Moves p b s b ((s.setEntry e.id st).setSlotStation sl (some x)) := fun st h =>
      Moves.after (moves_setSlotStation _ _) (moves_reclaim h hm hc)
    dsimp only
    split
    · exact hset _ rfl
    · refine (hset _ rfl).trans (moves_raiseWant hm (fun hE => ?_))
      obtain ⟨y, hy, hid, -⟩ := hc hE
      exact ⟨_, List.mem_map.2 ⟨y, hy, if_pos hid⟩, hid⟩
  · exact .refl

theorem convertWaiter_restates (x : StationNo) (o i : Ticket) :
    Restates (fun s e => s.convertWaiter x o i e) := by
  intro s e
  refine ⟨member_of_beyondLock (convertWaiter_beyondLock s x o i e), ?_⟩
  show (s.convertWaiter x o i e).lock.entries = _ ∨ ∃ st : EntryState, _ ∧
    (s.convertWaiter x o i e).lock.entries = _
  unfold State.convertWaiter
  split
  · rename_i c sl t holder epoch d pr hst
    refine .inr ⟨.waiting c sl t x (some (s.record x).epoch) d
      (if decide ((t - o).toNat < (i - o).toNat) = true then some s.probeInterval else none),
      by rw [hst]; rfl, ?_⟩
    dsimp only
    by_cases hqueued : decide ((t - o).toNat < (i - o).toNat) = true
    · rw [if_pos hqueued]; rfl
    · rw [if_neg hqueued, raiseWant_entries]; rfl
  · exact .inl rfl

theorem localWaiters_mem {r : Resource} {w : LockEntry} (h : w ∈ s.localWaiters r) :
    w ∈ s.lock.entries ∧ ∃ c, w.claimant = some c := by
  obtain ⟨hw, hwait⟩ := List.mem_filter.1 h
  refine ⟨hw, ?_⟩
  have hwait := ((Bool.and_eq_true _ _).mp hwait).2
  split at hwait
  · rename_i hst; exact ⟨_, by rw [LockEntry.claimant, hst]⟩
  · exact nomatch hwait

/-- R55: the HANDING entry goes, and the local waiters look to the taker. -/
theorem moves_grantTakenBy {e : LockEntry} (he : e ∈ s.lock.entries) (hholder : e.isHolder = true)
    (x : StationNo) (o i : Ticket) : Moves p b s b (s.grantTakenBy e x o i) := by
  refine Moves.honestly (fun b hb => ?_)
  refine (moves_freeHolder he (facts_of_holder hholder).1).trans
    (moves_foldl_claims (convertWaiter_restates x o i) (fun s e => moves_convertWaiter x o i e) _ ?_ ?_ ?_)
  · rw [freeEntry_member]
    exact fun _ _ => hb.member he (facts_of_holder hholder).2
  · refine fun hE => distinct_of_sublist ?_ (hb.entries hE)
    rw [freeEntry_entries]
    exact List.filter_sublist
  · intro hE w hw
    obtain ⟨hmem, c, hc⟩ := localWaiters_mem hw
    exact claims_of_mem (mem_freeEntry hmem (id_ne_of_holder (hb.entries hE) he hholder hmem hc))

theorem isHolder_handing {e : LockEntry} {a i o : Ticket} {g : Option Timer}
    (h : e.state = .handing a i o g) : e.isHolder = true := by
  rw [LockEntry.isHolder, h]

/-- R56, R57: the chain takes one step. -/
theorem moves_chainStep {e : LockEntry} (he : e ∈ s.lock.entries) {serve issue offered : Ticket}
    {g : Option Timer} (hst : e.state = .handing serve issue offered g) :
    Moves p b s b (s.chainStep e issue offered) := by
  have hholder := isHolder_handing hst
  unfold State.chainStep
  split
  · exact moves_freeHolder he (facts_of_holder hholder).1
  · rename_i hlast
    have hspan : spanOf offered issue ≠ 0 := by unfold spanOf; bv_omega
    have hset : Moves p b s b (s.setEntry e.id (.handing offered issue (offered + 1) none)) := by
      refine moves_setHanding he hholder (fun hS => ⟨rfl, one_le_span hspan, ?_⟩)
      have hwithin := hS e he
      simp only [LockEntry.SpanWithin, hst] at hwithin
      obtain ⟨rfl, hone, hle⟩ := hwithin
      refine spanOf_serve_succ (fun h0 => ?_) hle
      rw [show issue - serve - 1 = 0 from h0] at hone
      exact absurd hone (by decide)
    have hmem := mem_setEntry_self he (.handing offered issue (offered + 1) none)
    dsimp only
    split
    · rename_i w hw
      obtain ⟨hwm, hr, c, hc⟩ := localWaiter_some hw
      exact hset.trans (moves_handoff hmem rfl hwm hc hr hspan)
    · have hwant := moves_wantOf (p := p) (b := b) hmem rfl
      exact hset.trans hwant

theorem moves_grantDamaged {e : LockEntry} (he : e ∈ s.lock.entries) (hholder : e.isHolder = true) :
    Moves p b s b (s.grantDamaged e) :=
  (moves_freeHolder he (facts_of_holder hholder).1).trans (Moves.foldl (fun _ _ => moves_reevaluate _) _)

theorem moves_grantEnded (id : Nat) (o i : Ticket) (a : Answer) : Moves p b s b (s.grantEnded id o i a) := by
  unfold State.grantEnded
  split
  · exact .refl
  · rename_i e he
    have he := mem_of_entry he
    split
    · rename_i hst
      have hholder := isHolder_handing hst
      split
      · exact moves_chainStep he hst
      · split
        · exact moves_grantTakenBy he hholder _ _ _
        · exact moves_grantDamaged he hholder
      · exact moves_grantDamaged he hholder
    · exact .refl

/-! ### The end of a wait, and held actions (R38 to R41) -/

/-- An entry that waits is freed, and its slot completes. -/
theorem moves_endClaim {e : LockEntry} (he : e ∈ s.lock.entries) {c : Claimant} (hc : e.claimant = some c)
    (k : Code) (r : SlotResult) : Moves p b s b ((s.freeEntry e.id).complete c.slot k r) :=
  Moves.honestly (fun _ hb =>
    (moves_freeEntry (fun hE => slotsAt_of_claim (hb.entries hE) he hc)).trans (moves_complete _ _ _))

theorem moves_endWait {e : LockEntry} (he : e ∈ s.lock.entries) (k : Code) :
    Moves p b s b (s.endWait e k) := by
  unfold State.endWait
  split
  · exact .refl
  · rename_i c hc
    exact (moves_endClaim he hc k _).thenIf (fun _ => moves_reevaluateDeferred _)

theorem moves_applyHeld (id : Nat) : Moves p b s b (s.applyHeld id) := by
  unfold State.applyHeld
  split
  · exact .refl
  · rename_i e he
    split
    · exact .refl
    · split
      · exact moves_endWait (mem_of_entry he) _
      · exact moves_clearHeld id

theorem moves_endQueryOf {q : PendingQuery} (hq : q ∈ s.lock.queries) (k : Code) (r : SlotResult) :
    Moves p b s b ((s.freeQuery q.id).complete q.slot k r) :=
  Moves.honestly (fun _ hb => moves_endQuery (fun hQ => querySlotsAt_of_mem (hb.queries hQ) hq) k r)

theorem moves_applyHeldCancel (id : Nat) : Moves p b s b (s.applyHeldCancel id) := by
  unfold State.applyHeldCancel
  split
  · exact .refl
  · rename_i q hq
    obtain ⟨hmem, rfl⟩ := mem_of_query hq
    split
    · exact moves_endQueryOf hmem _ _
    · exact .refl

/-! ### Outcomes of CLAIM, GRANT and QUERY frames -/

/-- R66. -/
theorem moves_waitAt {e : LockEntry} (he : e ∈ s.lock.entries) {c : Claimant} (hc : e.claimant = some c)
    (t : Ticket) (x : StationNo) : Moves p b s b (s.waitAt c t x) :=
  Moves.honestly (fun _ hb => Moves.after (moves_setSlotStation _ _)
    (moves_putEntry he hc rfl (hb.member he (notLost_of_claimant hc))))

theorem moves_claimRetry {e : LockEntry} (he : e ∈ s.lock.entries) {c : Claimant}
    (hc : e.claimant = some c) : Moves p b s b (s.retryPending c) :=
  Moves.honestly (fun _ hb => moves_retryPending he hc (hb.member he (notLost_of_claimant hc)))

theorem moves_claimBusy {e : LockEntry} (he : e ∈ s.lock.entries) {c : Claimant} (hc : e.claimant = some c)
    (x : StationNo) : Moves p b s b (s.claimBusy c x) := by
  obtain ⟨-, hid, -⟩ := claim_of_claimant hc
  unfold State.claimBusy
  rw [hid]
  exact moves_endClaim he hc _ _

/-- R31, R75: a claim is answered NONE: it holds, with span 0. -/
theorem moves_claimHolds {e : LockEntry} (he : e ∈ s.lock.entries) {c : Claimant}
    (hc : e.claimant = some c) (hfree : s.holderOf e.resource = none) (t : Ticket) :
    Moves p b s b (s.enterHolding e t (t + 1)) := by
  refine Moves.honestly (fun _ hb => moves_enterHolding (hb.member he (notLost_of_claimant hc))
    (fun _ => he) (fun _ => ?_) (fun _ _ => holderOf_none hfree))
  have hzero : t + 1 - t - 1 = 0 := by bv_omega
  rw [hzero]
  exact Nat.zero_le _

theorem moves_freshOutcome {e : LockEntry} (he : e ∈ s.lock.entries) {c : Claimant}
    (hc : e.claimant = some c) (hfree : s.holderOf e.resource = none) (a : Answer) :
    Moves p b s b (s.freshOutcome e c a) := by
  unfold State.freshOutcome
  split
  · exact moves_claimHolds he hc hfree 0
  · exact moves_claimRetry he hc
  · split
    · split
      · split
        · exact moves_claimBusy he hc _
        · exact moves_waitAt he hc _ _
      · split
        · exact moves_claimBusy he hc _
        · exact moves_claimRetry he hc
      · split
        · exact moves_claimBusy he hc _
        · exact moves_claimRetry he hc
      · exact moves_claimRetry he hc
    · exact moves_claimRetry he hc

theorem moves_restartProbe {e : LockEntry} (he : e ∈ s.lock.entries) :
    Moves p b s b (s.restartProbe e) := by
  refine Moves.honestly (fun _ hb => ?_)
  unfold State.restartProbe
  split
  · rename_i hst
    have hclaim := claims_of_mem he
    rw [hst] at hclaim
    exact moves_reclaim rfl (hb.member he (notLost_of_waiting hst)) (fun _ => hclaim)
  · exact .refl

theorem moves_probeOutcome {e : LockEntry} (he : e ∈ s.lock.entries) {c : Claimant}
    (hc : e.claimant = some c) (hfree : s.holderOf e.resource = none) (t : Ticket) (a : Answer) :
    Moves p b s b (s.probeOutcome e c t a) := by
  unfold State.probeOutcome
  split
  · exact moves_claimHolds he hc hfree t
  · split
    · exact moves_restartProbe he
    · exact moves_claimRetry he hc
  · split
    · exact moves_waitAt he hc _ _
    · exact moves_claimRetry he hc
  · exact moves_claimRetry he hc

theorem moves_claimDiscarded (id : Nat) : Moves p b s b (s.claimDiscarded id) := by
  unfold State.claimDiscarded
  split
  · exact .refl
  · split
    · exact ((moves_reevaluate id).trans (moves_applyHeld id)).thenIf
        (fun _ => moves_reevaluateDeferred _)
    · exact .refl

theorem moves_claimEnded (id : Nat) (t : Option Ticket) (a : Answer) :
    Moves p b s b (s.claimEnded id t a) := by
  unfold State.claimEnded
  split
  · exact .refl
  · rename_i e he
    have he := mem_of_entry he
    split
    · exact .refl
    · rename_i c hc
      split
      · exact moves_claimDiscarded id
      · rename_i hfree
        have hfree : s.holderOf e.resource = none := by simpa using hfree
        split
        · dsimp only
          have hout := (moves_freshOutcome (p := p) (b := b) he hc hfree a).trans (moves_applyHeld id)
          split
          · exact hout.trans (moves_settleHolder _ _)
          · exact hout.trans (moves_reevaluateDeferred _)
        · exact ((moves_probeOutcome he hc hfree _ a).trans (moves_applyHeld id)).thenIf
            (fun _ => moves_settleHolder _ _)
        · exact .refl

theorem moves_queryEnded (id : Nat) (a : Answer) : Moves p b s b (s.queryEnded id a) := by
  unfold State.queryEnded
  split
  · exact .refl
  · rename_i q hq
    obtain ⟨hmem, rfl⟩ := mem_of_query hq
    dsimp only
    split
    · exact moves_endQueryOf hmem _ _
    · split
      · exact moves_endQueryOf hmem _ _
      · exact moves_endQueryOf hmem _ _
    · exact moves_endQueryOf hmem _ _

theorem moves_entryAbandoned (id : Nat) : Moves p b s b (s.entryAbandoned id) := by
  unfold State.entryAbandoned
  split
  · exact .refl
  · rename_i e he
    obtain rfl := id_of_entry he
    have he := mem_of_entry he
    split
    · exact moves_endWait he _
    · exact (moves_restartProbe he).trans (moves_applyHeld _)
    · rename_i hst
      refine moves_setHanding he (isHolder_handing hst) (fun hS => ?_)
      have hwithin := hS e he
      simpa only [LockEntry.SpanWithin, hst] using hwithin
    · exact .refl

theorem moves_queryAbandoned (id : Nat) : Moves p b s b (s.queryAbandoned id) := by
  unfold State.queryAbandoned
  split
  · exact .refl
  · rename_i q hq
    obtain ⟨hmem, rfl⟩ := mem_of_query hq
    exact moves_endQueryOf hmem _ _

/-! ### Followed GRANTs (R79) -/

theorem moves_followTaker (x : StationNo) (e : LockEntry) (hm : b.lost → s.member.station = .member)
    (hc : b.entries → s.Claims e.id e.state.claim) : Moves p b s b (s.followTaker x e) := by
  unfold State.followTaker
  split
  · rename_i hst
    rw [hst] at hc
    exact Moves.after (moves_setSlotStation _ _) (moves_reclaim rfl hm hc)
  · exact .refl

theorem followTaker_restates (x : StationNo) : Restates (fun s e => s.followTaker x e) := by
  intro s e
  refine ⟨member_of_beyondLock (followTaker_beyondLock s x e), ?_⟩
  show (s.followTaker x e).lock.entries = _ ∨ ∃ st : EntryState, _ ∧
    (s.followTaker x e).lock.entries = _
  unfold State.followTaker
  split
  · rename_i hst
    refine .inr ⟨_, ?_, rfl⟩
    rw [hst]; rfl
  · exact .inl rfl

theorem moves_followGrant (x : StationNo) (r : Resource) (a : Answer) :
    Moves p b s b (s.followGrant x r a) := by
  refine Moves.honestly (fun b hb => ?_)
  have hmem : ∀ e ∈ s.lock.entries.filter (fun e => decide (e.resource = r) && s.liveWaiter x e),
      e ∈ s.lock.entries ∧ e.isLost = false := fun e he =>
    ⟨List.mem_of_mem_filter he,
      notLost_of_liveWaiter ((Bool.and_eq_true _ _).mp (List.mem_filter.1 he).2).2⟩
  have hprobe := moves_foldl_entries (p := p) immediateProbe_restates (fun s e => moves_immediateProbe e)
    hb _ hmem
  unfold State.followGrant
  dsimp only
  split
  · exact .refl
  · split
    · exact moves_foldl_entries (followTaker_restates _) (fun s e => moves_followTaker _ e) hb _ hmem
    · exact hprobe
  · exact hprobe

theorem moves_lockHeard (f : HeardFrame) (a : Answer) : Moves p b s b (s.lockHeard f a) := by
  unfold State.lockHeard
  split
  · split
    · exact moves_settleHolder _ _
    · exact moves_followGrant _ _ _
  · exact .refl

/-! ### The conversion (R17, R18) -/

theorem moves_completeAll (k : Code) (l : List SlotIx) :
    Moves p (b.push (l : Multiset SlotIx)) s b (l.foldl (fun s i => s.completeBare i k) s) := by
  induction l generalizing s with
  | nil => rw [Multiset.coe_nil, Ledger.push_zero]; exact .refl
  | cons i l ih =>
    have hpush : b.push ((i :: l : List SlotIx) : Multiset SlotIx) = (b.push (l : Multiset SlotIx)).push {i} := by
      rw [Ledger.push_push, Multiset.singleton_add, Multiset.cons_coe]
    rw [hpush]
    exact (moves_complete i k _).trans ih

theorem moves_convert (k : Code) : Moves p b s b (s.convert k) := by
  have hbag : ((s.waitingSlots : List SlotIx) : Multiset SlotIx) = (s.namedSlots : List SlotIx) :=
    Multiset.coe_eq_coe.2 (waitingSlots_perm s)
  have hfalls := Move.falls (p := p) b s
  rw [← hbag] at hfalls
  refine (hfalls.moves.trans (Move.thin (fun f =>
    if f.kind.isLock then if s.onLink f then some { f with withdrawn := true } else none else some f)
    (fun f f' h => ?_)).moves).trans (moves_completeAll k _)
  split at h
  · split at h
    · obtain rfl := Option.some.inj h; exact ⟨rfl, rfl, rfl, rfl, fun _ => rfl⟩
    · exact nomatch h
  · obtain rfl := Option.some.inj h; exact Follows.refl f

end Sys2Proof.Machine
end

section
/-! PROOFS. The taking of a slot, and the answer demand, as rows of moves. -/

namespace Sys2Proof.Machine

open Sys2Proof

variable {p : State → State → Prop} {b : Ledger} {s : State}

/-! ### A slot that is taken (R147) -/

/-- The ledger after a taking: its place is in use. -/
def Ledger.next (b : Ledger) : Ledger := { b with used := b.used + 1 }

theorem moves_next (m : Multiset SlotIx) (h : b.used < s.lock.takings) :
    Moves p (b.push m) s (b.next.push m) s :=
  (Move.reserve (b := b.push m) (b.used + 1) (Nat.le_succ _) h).moves

/-- The slot taken completes at once. -/
theorem moves_completeTaken {i : SlotIx} (h : b.used < s.lock.takings) (k : Code) (r : SlotResult) :
    Moves p (b.push {i}) s b.next (s.complete i k r) := (moves_next _ h).trans (moves_complete i k r)

/-! ### ACQUIRE (R19 to R28) -/

theorem entryOf_some {c : Context} {r : Resource} {e : LockEntry} (h : s.entryOf c r = some e) :
    e ∈ s.lock.entries ∧ e.context = some c := by
  refine ⟨List.mem_of_find?_eq_some h, ?_⟩
  have := List.find?_some h
  simp only [Bool.and_eq_true, decide_eq_true_eq] at this
  exact this.2

/-- What an ACQUIRE that reaches step 7 brings with it. -/
structure Entering (b : Ledger) (s : State) (c : Claimant) : Prop where
  member : s.member.station = .member
  room   : s.lock.entries.length < 32
  new    : ∀ e ∈ s.lock.entries, e.resource = c.resource → e.isLost = false ∧ e.context ≠ some c.context
  limit  : s.countedEntries c.context < s.holdLimit c.context
  id     : c.id = b.used
  taken  : c.id < s.lock.takings
  fresh  : b.entries → ∀ e ∈ s.lock.entries, e.id ≠ c.id

theorem Entering.putEntry {c : Claimant} (h : Entering b s c) {st : EntryState}
    (hst : st.claim = some (c.context, c.slot)) :
    Moves p (b.push {c.slot}) s b.next ((s.putEntry c st).setSlotStation c.slot none) ∧
    ∀ x, Moves p (b.push {c.slot}) s b.next ((s.putEntry c st).setSlotStation c.slot x) := by
  have hm := (Move.enters (p := p) c st hst h.member h.room h.new h.limit h.id h.taken).moves
  exact ⟨hm.trans (moves_setSlotStation _ _), fun x => hm.trans (moves_setSlotStation _ _)⟩

/-- R23 to R28 for a new request. -/
theorem moves_evaluateNew {c : Claimant} (hb : b.Honest s) (h : Entering b s c) :
    Moves p (b.push {c.slot}) s b.next (s.evaluate c) := by
  have htaken : b.used < s.lock.takings := h.id ▸ h.taken
  unfold State.evaluate
  split
  · rename_i x hx
    obtain ⟨hmem, -, hholder⟩ := holderOf_some hx
    split
    · have hfree := moves_freeEntry (p := p) (b := b.next.push {c.slot}) (s := s) (id := c.id) (m := 0)
        (fun hE => slotsAt_of_fresh (h.fresh hE))
      rw [Ledger.push_zero] at hfree
      exact ((moves_next _ htaken).trans hfree).trans (moves_complete _ _ _)
    · split
      · rename_i hroom
        refine Moves.after (moves_issueTicket hholder ?_ (fun hE => ?_) (fun hS => ?_) ?_)
          ((h.putEntry rfl).2 _)
        · simpa [State.setSlotStation, State.setSlot] using fun _ => h.member
        · simp only [State.setSlotStation, State.setSlot, State.withRing_lock]
          rw [putEntry_new c _ (h.fresh hE)]
          exact List.mem_append_left _ hmem
        · simpa [State.setSlotStation, State.setSlot, State.spanLimit] using hb.spans hS x hmem
        · simpa [State.setSlotStation, State.setSlot, State.spanLimit] using hroom
      · exact (h.putEntry rfl).1
  · split
    · exact (h.putEntry rfl).1
    · refine Moves.after (moves_raiseWant ?_ (fun hE => ?_)) (h.putEntry rfl).1
      · simpa [State.setSlotStation, State.setSlot] using fun _ => h.member
      · simp only [State.Owned, State.setSlotStation, State.setSlot, State.withRing_lock]
        rw [putEntry_new c _ (h.fresh hE)]
        exact ⟨_, List.mem_append_right _ (List.mem_singleton_self _), rfl⟩

/-- R22, R50: a holding's count changes. -/
theorem moves_recount {e : LockEntry} (he : e ∈ s.lock.entries) {c : Context} {n n' : Byte}
    {serve issue : Ticket} {noted : Bool} (hst : e.state = .holding c n serve issue noted)
    (hn : 1 ≤ n'.toNat) : Moves p b s b (s.setEntry e.id (.holding c n' serve issue noted)) := by
  have hholder : e.isHolder = true := by rw [LockEntry.isHolder, hst]
  have hcontext : e.context = some c := by rw [LockEntry.context, hst]
  refine Moves.honestly (fun b hb => ?_)
  have hmove := Move.restate (p := p) (b := b) (s := s) e.id (.holding c n' serve issue noted) 0
    (hb.member he (facts_of_holder hholder).2) (fun hS _ => ?_)
    (fun _ => ⟨e, he, rfl, .serves c n' serve issue noted hholder hcontext⟩)
  · rw [Ledger.push_zero] at hmove
    exact hmove.moves
  · have hwithin := hb.spans hS e he
    simp only [LockEntry.SpanWithin, hst] at hwithin
    exact ⟨hn, hwithin.2⟩

theorem moves_acquire {c : Claimant} (hb : b.Honest s) (hid : c.id = b.used)
    (htaken : c.id < s.lock.takings) : Moves p (b.push {c.slot}) s b.next (s.acquire c) := by
  have hused : b.used < s.lock.takings := hid ▸ htaken
  unfold State.acquire
  split
  · exact moves_completeTaken hused _ _
  · rename_i hmember
    split
    · exact moves_completeTaken hused _ _
    · split
      · rename_i e he
        obtain ⟨hmem, hcontext⟩ := entryOf_some he
        split
        · rename_i c' n serve issue noted hst
          split
          · rename_i hn
            obtain rfl : c' = c.context := by
              rw [LockEntry.context, hst] at hcontext; exact Option.some.inj hcontext
            refine Moves.trans (moves_recount hmem hst ?_) (moves_completeTaken (by exact hused) _ _)
            have hone : (1 : Byte).toNat = 1 := rfl
            rw [BitVec.toNat_add, hone]
            omega
          · exact moves_completeTaken hused _ _
        · exact moves_completeTaken hused _ _
        · exact moves_completeTaken hused _ _
      · rename_i hnone
        split
        · exact moves_completeTaken hused _ _
        · rename_i hlost
          split
          · exact moves_completeTaken hused _ _
          · rename_i hlimit
            split
            · exact moves_completeTaken hused _ _
            · rename_i hroom
              refine moves_evaluateNew hb ⟨not_not.1 hmember, Nat.lt_of_not_le hroom, fun e he hr => ⟨?_, ?_⟩,
                Nat.lt_of_not_le hlimit, hid, htaken, fun hE e he => hid ▸ ((hb.entries hE).2 e he).ne⟩
              · simpa [hr] using List.find?_eq_none.1 hlost e he
              · simpa [hr] using List.find?_eq_none.1 hnone e he

/-! ### RELEASE, QUERY and CANCEL (R40, R49, R50) -/

theorem moves_release {i : SlotIx} {c : Context} {r : Resource} :
    Moves p (b.push {i}) s b (s.release i c r) := by
  unfold State.release
  split
  · exact moves_complete _ _ _
  · rename_i e he
    obtain ⟨hmem, hcontext⟩ := entryOf_some he
    split
    · rename_i hst
      have hslot : e.slot = none := by rw [slot_eq_claim, hst]; rfl
      exact (moves_freeHolder hmem hslot).trans (moves_complete _ _ _)
    · rename_i c' n serve issue noted hst
      split
      · rename_i hn
        refine (moves_recount hmem hst ?_).trans (moves_complete _ _ _)
        have hone : (1 : Byte).toNat = 1 := rfl
        rw [BitVec.toNat_sub, hone]
        omega
      · refine (moves_complete i _ _).trans (moves_releaseLock ?_ ?_)
        · rw [complete_lock]; exact hmem
        · rw [LockEntry.isHolder, hst]
    · exact moves_complete _ _ _

theorem moves_queryRequest {id : Nat} {i : SlotIx} (hid : id = b.used) (htaken : id < s.lock.takings)
    (r : Resource) : Moves p (b.push {i}) s b.next (s.queryRequest id i r) := by
  have hused : b.used < s.lock.takings := hid ▸ htaken
  unfold State.queryRequest
  split
  · exact moves_completeTaken hused _ _
  · rename_i hmember
    split
    · exact moves_completeTaken hused _ _
    · exact (Move.asks ⟨id, i, r, false⟩ (not_not.1 hmember) hid htaken).moves.trans
        (moves_raiseWant (fun _ => not_not.1 hmember)
          (fun _ => ⟨_, List.mem_append_right _ (List.mem_singleton_self _), rfl⟩))

theorem entryAt_some {i : SlotIx} {e : LockEntry} (h : s.entryAt i = some e) : e ∈ s.lock.entries :=
  List.mem_of_find?_eq_some h

theorem queryAt_some {i : SlotIx} {q : PendingQuery} (h : s.queryAt i = some q) :
    q ∈ s.lock.queries ∧ q.slot = i :=
  ⟨List.mem_of_find?_eq_some h, by simpa using List.find?_some h⟩

theorem moves_cancel (i j : SlotIx) : Moves p (b.push {i}) s b (s.cancel i j) := by
  have hdone : Moves p (b.push {i}) s b (s.completeBare i .accepted) := moves_complete i _ _
  unfold State.cancel
  dsimp only
  split
  · rename_i e he
    split
    · exact hdone.trans (moves_holdAction _ _)
    · refine hdone.trans (moves_endWait ?_ _)
      rw [State.completeBare, complete_lock]
      exact entryAt_some he
  · split
    · rename_i q hq
      obtain ⟨hmem, rfl⟩ := queryAt_some hq
      split
      · refine hdone.trans (Move.relabelQueries _ (fun q => ?_)).moves
        split <;> exact ⟨rfl, rfl⟩
      · refine hdone.trans (moves_endQueryOf ?_ _ _)
        rw [State.completeBare, complete_lock]
        exact hmem
    · exact moves_complete _ _ _

/-! ### TAKING (R147) -/

theorem moves_hand {id : Nat} {i : SlotIx} (hb : b.Honest s) (hid : id = b.used)
    (htaken : id < s.lock.takings) (q : Request) : Moves p (b.push {i}) s b.next (s.hand id i q) := by
  have hused : b.used < s.lock.takings := hid ▸ htaken
  cases q with
  | acquire c r pol limit => exact moves_acquire (c := ⟨id, r, c, i, pol, limit.map deadlineOf⟩) hb hid htaken
  | release c r => exact (moves_next _ hused).trans moves_release
  | query r => exact moves_queryRequest hid htaken r
  | cancel j => exact (moves_next _ hused).trans (moves_cancel i j)

/-- R147: a well-formed request is taken. -/
theorem moves_takeRequest {i : SlotIx} (hb : b.Honest s) (hu : b.used = s.lock.takings)
    (hi : (s.slot i).state ≠ .pending) (q : Request) : Moves p b s b.next (s.takeRequest i q) := by
  have hopen : Moves p b s (b.push {i})
      (s.setSlot i { s.slot i with state := .pending, result := .absent }) :=
    (Move.takes i _ hi rfl).moves
  refine (hopen.trans (Move.count _ _).moves).trans (moves_hand ?_ hu.symm (Nat.lt_succ_self _) q)
  exact ⟨hb.entries, hb.queries, hb.owners, hb.spans, hb.lost⟩

theorem moves_advance : Moves p b s b s.advance := moves_withRing rfl

theorem moves_take (i : SlotIx) (hb : b.Honest s) (hu : b.used = s.lock.takings) :
    ∃ n, Moves p b s { b with used := n } (s.take i) := by
  unfold State.take
  split
  · exact ⟨b.used, moves_withRing rfl⟩
  · rename_i hst
    exact ⟨b.used, (moves_complete_idle (by rw [hst]; decide) _ _).trans moves_advance⟩
  · rename_i hst
    exact ⟨b.used, (moves_complete_idle (by rw [hst]; decide) _ _).trans moves_advance⟩
  · rename_i hst
    have hi : (s.slot i).state ≠ .pending := by rw [hst]; decide
    split
    · exact ⟨_, (moves_takeRequest hb hu hi _).trans moves_advance⟩
    · exact ⟨b.used, (moves_complete_idle hi _ _).trans moves_advance⟩

/-! ### The answer demand (R42 to R48, R77) -/

theorem grantTaker_some {x : StationNo} {r : Resource} {o i : Ticket} {e : LockEntry}
    (h : s.grantTaker x r o i = some e) :
    e ∈ s.lock.entries ∧ e.resource = r ∧ e.isLost = false ∧ (i - o - 1).toNat ≤ s.spanLimit := by
  unfold State.grantTaker at h
  split at h
  · rename_i hspan
    have hfound := List.find?_some h
    simp only [Bool.and_eq_true, decide_eq_true_eq] at hfound
    obtain ⟨⟨hr, hlive⟩, -⟩ := hfound
    refine ⟨List.mem_of_find?_eq_some h, hr, notLost_of_liveWaiter hlive, ?_⟩
    generalize i - o = x at *
    bv_omega
  · exact nomatch h

theorem moves_ticketOf {h : LockEntry} (hh : h ∈ s.lock.entries) (hholder : h.isHolder = true)
    (hroom : h.span.toNat < s.spanLimit) : Moves p b s b (s.issueTicket h) :=
  Moves.honestly (fun _ hb => moves_issueTicket hholder (hb.member hh (facts_of_holder hholder).2)
    (fun _ => hh) (fun hS => hb.spans hS h hh) hroom)

section
variable (hp : ∀ (u : State) (f : HeardFrame) (a : Option (BitVec 28)) (k : Option Nat),
  u.link = s.link → p u (u.setAnswer f a k))
include hp

theorem moves_setAnswer {u : State} (hu : Moves p b s b u) (hl : u.link = s.link) (f : HeardFrame)
    (a : Option (BitVec 28)) (k : Option Nat) : Moves p b s b (u.setAnswer f a k) :=
  hu.trans (Move.other (hp u f a k hl)).moves

theorem moves_answerClaim (f : HeardFrame) {h : LockEntry} (hh : h ∈ s.lock.entries)
    (hholder : h.isHolder = true) (t : Option Ticket) (nowait : Bool) :
    Moves p b s b (s.answerClaim f h t nowait) := by
  have hsilent : ∀ a, Moves p b s b (s.setAnswer f a none) := fun a => moves_setAnswer hp .refl rfl f a none
  have hissue : ∀ a, h.span.toNat < s.spanLimit →
      Moves p b s b ((s.issueTicket h).setAnswer f a none) := fun a hroom =>
    moves_setAnswer hp (moves_ticketOf hh hholder hroom)
      (link_of_beyondLock (issueTicket_beyondLock s h)) f a none
  unfold State.answerClaim
  split
  · split
    · exact hsilent _
    · split
      · rename_i hroom; exact hissue _ hroom
      · exact hsilent _
  · split
    · exact hsilent _
    · split
      · rename_i hroom; exact hissue _ hroom
      · exact hsilent _

theorem moves_answerDemand (f : HeardFrame) : Moves p b s b (s.answerDemand f) := by
  have hsilent : ∀ a, Moves p b s b (s.setAnswer f a none) := fun a => moves_setAnswer hp .refl rfl f a none
  unfold State.answerDemand
  split
  · split
    · rename_i h hh
      obtain ⟨hmem, -, hholder⟩ := holderOf_some hh
      exact moves_answerClaim hp f hmem hholder _ _
    · exact hsilent _
  · split
    · exact hsilent _
    · exact hsilent _
  · split
    · rename_i e hfree he
      obtain ⟨hmem, rfl, hlost, hspan⟩ := grantTaker_some he
      split
      · refine moves_setAnswer hp (Moves.honestly (fun _ hb => ?_))
          (link_of_beyondLock (enterHolding_beyondLock s e _ _)) f _ _
        exact moves_enterHolding (hb.member hmem hlost) (fun _ => hmem) (fun _ => hspan)
          (fun _ _ => holderOf_none hfree)
      · exact hsilent _
    · exact hsilent _
  · exact hsilent _

end

end Sys2Proof.Machine
end

section
/-! PROOFS. The membership unit, the outbound queue and the transceiver in small moves beside the lock engine's. -/

namespace Sys2Proof.Machine

open Sys2Proof

/-- The own frame on the link (R112 to R122). -/
def LinkState.ownFrame : LinkState → Option OwnFrame
  | .arbitrating o => some o
  | .sending o => some o
  | .sendingAnswer o => some o
  | _ => none

/-- A transceiver that passes no own frame and is not OFF. -/
def LinkState.hears (l : LinkState) : Prop := l.ownFrame = none ∧ l ≠ .off

/-- A small change of the membership unit, the transceiver or the host port that leaves the station state. What the
fit of the queued frames asks of it is asked only where `g` holds. -/
inductive SideMove (g : Prop) : State → State → Prop
  | record {s : State} (x : StationNo) (r : MemberRecord)
      (h : g → r.silence = (s.record x).silence ∨ r.silence = none ∨
        (x ≠ s.own ∧ (s.member.station ≠ .unconfigured ∨ s.link.state ≠ .off))) :
      SideMove g s (s.setRecord x r)
  | departs {s : State} (l : List (StationNo × Tag)) (h : l.Sublist s.member.departs) :
      SideMove g s (s.withDeparts l)
  | pends {s : State} (x : StationNo) (t : Tag) (h : g → s.member.station = .member ∧ x ≠ s.own) :
      SideMove g s (s.withDeparts (s.member.departs ++ [(x, t)]))
  | fills {s : State} (x : StationNo) (t : Tag) (rest : List (StationNo × Tag))
      (h : s.member.departs = (x, t) :: rest) :
      SideMove g s ((s.withDeparts rest).placeMember (.depart x t))
  | places {s : State} (c : FrameContent) (hc : c.kind.isLock = false)
      (h : g → (s.member.station = .joining ∧ c.kind = .join) ∨
        (s.member.station = .member ∧ (c.kind = .beacon ∨ ∃ x t, c = .depart x t ∧ x ≠ s.own))) :
      SideMove g s (s.placeMember c)
  | timers (s : State) (bt ft : Option Timer) :
      SideMove g s (s.withMember { s.member with beaconTimer := bt, fenceTimer := ft })
  | hush (s : State) : SideMove g s s.stopAllSilence
  | link {s : State} (x : Transceiver)
      (h : g → x.state.ownFrame = s.link.state.ownFrame ∧ (s.link.state = .off → x.state = .off)) :
      SideMove g s (s.withLink x)
  | clocks (s : State) : SideMove g s ((s.withMember s.member.tick).withLink s.link.tick)
  | shell {s t : State} (hlock : t.lock = s.lock) (hmember : t.member = s.member) (hlink : t.link = s.link)
      (hqueue : t.queue = s.queue) (hring : t.ring = s.ring) (hnotices : t.notices = s.notices)
      (hconfig : t.config = s.config) (hpop : t.port.popRecord = s.port.popRecord) : SideMove g s t

section
variable (s : State)

@[simp] theorem setRecord_config (x : StationNo) (r : MemberRecord) : (s.setRecord x r).config = s.config :=
  config_of_shell (setRecord_shell s x r)

@[simp] theorem setRecord_notices (x : StationNo) (r : MemberRecord) :
    (s.setRecord x r).notices = s.notices := by
  unfold State.setRecord; split <;> rfl

@[simp] theorem setRecord_port (x : StationNo) (r : MemberRecord) : (s.setRecord x r).port = s.port :=
  port_of_shell (setRecord_shell s x r)

@[simp] theorem setRecord_station (x : StationNo) (r : MemberRecord) :
    (s.setRecord x r).member.station = s.member.station := by
  unfold State.setRecord; split <;> rfl

@[simp] theorem setRecord_departs (x : StationNo) (r : MemberRecord) :
    (s.setRecord x r).member.departs = s.member.departs := by
  unfold State.setRecord; split <;> rfl

@[simp] theorem setRecord_own (x : StationNo) (r : MemberRecord) : (s.setRecord x r).own = s.own := by
  rw [State.own, setRecord_config]; rfl

@[simp] theorem enterNotice_own (n : NoticeBody) : (s.enterNotice n).own = s.own := by
  rw [State.own, enterNotice_config]; rfl

@[simp] theorem enterNotice_record (n : NoticeBody) (x : StationNo) :
    (s.enterNotice n).record x = s.record x := by
  unfold State.record; rw [enterNotice_member]

@[simp] theorem placeMember_notices (c : FrameContent) : (s.placeMember c).notices = s.notices := by
  unfold State.placeMember; split <;> rfl

@[simp] theorem placeMember_member (c : FrameContent) : (s.placeMember c).member = s.member := by
  unfold State.placeMember; split <;> rfl

@[simp] theorem placeMember_link (c : FrameContent) : (s.placeMember c).link = s.link := by
  unfold State.placeMember; split <;> rfl

@[simp] theorem placeMember_config (c : FrameContent) : (s.placeMember c).config = s.config :=
  config_of_shell (placeMember_shell s c)

@[simp] theorem placeMember_port (c : FrameContent) : (s.placeMember c).port = s.port :=
  port_of_shell (placeMember_shell s c)

theorem placeMember_lockFrames {c : FrameContent} (hc : c.kind.isLock = false) :
    (s.placeMember c).lockFrames = s.lockFrames := by
  rw [State.lockFrames, State.lockFrames, List.countP_eq_length_filter, List.countP_eq_length_filter,
    filter_lock_placeMember s c hc]

theorem placeMember_beyond {c : FrameContent} (hc : c.kind.isLock = false) :
    Beyond s (s.placeMember c) :=
  ⟨by simp, by simp, by simp, by simp, by simp, (placeMember_lockFrames s hc).le, by simp,
    fun h => .inl (by simpa using h)⟩

end

theorem Beyond.trans {s t u : State} (h : Beyond s t) (h' : Beyond t u) : Beyond s u := by
  refine ⟨h'.lock.trans h.lock, h'.slots.trans h.slots, h'.notices.trans h.notices, h'.config.trans h.config,
    h'.pop.trans h.pop, h'.frames.trans h.frames, h'.configured.trans h.configured, fun hu => ?_⟩
  rcases h'.leaves hu with ht | hquiet
  · exact h.leaves ht
  · rw [h.lock] at hquiet; exact .inr hquiet

/-- A change of the membership unit that leaves the station state. -/
theorem Beyond.ofMember (s : State) (m : MembershipUnit) (h : m.station = s.member.station) :
    Beyond s (s.withMember m) :=
  ⟨rfl, rfl, rfl, rfl, rfl, le_refl _, by simp [h], fun hm => .inl (by simpa [h] using hm)⟩

theorem SideMove.beyond {g : Prop} {s t : State} (h : SideMove g s t) : Beyond s t := by
  cases h with
  | record x r =>
    unfold State.setRecord
    split
    · exact Beyond.ofMember s s.member rfl
    · exact Beyond.ofMember s _ rfl
  | departs l => exact Beyond.ofMember s _ rfl
  | pends x t => exact Beyond.ofMember s _ rfl
  | fills x t rest => exact (Beyond.ofMember s { s.member with departs := rest } rfl).trans (placeMember_beyond _ rfl)
  | places c hc => exact placeMember_beyond s hc
  | timers => exact Beyond.ofMember s _ rfl
  | hush => exact Beyond.ofMember s _ rfl
  | link x => exact ⟨rfl, rfl, rfl, rfl, rfl, le_refl _, .rfl, .inl⟩
  | clocks => exact ⟨rfl, rfl, rfl, rfl, rfl, le_refl _, .rfl, .inl⟩
  | shell hlock hmember hlink hqueue hring hnotices hconfig hpop =>
    exact ⟨hlock, by rw [hring], hnotices, hconfig, hpop, by rw [State.lockFrames, hqueue]; rfl,
      by rw [hmember], fun h => .inl (hmember ▸ h)⟩

/-! ### The membership unit's operations -/

section
variable {p : State → State → Prop} {g : Prop} {b : Ledger} {s : State}
variable (hp : ∀ s t, SideMove g s t → p s t)
include hp

theorem SideMove.moves {t : State} (h : SideMove g s t) : Moves p b s b t := (Move.other (hp _ _ h)).moves

/-- A record whose silence timer stays. -/
theorem moves_setRecord (x : StationNo) {r : MemberRecord} (h : r.silence = (s.record x).silence) :
    Moves p b s b (s.setRecord x r) := (SideMove.record x r (fun _ => .inl h)).moves hp

theorem moves_restartSilence {x : StationNo}
    (h : g → x ≠ s.own ∧ (s.member.station ≠ .unconfigured ∨ s.link.state ≠ .off)) :
    Moves p b s b (s.restartSilence x) := (SideMove.record x _ (fun hg => .inr (.inr (h hg)))).moves hp

theorem moves_restartSilenceIfPresent {x : StationNo} (h : g → x ≠ s.own) :
    Moves p b s b (s.restartSilenceIfPresent x) := by
  unfold State.restartSilenceIfPresent
  split
  · rename_i hx; exact moves_restartSilence hp (fun hg => ⟨h hg, .inr hx.2⟩)
  · exact .refl

theorem moves_fillDepart : Moves p b s b s.fillDepart := by
  unfold State.fillDepart
  split
  · exact .refl
  · rename_i x t rest hd
    split
    · exact .refl
    · exact (SideMove.fills x t rest hd).moves hp

theorem moves_wantDepart {x : StationNo} {t : Tag} (h : g → s.member.station = .member ∧ x ≠ s.own) :
    Moves p b s b (s.wantDepart x t) := by
  unfold State.wantDepart
  split
  · split
    · exact .refl
    · exact (SideMove.pends x t h).moves hp
  · exact (SideMove.places _ rfl (fun hg => .inr ⟨(h hg).1, .inr ⟨x, t, rfl, (h hg).2⟩⟩)).moves hp

theorem moves_withdrawDepart (x : StationNo) : Moves p b s b (s.withdrawDepart x) := by
  have hdeparts : Moves p b s b (s.withDeparts (s.member.departs.filter (fun d => decide (d.1 ≠ x)))) :=
    (SideMove.departs _ List.filter_sublist).moves hp
  unfold State.withdrawDepart
  dsimp only
  split
  · exact hdeparts.trans ((moves_removeFrame _).trans (moves_fillDepart hp))
  · exact hdeparts

theorem moves_presence {x : StationNo} (h : g → x ≠ s.own ∧ s.link.state ≠ .off) :
    Moves p b s b (s.presence x) := by
  unfold State.presence
  dsimp only
  refine Moves.after (moves_withdrawDepart hp x) ?_
  split
  · exact moves_restartSilence hp (fun hg => ⟨(h hg).1, .inr (h hg).2⟩)
  · refine Moves.after (moves_restartSilence hp (fun hg => ⟨?_, .inr ?_⟩))
      (Moves.after (moves_enterNotice _) (moves_setRecord hp x rfl))
    · simpa using (h hg).1
    · simpa using (h hg).2

theorem moves_raiseEpoch {x : StationNo} {r : MemberRecord}
    (h : g → r.silence = (s.record x).silence ∨ r.silence = none ∨
      (x ≠ s.own ∧ (s.member.station ≠ .unconfigured ∨ s.link.state ≠ .off))) :
    Moves p b s b (s.raiseEpoch x r) :=
  Moves.after (moves_wakeWaiters x) ((SideMove.record x { r with epoch := r.epoch + 1 } h).moves hp)

theorem moves_beaconTag (x : StationNo) (before : MemberRecord) (t : Tag) :
    Moves p b s b (s.beaconTag x before t) := by
  unfold State.beaconTag
  dsimp only
  split
  · exact Moves.after (moves_enterNotice _) (moves_raiseEpoch hp (fun _ => .inl rfl))
  · exact moves_setRecord hp x rfl

theorem moves_joinHeard {x : StationNo} (t : Tag) (h : g → x ≠ s.own ∧ s.link.state ≠ .off) :
    Moves p b s b (s.joinHeard x t) := by
  unfold State.joinHeard
  dsimp only
  refine Moves.after (moves_withdrawDepart hp x) ?_
  split
  · exact Moves.after (moves_enterNotice _)
      (moves_raiseEpoch hp (fun hg => .inr (.inr ⟨(h hg).1, .inr (h hg).2⟩)))
  · exact Moves.after (moves_enterNotice _)
      ((SideMove.record x _ (fun hg => .inr (.inr ⟨(h hg).1, .inr (h hg).2⟩))).moves hp)

theorem moves_departNames (x : StationNo) (t : Tag) (k : DownCause) :
    Moves p b s b (s.departNames x t k) := by
  unfold State.departNames
  split
  · exact Moves.after (moves_withdrawDepart hp x)
      (Moves.after (moves_enterNotice _) (moves_raiseEpoch hp (fun _ => .inr (.inl rfl))))
  · exact .refl

theorem moves_heardPresence {x : StationNo} (c : FrameContent) (h : g → s.link.state ≠ .off) :
    Moves p b s b (s.heardPresence x c) := by
  unfold State.heardPresence
  split
  · exact .refl
  · rename_i hx
    have h' : g → x ≠ s.own ∧ s.link.state ≠ .off := fun hg => ⟨hx, h hg⟩
    split
    · exact moves_joinHeard hp _ h'
    · exact (moves_presence hp h').trans (moves_beaconTag hp _ _ _)
    · split
      · exact .refl
      · exact moves_presence hp h'
    · exact moves_presence hp h'
    · exact moves_presence hp h'
    · exact moves_presence hp h'

theorem moves_startOwnTimers : Moves p b s b s.startOwnTimers :=
  (SideMove.timers s (some s.beaconInterval) (some s.fenceTime)).moves hp

theorem moves_ownAccepted (c : FrameContent) : Moves p b s b (s.ownAccepted c) := by
  have htimers : Moves p b s b (if s.member.station = .member then s.startOwnTimers else s) :=
    Moves.refl.thenIf (fun _ => moves_startOwnTimers hp)
  unfold State.ownAccepted
  dsimp only
  split
  · split
    · exact htimers
    · exact htimers.trans (moves_departNames hp _ _ _)
  · exact htimers

theorem moves_leaveQueue (f : FrameRecord) : Moves p b s b (s.leaveQueue f) := by
  unfold State.leaveQueue
  split
  · exact (moves_removeFrame f).trans (moves_fillDepart hp)
  · exact moves_removeFrame f

theorem moves_wantJoin (h : g → s.member.station = .joining) : Moves p b s b s.wantJoin := by
  unfold State.wantJoin
  split
  · exact (SideMove.places _ rfl (fun hg => .inl ⟨h hg, rfl⟩)).moves hp
  · exact .refl

theorem moves_endOwnRecord : Moves p b s b s.endOwnRecord := moves_setRecord hp s.own rfl

theorem moves_withLink (x : Transceiver) (hx : x.state.ownFrame = none) (h : g → s.link.state.hears) :
    Moves p b s b (s.withLink x) :=
  (SideMove.link x (fun hg => ⟨hx.trans (h hg).1.symm, fun ho => absurd ho (h hg).2⟩)).moves hp

theorem moves_linkIdle (a : LineAtEnd) (h : g → s.link.state.hears) : Moves p b s b (s.linkIdle a) :=
  moves_withLink hp _ (by cases a <;> rfl) h

theorem moves_expireSilence {x : StationNo} (h : g → x ≠ s.own) : Moves p b s b (s.expireSilence x) := by
  unfold State.expireSilence
  split
  · rename_i hm
    refine Moves.after (moves_wantDepart hp (fun hg => ⟨?_, ?_⟩))
      ((SideMove.record x _ (fun _ => .inr (.inl rfl))).moves hp)
    · simpa using hm
    · simpa using h hg
  · rename_i hm
    exact moves_restartSilence hp (fun hg => ⟨h hg, .inl (by rw [hm]; decide)⟩)
  · rename_i hm
    exact moves_restartSilence hp (fun hg => ⟨h hg, .inl (by rw [hm]; decide)⟩)
  · exact .refl

theorem moves_expireBeacon (h : g → s.member.station = .member) : Moves p b s b s.expireBeacon := by
  have htimer : Moves p b s b (s.withMember { s.member with beaconTimer := some s.beaconInterval }) :=
    (SideMove.timers s (some s.beaconInterval) s.member.fenceTimer).moves hp
  unfold State.expireBeacon
  dsimp only
  split
  · exact Moves.after (SideMove.moves hp (.places _ rfl (fun hg => .inr ⟨by exact h hg, .inl rfl⟩))) htimer
  · exact htimer

/-! ### The withdrawals of the fence and of LEAVE (R104, R106) -/

theorem moves_restartAll (l : List StationNo) (h : g → ∀ x ∈ l, x ≠ s.own) :
    Moves p b s b (l.foldl State.restartSilenceIfPresent s) := by
  induction l generalizing s with
  | nil => exact .refl
  | cons x l ih =>
    refine (moves_restartSilenceIfPresent hp (fun hg => h hg x List.mem_cons_self)).trans (ih ?_)
    intro hg y hy
    have hown : (s.restartSilenceIfPresent x).own = s.own :=
      own_of_shell (restartSilenceIfPresent_shell s x)
    rw [hown]
    exact h hg y (List.mem_cons_of_mem _ hy)

theorem moves_withdrawMembership (h : g → ∀ d ∈ s.member.departs, d.1 ≠ s.own) :
    Moves p b s b s.withdrawMembership := by
  have hwithdrawn : g → ∀ x ∈ s.withdrawnDeparts, x ≠ s.own := by
    intro hg x hx
    rcases List.mem_append.1 hx with hx | hx
    · obtain ⟨d, hd, rfl⟩ := List.mem_map.1 hx
      exact h hg d hd
    · obtain ⟨f, hf, hfx⟩ := List.mem_filterMap.1 hx
      have hother := ((Bool.and_eq_true _ _).mp (List.mem_filter.1 hf).2).1
      obtain ⟨y, hy, hne⟩ := departsOther_iff.1 hother
      exact Option.some.inj (hfx.symm.trans hy) ▸ hne
  have hstop : Moves p b s b (s.stopOwnTimers.withDeparts []) :=
    ((SideMove.timers s none none).moves hp).trans ((SideMove.departs [] (List.nil_sublist _)).moves hp)
  unfold State.withdrawMembership
  dsimp only
  refine (hstop.trans (Move.thin (s := s.stopOwnTimers.withDeparts []) (fun f =>
    if f.endsWithMembership s.own then if s.onLink f then some { f with withdrawn := true } else none
    else some f) (fun f f' hf => ?_)).moves).trans (moves_restartAll hp _ hwithdrawn)
  split at hf
  · split at hf
    · obtain rfl := Option.some.inj hf; exact ⟨rfl, rfl, rfl, rfl, fun _ => rfl⟩
    · exact nomatch hf
  · obtain rfl := Option.some.inj hf; exact Follows.refl f

/-- R104: the fence up to its change of the station state. -/
def State.fenced (s : State) (cause : FenceCause) : State :=
  ((s.withdrawMembership.convert .fenced).endOwnRecord.wakeWaiters s.own).enterNotice
    (.fenced cause (s.withdrawMembership.convert .fenced).lostEntries)

/-- R104: the fence with its change of the station state. -/
def State.rejoining (s : State) (cause : FenceCause) : State :=
  (s.fenced cause).withMember
    { (s.fenced cause).member with ownTag := s.member.ownTag.map nextTag, station := .joining }

omit hp in
theorem fence_eq (s : State) (cause : FenceCause) :
    s.fence cause =
      if s.link.state.synchronized then (s.rejoining cause).wantJoin else s.rejoining cause := by
  unfold State.fence State.rejoining State.fenced
  rfl

theorem moves_fenced (cause : FenceCause) (h : g → ∀ d ∈ s.member.departs, d.1 ≠ s.own) :
    Moves p b s b (s.fenced cause) :=
  Moves.after (moves_enterNotice _) (Moves.after (moves_wakeWaiters _)
    (Moves.after (moves_endOwnRecord hp) (Moves.after (moves_convert _) (moves_withdrawMembership hp h))))

/-! ### Results of attempts -/

omit hp in
theorem moves_attemptOver (o : FrameOwner) : Moves p b s b (s.attemptOver o) := by
  unfold State.attemptOver
  split
  · exact .refl
  · exact moves_applyHeld _
  · exact moves_applyHeldCancel _

theorem moves_afterMarked (f : FrameRecord) : Moves p b (s.leaveQueue f) b (s.markedLeaves f) := by
  unfold State.markedLeaves
  split
  · exact moves_claimDiscarded _
  · exact .refl
  · split
    · rename_i x hx
      split
      · exact .refl
      · rename_i hne
        refine moves_restartSilenceIfPresent hp (fun _ => ?_)
        rw [own_of_shell (leaveQueue_shell s f)]
        exact hne
    · exact .refl

theorem moves_markedLeaves (f : FrameRecord) : Moves p b s b (s.markedLeaves f) :=
  (moves_leaveQueue hp f).trans (moves_afterMarked hp f)

/-- R131, R134: LOST ARBITRATION. -/
theorem moves_reportLost (n : Nat) : Moves p b s b (s.reportLost n) := by
  unfold State.reportLost
  split
  · exact .refl
  · split
    · exact moves_markedLeaves hp _
    · exact moves_attemptOver _

end

end Sys2Proof.Machine
end

section
/-! PROOFS. The station state's changes, the results of attempts and the heard frames as rows of moves. What changes the
station state is a hypothesis of these rules: each kept property brings its own. -/

namespace Sys2Proof.Machine

open Sys2Proof

section
variable {p : State → State → Prop} {g : Prop} {b : Ledger} {s : State}
variable (hp : ∀ s t, SideMove g s t → p s t)
include hp

/-! ### Results of attempts (R131, R134 to R137) -/

theorem moves_abandoned (f : FrameRecord)
    (hjoin : ∀ t d, f.owner = .membership → f.payload = some (.join t d) → s.member.station = .joining →
      Moves p b s b s.joinAbandoned)
    (hleave : ∀ t, f.owner = .membership → f.payload = some (.depart s.own t) →
      s.member.station = .leaving → Moves p b s b s.endLeaving) :
    Moves p b s b (s.abandoned f) := by
  unfold State.abandoned
  split
  · exact moves_entryAbandoned _
  · exact moves_queryAbandoned _
  · rename_i ho
    split
    · rename_i t d hpay
      split
      · rename_i hs; exact hjoin t d ho hpay hs
      · exact .refl
    · rename_i d t hpay
      split
      · rename_i hd
        split
        · rename_i hs; exact hleave t ho (hd ▸ hpay) hs
        · exact .refl
      · rename_i hd; exact moves_restartSilenceIfPresent hp (fun _ => hd)
    · exact .refl

/-- R131, R134: FAILED. -/
theorem moves_reportFailed (n : Nat)
    (hab : ∀ f, s.frameAt n = some f → f.withdrawn = false →
      Moves p b (s.leaveQueue f) b ((s.leaveQueue f).abandoned f)) :
    Moves p b s b (s.reportFailed n) := by
  unfold State.reportFailed
  split
  · exact .refl
  · rename_i f hf
    split
    · exact moves_markedLeaves hp f
    · rename_i hw
      split
      · exact Moves.after (moves_attemptOver _) (moves_updateFrame n (fun _ => ⟨rfl, rfl, rfl, rfl, id⟩))
      · exact (moves_leaveQueue hp f).trans (hab f hf (by simpa using hw))

omit hp in
theorem moves_accepted (f : FrameRecord) (c : FrameContent) (a : Answer)
    (hjoin : ∀ t d, f.owner = .membership → c = .join t d → s.member.station = .joining →
      Moves p b s b s.joinAccepted)
    (hleave : ∀ t, f.owner = .membership → c = .depart s.own t → s.member.station = .leaving →
      Moves p b s b s.endLeaving) :
    Moves p b s b (s.accepted f c a) := by
  unfold State.accepted
  split
  · split
    · split
      · exact moves_claimDiscarded _
      · exact moves_claimEnded _ _ _
    · exact moves_grantEnded _ _ _ _
    · exact .refl
  · exact moves_queryEnded _ _
  · rename_i ho
    split
    · rename_i t d
      split
      · rename_i hs; exact hjoin t d ho rfl hs
      · exact .refl
    · rename_i d t
      split
      · rename_i h
        obtain ⟨rfl, hs⟩ := h
        exact hleave t ho rfl hs
      · exact .refl
    · exact .refl

/-- R131, R135: ACCEPTED. -/
theorem moves_reportAccepted (n : Nat) (c : FrameContent) (a : Answer)
    (hacc : ∀ f, s.frameAt n = some f →
      Moves p b (s.leaveQueue f) b ((s.leaveQueue f).accepted f c a)) :
    Moves p b s b (s.reportAccepted n c a) := by
  unfold State.reportAccepted
  split
  · exact .refl
  · rename_i f hf
    exact (moves_leaveQueue hp f).trans (hacc f hf)

/-! ### Heard frames (R92, R103, R107) -/

omit hp in
theorem moves_departHere (t : Tag)
    (hfence : s.member.station = .member → Moves p b s b (s.fence .departed))
    (hleave : s.member.station = .leaving → Moves p b s b s.endLeaving) :
    Moves p b s b (s.departHere t) := by
  unfold State.departHere
  split
  · split
    · rename_i hs; exact hfence hs
    · rename_i hs; exact hleave hs
    · exact .refl
  · exact .refl

theorem moves_heardFrame {x : StationNo} (c : FrameContent) (h : g → s.link.state ≠ .off)
    (hhere : ∀ t, Moves p b (s.heardPresence x c) b ((s.heardPresence x c).departHere t)) :
    Moves p b s b (s.heardFrame x c) := by
  have hpresence := moves_heardPresence (b := b) hp (x := x) c h
  unfold State.heardFrame
  dsimp only
  split
  · split
    · exact hpresence.trans (hhere _)
    · exact hpresence.trans (moves_departNames hp _ _ _)
  · exact hpresence

/-! ### The end of LEAVING (R107) -/

/-- R107: the end of LEAVING up to the station state. -/
def State.farewell (s : State) : State :=
  (((s.withFrames (s.queue.frames.filterMap (fun f =>
    if f.departNamed = some s.own then
      if s.onLink f then some { f with withdrawn := true } else none
    else some f))).endOwnRecord.wakeWaiters s.own).linkOff).stopAllSilence

omit hp in
theorem endLeaving_eq (s : State) : s.endLeaving = (s.farewell.setStation .offline).enterNotice .left := rfl

theorem moves_farewell (h : g → s.link.state.ownFrame = none) : Moves p b s b s.farewell := by
  have hthin := Move.thin (p := p) (b := b) (s := s) (fun f => if f.departNamed = some s.own then
      if s.onLink f then some { f with withdrawn := true } else none else some f) (fun f f' hf => by
    split at hf
    · split at hf
      · obtain rfl := Option.some.inj hf; exact ⟨rfl, rfl, rfl, rfl, fun _ => rfl⟩
      · exact nomatch hf
    · obtain rfl := Option.some.inj hf; exact Follows.refl f)
  unfold State.farewell
  refine Moves.after ((SideMove.hush _).moves hp) (Moves.after (SideMove.moves hp (.link _ (fun hg => ⟨?_,
    fun _ => rfl⟩))) (Moves.after (moves_wakeWaiters _) (Moves.after (moves_endOwnRecord hp) hthin.moves)))
  rw [link_of_beyondLock (wakeWaiters_beyondLock _ _), State.endOwnRecord, setRecord_link]
  exact (h hg).symm

end

/-! ### The station state beyond the lock engine -/

section
variable {b : Ledger} {s : State}

theorem sideMove_beyond : ∀ s t, SideMove False s t → Beyond s t := fun _ _ h => h.beyond

/-- A change of the station state, which leaves MEMBER only over a table of LOST alone. -/
theorem moves_station (m : MembershipUnit) (hs : s.member.station ≠ .unconfigured)
    (hm : m.station ≠ .unconfigured)
    (hleave : m.station ≠ .member → s.member.station ≠ .member ∨ s.lock.Quiet) :
    Moves Beyond b s b (s.withMember m) :=
  (Move.other ⟨rfl, rfl, rfl, rfl, rfl, le_refl _, iff_of_false hm hs, hleave⟩).moves

theorem withdrawMembership_station (s : State) :
    s.withdrawMembership.member.station = s.member.station := by
  refine foldl_keeps (fun u : State => u.member.station) _ (fun u x => ?_) _ _
  unfold State.restartSilenceIfPresent State.restartSilence
  split
  · exact setRecord_station _ _ _
  · rfl

theorem convert_quiet (s : State) (k : Code) : (s.convert k).lock.Quiet :=
  ⟨convert_entries_lost s k, by rw [convert_lock], by rw [convert_lock]⟩

theorem fenced_lock (s : State) (cause : FenceCause) :
    (s.fenced cause).lock = (s.withdrawMembership.convert .fenced).lock := by
  have hlost : ∀ e ∈ (s.withdrawMembership.convert .fenced).endOwnRecord.lock.entries,
      e.isLost = true := by
    rw [State.endOwnRecord, setRecord_lock]
    exact convert_entries_lost _ _
  rw [State.fenced, enterNotice_lock, wakeWaiters_of_lost _ _ hlost, State.endOwnRecord, setRecord_lock]

theorem convert_member (s : State) (k : Code) : (s.convert k).member = s.member :=
  member_of_beyondLock (convert_beyondLock s k)

theorem fenced_station (s : State) (cause : FenceCause) :
    (s.fenced cause).member.station = s.member.station := by
  rw [State.fenced, enterNotice_member, member_of_beyondLock (wakeWaiters_beyondLock _ _),
    State.endOwnRecord, setRecord_station, convert_member, withdrawMembership_station]

/-- R104. -/
theorem beyond_fence (cause : FenceCause) (hm : s.member.station = .member) :
    Moves Beyond b s b (s.fence cause) := by
  have hrejoin : Moves Beyond b s b (s.rejoining cause) := by
    refine (moves_fenced sideMove_beyond cause False.elim).trans (moves_station _ ?_ ?_ (fun _ => .inr ?_))
    · rw [fenced_station, hm]; decide
    · simp
    · rw [fenced_lock]; exact convert_quiet _ _
  rw [fence_eq]
  exact hrejoin.thenIf (fun _ => moves_wantJoin sideMove_beyond False.elim)

theorem farewell_station (s : State) : s.farewell.member.station = s.member.station := by
  show (State.wakeWaiters _ s.own).member.station = _
  rw [member_of_beyondLock (wakeWaiters_beyondLock _ _), State.endOwnRecord, setRecord_station]
  rfl

/-- R107. -/
theorem beyond_endLeaving (hs : s.member.station = .leaving) : Moves Beyond b s b s.endLeaving := by
  rw [endLeaving_eq]
  refine Moves.after (moves_enterNotice _) ((moves_farewell sideMove_beyond False.elim).trans
    (moves_station _ ?_ ?_ (fun _ => .inl ?_)))
  · rw [farewell_station, hs]; decide
  · simp
  · rw [farewell_station, hs]; decide

/-- R89. -/
theorem beyond_joinAccepted (hs : s.member.station = .joining) : Moves Beyond b s b s.joinAccepted := by
  unfold State.joinAccepted
  refine Moves.after (moves_enterNotice _) (Moves.after (moves_startOwnTimers sideMove_beyond)
    (Moves.after (moves_setRecord sideMove_beyond s.own rfl) (moves_station _ ?_ ?_ (fun _ => .inl ?_))))
  · rw [hs]; decide
  · simp
  · rw [hs]; decide

/-- R90. -/
theorem beyond_joinAbandoned (hs : s.member.station = .joining) : Moves Beyond b s b s.joinAbandoned := by
  unfold State.joinAbandoned
  refine Moves.after (moves_enterNotice _) (Moves.after ((SideMove.hush _).moves sideMove_beyond)
    (Moves.after (SideMove.moves sideMove_beyond (.link _ False.elim)) (moves_station _ ?_ ?_ (fun _ => .inl ?_))))
  · rw [hs]; decide
  · simp
  · rw [hs]; decide

/-- R106. -/
theorem beyond_beginLeave (hm : s.member.station = .member) : Moves Beyond b s b s.beginLeave := by
  have hconvert : Moves Beyond b s b (s.withdrawMembership.convert .offline) :=
    (moves_withdrawMembership sideMove_beyond False.elim).trans (moves_convert _)
  unfold State.beginLeave
  refine Moves.trans (hconvert.trans (SideMove.moves sideMove_beyond (.places _ rfl False.elim)))
    (moves_station _ ?_ ?_ (fun _ => .inr ?_))
  · rw [placeMember_member, convert_member, withdrawMembership_station, hm]; decide
  · simp
  · rw [placeMember_lock]; exact convert_quiet _ _

theorem beyond_restartAllSilence : Moves Beyond b s b s.restartAllSilence := by
  have h : Beyond s s.restartAllSilence := Beyond.ofMember s _ rfl
  exact (Move.other h).moves

/-- R88. -/
theorem beyond_beginJoin (hs : s.member.station = .offline ∨ s.member.station = .refused) :
    Moves Beyond b s b s.beginJoin := by
  have hne : s.member.station ≠ .unconfigured ∧ s.member.station ≠ .member := by
    rcases hs with h | h <;> rw [h] <;> decide
  unfold State.beginJoin
  refine Moves.after beyond_restartAllSilence
    (Moves.after (SideMove.moves sideMove_beyond (.link _ False.elim))
      (moves_station _ hne.1 ?_ (fun _ => .inl hne.2)))
  simp

theorem beyond_abandoned (f : FrameRecord) : Moves Beyond b s b (s.abandoned f) :=
  moves_abandoned sideMove_beyond f (fun _ _ _ _ => beyond_joinAbandoned) (fun _ _ _ => beyond_endLeaving)

theorem beyond_reportFailed (n : Nat) : Moves Beyond b s b (s.reportFailed n) :=
  moves_reportFailed sideMove_beyond n (fun f _ _ => beyond_abandoned f)

theorem beyond_reportAccepted (n : Nat) (c : FrameContent) (a : Answer) :
    Moves Beyond b s b (s.reportAccepted n c a) :=
  moves_reportAccepted sideMove_beyond n c a (fun f _ => moves_accepted f c a
    (fun _ _ _ _ => beyond_joinAccepted) (fun _ _ _ => beyond_endLeaving))

end

end Sys2Proof.Machine
end

section
/-! PROOFS. The commands as rows of moves: the host port, the timers, the transceiver and the clock. -/

namespace Sys2Proof.Machine

open Sys2Proof

section
variable {p : State → State → Prop} {g : Prop} {b : Ledger} {s : State}

/-! ### The host port -/

theorem moves_atPort {t : State} (h : Moves p b s b t) : Moves p b s b (s.atPort t) := by
  unfold State.atPort
  split
  · exact .refl
  · exact h

theorem state_writeByte (x : Slot) (w : Fin 16 × Byte) : (x.writeByte w).state = x.state := by
  unfold Slot.writeByte
  simp only [apply_ite Slot.state, ite_self]

theorem state_foldl_writeByte (l : List (Fin 16 × Byte)) (x : Slot) :
    (l.foldl Slot.writeByte x).state = x.state := by
  induction l generalizing x with
  | nil => rfl
  | cons w l ih => rw [List.foldl_cons, ih, state_writeByte]

/-- R143: a write never makes a slot PENDING. -/
theorem state_take_ne_pending {x : Slot} (h : x.state ≠ .pending) (l : List (Fin 16 × Byte)) :
    (x.take l).state ≠ .pending := by
  unfold Slot.take
  dsimp only
  split
  · exact nofun
  · rwa [state_foldl_writeByte]

theorem moves_writeSlot (i : SlotIx) (l : List (Fin 16 × Byte)) : Moves p b s b (s.writeSlot i l) := by
  unfold State.writeSlot
  dsimp only
  split
  · exact .refl
  · split
    · exact moves_withRing rfl
    · rename_i h
      exact (Move.slot i _ (iff_of_false (state_take_ne_pending h _) h)).moves

theorem moves_writeEnd (v : Byte) : Moves p b s b (s.writeEnd v) := by
  unfold State.writeEnd
  split
  · exact moves_withRing rfl
  · exact .refl

/-! ### The lock engine's timers -/

theorem moves_expireDeadline {e : LockEntry} (he : e ∈ s.lock.entries) :
    Moves p b s b (s.expireDeadline e) := by
  unfold State.expireDeadline
  split
  · split
    · exact .refl
    · exact moves_holdAction _ _
  · exact moves_endWait he _

theorem moves_probeOf {e : LockEntry} (he : e ∈ s.lock.entries) (hl : e.isLost = false) :
    Moves p b s b (s.immediateProbe e) :=
  Moves.honestly (fun _ hb => moves_immediateProbe e (hb.member he hl) (fun _ => claims_of_mem he))

theorem moves_expireClaimRetry {e : LockEntry} (he : e ∈ s.lock.entries) :
    Moves p b s b (s.expireClaimRetry e) := by
  unfold State.expireClaimRetry
  split
  · rename_i c sl pol d r hst
    have hclaim := claims_of_mem he
    rw [hst] at hclaim
    have hlost : e.isLost = false := by rw [LockEntry.isLost, hst]
    have hset : Moves p b s b ((s.setEntry e.id (.claiming c sl pol d none)).reevaluate e.id) :=
      Moves.after (moves_reevaluate _)
        (Moves.honestly (fun _ hb => moves_reclaim rfl (hb.member he hlost) (fun _ => hclaim)))
    dsimp only
    split
    · split
      · exact hset
      · exact hset.trans (moves_reevaluateDeferred _)
    · exact hset.trans (moves_reevaluateDeferred _)
  · exact .refl

theorem moves_expireGrantRetry {e : LockEntry} (he : e ∈ s.lock.entries) :
    Moves p b s b (s.expireGrantRetry e) := by
  unfold State.expireGrantRetry
  split
  · rename_i serve issue offered r hst
    have hwant := moves_wantOf (p := p) (b := b)
      (mem_setEntry_self he (.handing serve issue offered none)) rfl
    refine Moves.trans (moves_setHanding he (isHolder_handing hst) (fun hS => ?_)) hwant
    have hwithin := hS e he
    simpa only [LockEntry.SpanWithin, hst] using hwithin
  · exact .refl

theorem notLost_of_probe {e : LockEntry} (h : e.probe.isSome = true) : e.isLost = false := by
  unfold LockEntry.probe at h
  split at h
  · rename_i hst; exact notLost_of_waiting hst
  · exact nomatch h

/-! ### The clock -/

theorem alike_tick (e : LockEntry) : ({ e with state := e.state.tick } : LockEntry).Alike e := by
  rcases e with ⟨id, r, st, held⟩
  cases st <;> exact ⟨rfl, rfl, rfl, rfl, rfl, rfl, rfl, fun _ h => h⟩

section
variable (hp : ∀ s t, SideMove g s t → p s t)
include hp

theorem moves_tick : Moves p b s b s.tick := by
  unfold State.tick
  split
  · exact .refl
  · exact Moves.after (SideMove.moves hp (.shell (s := (((s.withEntries
      (s.lock.entries.map (fun e => { e with state := e.state.tick }))).withMember
        s.member.tick).withLink s.link.tick)) rfl rfl rfl rfl rfl rfl rfl rfl))
      (Moves.after (SideMove.moves hp (.clocks (s.withEntries
        (s.lock.entries.map (fun e => { e with state := e.state.tick })))))
        (moves_relabel alike_tick))

theorem moves_readPostLock (w : Bool) : Moves p b s b (s.readPostLock w) := by
  have hring : Moves p b s b (s.withRing { s.ring with postLock := true }) := moves_withRing rfl
  unfold State.readPostLock
  split
  · exact hring.trans (SideMove.moves hp (.shell rfl rfl rfl rfl rfl rfl rfl rfl))
  · exact SideMove.moves hp (.shell rfl rfl rfl rfl rfl rfl rfl rfl)

/-! ### The transceiver, where no own frame begins or ends -/

omit hp in
theorem hears_of_eq {l : LinkState} (h : s.link.state = l) (hl : l.hears) : g → s.link.state.hears :=
  fun _ => h ▸ hl

theorem moves_beginLead : Moves p b s b s.beginLead := by
  unfold State.beginLead
  split
  · rename_i hl
    split
    · exact .refl
    · exact moves_withLink hp _ rfl (hears_of_eq hl ⟨rfl, nofun⟩)
  · exact .refl

theorem moves_pulseFalls : Moves p b s b s.pulseFalls := by
  unfold State.pulseFalls
  split
  · rename_i hl; exact moves_withLink hp _ (by rw [hl]; rfl) (hears_of_eq hl ⟨rfl, nofun⟩)
  · rename_i hl; exact moves_withLink hp _ (by rw [hl]; rfl) (hears_of_eq hl ⟨rfl, nofun⟩)
  · exact .refl

theorem moves_tailRises : Moves p b s b s.tailRises := by
  unfold State.tailRises
  split
  · rename_i hl
    split
    · exact moves_linkIdle hp _ (hears_of_eq hl ⟨rfl, nofun⟩)
    · exact .refl
  · exact .refl

theorem moves_leadHeard : Moves p b s b (match s.link.state with
    | .idle => s.withLink ⟨.listening, 0, s.pulseLength, .recessive⟩
    | .seeking => s.linkSeeking
    | _ => s) := by
  split
  · rename_i hl; exact moves_withLink hp _ rfl (hears_of_eq hl ⟨rfl, nofun⟩)
  · rename_i hl; exact moves_withLink hp _ rfl (hears_of_eq hl ⟨rfl, nofun⟩)
  · exact .refl

theorem moves_arbitrationFieldPassed : Moves p b s b (match s.link.state with
    | .arbitrating o => s.setLink (.sending o)
    | _ => s) := by
  split
  · rename_i o hl
    exact SideMove.moves hp (.link _ (fun _ => ⟨by rw [hl]; rfl, fun h => by rw [hl] at h; exact nomatch h⟩))
  · exact .refl

theorem moves_decideVeto (f : LinkFrame) : Moves p b s b (s.decideVeto f) := by
  unfold State.decideVeto
  split
  · rename_i hl; exact moves_withLink hp _ rfl (hears_of_eq hl ⟨rfl, nofun⟩)
  · exact .refl

theorem moves_answerStart : Moves p b s b (match s.link.state with
    | .listeningAnswer f => if f.demanded then s else s.answerDemand f
    | _ => s) := by
  split
  · rename_i f hl
    split
    · exact .refl
    · refine moves_answerDemand (fun u f' a k hu => hp _ _ (.link _ (fun _ => ⟨?_, fun ho => ?_⟩))) f
      · rw [hu, hl]; rfl
      · rw [hu, hl] at ho; exact nomatch ho
  · exact .refl

theorem moves_idleRegained : Moves p b s b (match s.link.state with
    | .seeking => if s.link.line = .recessive then s.regainIdle else s
    | _ => s) := by
  split
  · rename_i hl
    split
    · unfold State.regainIdle
      refine Moves.trans (moves_linkIdle hp (.released s.idleGap) (hears_of_eq hl ⟨rfl, nofun⟩)) ?_
      dsimp only
      split
      · rename_i hj; exact moves_wantJoin hp (fun _ => hj)
      · exact .refl
    · exact .refl
  · exact .refl

/-- The end of the veto slot of a frame this station hears; what it does where the frame names this station is the
caller's. -/
theorem moves_heardVetoEnd (f : LinkFrame) (v : Bool) (a : LineAtEnd) (h : g → s.link.state.hears)
    (hhere : ∀ (x : StationNo) (c : FrameContent) (t : Tag),
      Moves p b ((s.linkIdle a).heardPresence x c) b (((s.linkIdle a).heardPresence x c).departHere t)) :
    Moves p b s b (s.heardVetoEnd f v a) := by
  have hidle := moves_linkIdle (b := b) hp a h
  unfold State.heardVetoEnd
  split
  · exact hidle
  · split
    · exact hidle
    · split
      · exact moves_withLink hp _ rfl h
      · refine hidle.trans (moves_heardFrame hp _ (fun _ => ?_) (hhere _ _))
        rw [linkIdle_state]
        exact nofun

/-- R122: the end of the answer field of a frame this station hears. -/
theorem moves_heardAnswerEnd (f : HeardFrame) (l : AnswerLine) (h : g → s.link.state.hears)
    (hhere : ∀ (x : StationNo) (c : FrameContent) (t : Tag),
      Moves p b ((s.linkIdle l.atEnd).heardPresence x c) b
        (((s.linkIdle l.atEnd).heardPresence x c).departHere t)) :
    Moves p b s b (s.heardAnswerEnd f l) := by
  unfold State.heardAnswerEnd
  refine Moves.after (moves_lockHeard _ _) ((moves_linkIdle hp l.atEnd h).trans
    (moves_heardFrame hp _ (fun _ => ?_) (hhere _ _)))
  rw [linkIdle_state]
  exact nofun

end

end

end Sys2Proof.Machine
end

section
/-! PROOFS. Every command but the few that take a record, reset the station or remove a notice, and the passing of one
microsecond, as rows of moves. -/

namespace Sys2Proof.Machine

open Sys2Proof

/-! ### What leaves the transceiver's state -/

section
variable (s : State)

@[simp] theorem removeFrame_link (f : FrameRecord) : (s.removeFrame f).link = s.link :=
  link_of_beyondLock (removeFrame_beyondLock s f)

@[simp] theorem wakeWaiters_link (x : StationNo) : (s.wakeWaiters x).link = s.link :=
  link_of_beyondLock (wakeWaiters_beyondLock s x)

@[simp] theorem fillDepart_link : s.fillDepart.link = s.link := by
  unfold State.fillDepart
  split
  · rfl
  · split
    · rfl
    · exact placeMember_link _ _

@[simp] theorem withdrawDepart_link (x : StationNo) : (s.withdrawDepart x).link = s.link := by
  unfold State.withdrawDepart
  dsimp only
  split
  · rw [fillDepart_link, removeFrame_link]; rfl
  · rfl

@[simp] theorem presence_link (x : StationNo) : (s.presence x).link = s.link := by
  unfold State.presence State.restartSilence
  dsimp only
  split <;> simp

@[simp] theorem raiseEpoch_link (x : StationNo) (r : MemberRecord) : (s.raiseEpoch x r).link = s.link := by
  simp [State.raiseEpoch]

@[simp] theorem beaconTag_link (x : StationNo) (r : MemberRecord) (t : Tag) :
    (s.beaconTag x r t).link = s.link := by
  unfold State.beaconTag
  dsimp only
  split <;> simp

@[simp] theorem joinHeard_link (x : StationNo) (t : Tag) : (s.joinHeard x t).link = s.link := by
  unfold State.joinHeard
  dsimp only
  split <;> simp

@[simp] theorem heardPresence_link (x : StationNo) (c : FrameContent) :
    (s.heardPresence x c).link = s.link := by
  unfold State.heardPresence
  split
  · rfl
  · cases c <;> simp
    split <;> simp

end

/-! ### What a kept property brings -/

/-- What a kept property p brings for its rows of moves: that it lets the small changes of the membership unit and the
transceiver in, and rows for the changes of the station state and for the begin and the ends of an own attempt. -/
structure Handles (g : Prop) (p : State → State → Prop) : Prop where
  side     : ∀ s t, SideMove g s t → p s t
  fence    : ∀ (b : Ledger) (s : State) (k : FenceCause), s.member.station = .member →
    Moves p b s b (s.fence k)
  ends     : ∀ (b : Ledger) (s : State), (g → s.link.state.ownFrame = none) →
    s.member.station = .leaving → Moves p b s b s.endLeaving
  leaves   : ∀ (b : Ledger) (s : State), s.member.station = .member → Moves p b s b s.beginLeave
  joins    : ∀ (b : Ledger) (s : State), s.member.station = .offline ∨ s.member.station = .refused →
    Moves p b s b s.beginJoin
  silent   : ∀ (b : Ledger) (s : State) (x : StationNo), (s.record x).silence.isSome = true →
    Moves p b s b (s.expireSilence x)
  begins   : ∀ (b : Ledger) (s : State), Moves p b s b s.startArbitration
  loses    : ∀ (b : Ledger) (s : State) (o : OwnFrame) (x : Transceiver),
    s.link.state.ownFrame = some o → x.state.hears → Moves p b s b ((s.withLink x).reportLost o.age)
  fails    : ∀ (b : Ledger) (s : State) (o : OwnFrame) (x : Transceiver),
    s.link.state.ownFrame = some o → x.state.hears → Moves p b s b ((s.withLink x).reportFailed o.age)
  accepted : ∀ (b : Ledger) (s : State) (o : OwnFrame) (l : LineAtEnd) (a : Answer),
    s.link.state.ownFrame = some o → Moves p b s b (s.ownFrameAccepted o l a)

theorem linkIdle_hears (s : State) (a : LineAtEnd) : (s.linkIdle a).link.state.hears := by
  rw [linkIdle_state]; exact ⟨rfl, nofun⟩

section
variable {p : State → State → Prop} {g : Prop} {b : Ledger} {s : State} (hp : Handles g p)
include hp

/-! ### The transceiver -/

/-- R103, R107: a heard DEPART that names this station, after the frame has ended. -/
theorem Handles.departHere (x : StationNo) (c : FrameContent) (t : Tag)
    (h : g → s.link.state.ownFrame = none) :
    Moves p b (s.heardPresence x c) b ((s.heardPresence x c).departHere t) :=
  moves_departHere t (hp.fence b _ .departed) (hp.ends b _ (by rwa [heardPresence_link]))

theorem Handles.loseSync (h : g → s.link.state.hears) : Moves p b s b s.loseSync := by
  have hseek : Moves p b s b s.linkSeeking := moves_withLink hp.side _ rfl h
  unfold State.loseSync State.lossReported
  exact hseek.thenIf (hp.fence b _ .sync)

theorem Handles.collide {o : OwnFrame} (ho : s.link.state.ownFrame = some o) :
    Moves p b s b (s.collide o) := hp.fails b s o _ ho ⟨rfl, nofun⟩

theorem Handles.collideAndLoseSync {o : OwnFrame} (ho : s.link.state.ownFrame = some o) :
    Moves p b s b (s.collideAndLoseSync o) := by
  unfold State.collideAndLoseSync
  exact (hp.collide ho).thenIf (fun h => hp.loseSync (fun _ => h ▸ ⟨rfl, nofun⟩))

theorem Handles.truncated (h : g → s.link.state.hears) : Moves p b s b s.truncated :=
  moves_linkIdle hp.side _ h

theorem Handles.collideTruncated {o : OwnFrame} (ho : s.link.state.ownFrame = some o) :
    Moves p b s b (if (s.collide o).link.state = .listening then (s.collide o).truncated else s.collide o) :=
  (hp.collide ho).thenIf (fun h => hp.truncated (fun _ => h ▸ ⟨rfl, nofun⟩))

theorem Handles.execLead {t : State} (ph : LeadPhase) (h : execLead ph s = .next t) : Moves p b s b t := by
  cases h
  cases ph with
  | begins => exact moves_beginLead hp.side
  | arbitrationStart => exact hp.begins b s
  | lineFalls => exact moves_pulseFalls hp.side
  | lineRises => exact moves_tailRises hp.side

theorem Handles.execArbitrationLost {t : State} (h : execArbitrationLost s = .next t) :
    Moves p b s b t := by
  cases h
  split
  · rename_i o hl; exact hp.loses b s o _ (by rw [hl]; rfl) ⟨rfl, nofun⟩
  · exact .refl

theorem Handles.execCollision {t : State} (h : execCollision s = .next t) : Moves p b s b t := by
  cases h
  split
  · rename_i hl; exact moves_withLink hp.side _ rfl (hears_of_eq hl ⟨rfl, nofun⟩)
  · rename_i o hl; exact hp.collide (by rw [hl]; rfl)
  · rename_i o hl; exact hp.collide (by rw [hl]; rfl)
  · exact .refl

theorem Handles.ownVetoEnd {o : OwnFrame} (v : Bool) (a : LineAtEnd) (hl : s.link.state = .sending o) :
    Moves p b s b (s.ownVetoEnd o v a) := by
  have ho : s.link.state.ownFrame = some o := by rw [hl]; rfl
  unfold State.ownVetoEnd
  split
  · exact hp.fails b s o _ ho (linkIdle_hears s a)
  · split
    · refine SideMove.moves hp.side (.link _ (fun _ => ⟨ho.symm, fun h => ?_⟩))
      rw [hl] at h; exact nomatch h
    · exact hp.accepted b s o a .none ho

theorem Handles.endVetoSlot (f : LinkFrame) (v : Bool) (a : LineAtEnd) :
    Moves p b s b (s.endVetoSlot f v a) := by
  have hhere : ∀ (x : StationNo) (c : FrameContent) (t : Tag),
      Moves p b ((s.linkIdle a).heardPresence x c) b (((s.linkIdle a).heardPresence x c).departHere t) :=
    fun x c t => hp.departHere x c t (fun _ => (linkIdle_hears s a).1)
  unfold State.endVetoSlot
  split
  · rename_i o hl; exact hp.ownVetoEnd v a hl
  · rename_i hl; exact moves_heardVetoEnd hp.side f _ a (hears_of_eq hl ⟨rfl, nofun⟩) hhere
  · rename_i hl; exact moves_heardVetoEnd hp.side f _ a (hears_of_eq hl ⟨rfl, nofun⟩) hhere
  · exact .refl

theorem Handles.execVetoSlotEnd {t : State} (f : LinkFrame) (m : VetoMoment)
    (h : execVetoSlotEnd f m s = .next t) : Moves p b s b t := by
  cases h
  cases m with
  | checked => exact moves_decideVeto hp.side f
  | ends v a => exact hp.endVetoSlot f v a

theorem Handles.execAnswerEnd {t : State} (l : AnswerLine) (h : execAnswerEnd l s = .next t) :
    Moves p b s b t := by
  cases h
  split
  · rename_i o hl; exact hp.accepted b s o _ _ (by rw [hl]; rfl)
  · rename_i f hl
    exact moves_heardAnswerEnd hp.side f l (hears_of_eq hl ⟨rfl, nofun⟩)
      (fun x c t => hp.departHere x c t (fun _ => (linkIdle_hears s l.atEnd).1))
  · exact .refl

theorem Handles.execTruncation {t : State} (h : execTruncation s = .next t) : Moves p b s b t := by
  cases h
  split
  · rename_i hl; exact hp.truncated (hears_of_eq hl ⟨rfl, nofun⟩)
  · rename_i hl; exact hp.truncated (hears_of_eq hl ⟨rfl, nofun⟩)
  · rename_i hl; exact hp.truncated (hears_of_eq hl ⟨rfl, nofun⟩)
  · rename_i o hl; exact hp.collideTruncated (by rw [hl]; rfl)
  · rename_i o hl; exact hp.collideTruncated (by rw [hl]; rfl)
  · exact .refl

theorem Handles.execLossOfSynchronization {t : State} (h : execLossOfSynchronization s = .next t) :
    Moves p b s b t := by
  cases h
  split
  · rename_i hl; exact hp.loseSync (hears_of_eq hl ⟨rfl, nofun⟩)
  · rename_i hl; exact hp.loseSync (hears_of_eq hl ⟨rfl, nofun⟩)
  · rename_i hl; exact hp.loseSync (hears_of_eq hl ⟨rfl, nofun⟩)
  · rename_i hl; exact hp.loseSync (hears_of_eq hl ⟨rfl, nofun⟩)
  · rename_i o hl; exact hp.collideAndLoseSync (by rw [hl]; rfl)
  · rename_i o hl; exact hp.collideAndLoseSync (by rw [hl]; rfl)
  · rename_i hl; exact moves_withLink hp.side _ rfl (hears_of_eq hl ⟨rfl, nofun⟩)
  · exact .refl

/-! ### The host port and the timers -/

theorem Handles.execStart {t : State} (h : execStart s = .next t) : Moves p b s b t := by
  cases h
  refine moves_atPort ?_
  unfold State.startCommand
  split
  · rename_i hs; exact hp.joins b s (.inl hs)
  · rename_i hs; exact hp.joins b s (.inr hs)
  · exact .refl

theorem Handles.execLeave {t : State} (h : execLeave s = .next t) : Moves p b s b t := by
  cases h
  exact moves_atPort (Moves.refl.thenIf (hp.leaves b s))

omit hp in
theorem moves_execDeadlineExpiry {t : State} (i : SlotIx) (h : execDeadlineExpiry i s = .next t) :
    Moves p b s b t := by
  cases h
  split
  · rename_i e he
    exact Moves.refl.thenIf (fun _ => moves_expireDeadline (entryAt_some he))
  · exact .refl

omit hp in
theorem moves_execProbeTimerExpiry {t : State} (i : SlotIx) (h : execProbeTimerExpiry i s = .next t) :
    Moves p b s b t := by
  cases h
  split
  · rename_i e he
    exact Moves.refl.thenIf (fun hprobe => moves_probeOf (entryAt_some he) (notLost_of_probe hprobe))
  · exact .refl

omit hp in
theorem moves_execClaimRetryExpiry {t : State} (i : SlotIx) (h : execClaimRetryExpiry i s = .next t) :
    Moves p b s b t := by
  cases h
  split
  · rename_i e he
    exact Moves.refl.thenIf (fun _ => moves_expireClaimRetry (entryAt_some he))
  · exact .refl

omit hp in
theorem moves_execGrantRetryExpiry {t : State} (r : Resource) (h : execGrantRetryExpiry r s = .next t) :
    Moves p b s b t := by
  cases h
  split
  · rename_i e he
    exact Moves.refl.thenIf (fun _ => moves_expireGrantRetry (holderOf_some he).1)
  · exact .refl

theorem Handles.execFenceTimerExpiry {t : State} (h : execFenceTimerExpiry s = .next t) :
    Moves p b s b t := by
  cases h
  exact Moves.refl.thenIf (fun h => hp.fence b s _ h.1)

theorem Handles.execResetRelease {t : State} (h : execResetRelease s = .next t) : Moves p b s b t := by
  cases h
  exact Moves.refl.thenIf
    (fun _ => SideMove.moves hp.side (.shell rfl rfl rfl rfl rfl rfl rfl rfl))

/-! ### Every command and the clock -/

omit hp in
theorem moves_execTaking {t : State} (hb : b.Honest s) (hu : b.used = s.lock.takings)
    (h : execTaking s = .next t) : ∃ n, Moves p b s { b with used := n } t := by
  cases h
  split
  · exact moves_take _ hb hu
  · exact ⟨b.used, .refl⟩

end

/-- The commands that neither take or change a record, nor reset the station, nor remove a notice. -/
def ordinary : Instr → Bool
  | .commit => false
  | .restart => false
  | .configurationWrite _ _ => false
  | .popRead _ _ _ => false
  | .resetPin => false
  | .powerOn => false
  | _ => true

section
variable {p : State → State → Prop} {g : Prop} {b : Ledger} {s t : State} (hp : Handles g p)
include hp

omit hp in
theorem execIgnoredWrite_next {a : BitVec 12} {v : Byte} (h : execIgnoredWrite a v s = .next t) : t = s := by
  unfold execIgnoredWrite at h
  split at h
  · cases h; rfl
  · exact nomatch h

/-- An ordinary command other than TAKING leaves the ledger as it was. -/
theorem Handles.exec_of_ne_taking {c : Instr} (hc : ordinary c = true) (hne : c ≠ .taking)
    (h : exec c s = .next t) : Moves p b s b t := by
  cases c with
  | commit => exact nomatch hc
  | restart => exact nomatch hc
  | configurationWrite i v => exact nomatch hc
  | popRead f i n => exact nomatch hc
  | resetPin => exact nomatch hc
  | powerOn => exact nomatch hc
  | taking => exact absurd rfl hne
  | start => exact hp.execStart h
  | leave => exact hp.execLeave h
  | slotWrite i l => cases h; exact moves_atPort (moves_writeSlot i l)
  | endWrite v => cases h; exact moves_atPort (moves_writeEnd v)
  | postLockRead w => cases h; exact moves_atPort (moves_readPostLock hp.side w)
  | postLockWrite v => cases h; exact moves_atPort (Moves.refl.thenIf (fun _ => moves_withRing rfl))
  | refusedWriteClear v => cases h; exact moves_atPort (Moves.refl.thenIf (fun _ => moves_withRing rfl))
  | ignoredWrite a v => rw [execIgnoredWrite_next h]; exact .refl
  | deadlineExpiry i => exact moves_execDeadlineExpiry i h
  | probeTimerExpiry i => exact moves_execProbeTimerExpiry i h
  | claimRetryExpiry i => exact moves_execClaimRetryExpiry i h
  | grantRetryExpiry r => exact moves_execGrantRetryExpiry r h
  | lead ph => exact hp.execLead ph h
  | leadHeard => cases h; exact moves_leadHeard hp.side
  | arbitrationLost => exact hp.execArbitrationLost h
  | collision => exact hp.execCollision h
  | vetoSlotEnd f m => exact hp.execVetoSlotEnd f m h
  | answerStart => cases h; exact moves_answerStart hp.side
  | answerEnd l => exact hp.execAnswerEnd l h
  | truncation => exact hp.execTruncation h
  | lossOfSynchronization => exact hp.execLossOfSynchronization h
  | idleRegained => cases h; exact moves_idleRegained hp.side
  | silenceTimerExpiry x => cases h; exact Moves.refl.thenIf (hp.silent b s x)
  | beaconTimerExpiry =>
    cases h; exact Moves.refl.thenIf (fun hm => moves_expireBeacon hp.side (fun _ => hm.1))
  | fenceTimerExpiry => exact hp.execFenceTimerExpiry h
  | resetRelease => exact hp.execResetRelease h
  | arbitrationFieldPassed => cases h; exact moves_arbitrationFieldPassed hp.side

/-- An ordinary command: where the ledger is honest and bounds the places by the takings, a row of moves leads to
the same ledger with another bound. -/
theorem Handles.exec {c : Instr} (hc : ordinary c = true) (hb : b.Honest s)
    (hu : b.used = s.lock.takings) (h : exec c s = .next t) :
    ∃ n, Moves p b s { b with used := n } t := by
  by_cases hne : c = .taking
  · subst hne; exact moves_execTaking hb hu h
  · exact ⟨b.used, hp.exec_of_ne_taking hc hne h⟩

end

/-! ### A step -/

/-- A change of the queue of commands and of the count of free values alone. -/
def Queued (s u : State) : Prop := ∃ l n, u = (s.withPending l).withFreeCount n

/-- A step runs one command or the clock, but for the queue of commands and the count of free values. -/
theorem step_cases {s t : State} (h : step s = .next t) :
    (∃ c u, Queued s u ∧ exec c u = .next t) ∨ t = s.tick := by
  unfold step at h
  split at h
  · rename_i c rest hq
    exact .inl ⟨c, _, ⟨rest, s.freeCount, rfl⟩, h⟩
  · unfold ownStep at h
    split at h
    · rename_i c u hu
      refine .inl ⟨c, u, ?_, h⟩
      unfold State.chooseDue at hu
      split at hu
      · exact nomatch hu
      · cases hu; exact ⟨s.pending, s.freeCount, rfl⟩
      · cases hu; exact ⟨s.pending, s.freeCount + 1, rfl⟩
    · cases h; exact .inr rfl

/-- What a command does that is not ordinary: it may change nothing, reset the station to its configuration record or to
none, change a record that is not accepted, accept it, or read the pop location. -/
inductive Exceptional (s : State) : State → Prop
  | nothing : Exceptional s s
  | resets (h : s.member.station ≠ .unconfigured) : Exceptional s (s.cleared s.config .offline false)
  | holds : Exceptional s s.heldInReset
  | writes (i : Fin 19) (v : Byte) (h : s.config.accepted = false) :
      Exceptional s (s.withConfig (s.config.write i v))
  | rejects (h : s.config.accepted = false) : Exceptional s (s.withConfig { s.config with rejected := true })
  | accepts (h : s.config.accepted = false) (hr : s.config.inRange = true) : Exceptional s s.acceptRecord
  | pops (f : Bool) (i : Fin 12) (n : Nat) : Exceptional s (s.readPop f i n)

theorem Exceptional.atPort {s t : State} (h : Exceptional s t) : Exceptional s (s.atPort t) := by
  unfold State.atPort
  split
  · exact .nothing
  · exact h

theorem exceptional_commit (s : State) : Exceptional s s.commit := by
  unfold State.commit
  split
  · exact .nothing
  · rename_i h
    split
    · rename_i hr; exact .accepts (by simpa using h) hr
    · exact .rejects (by simpa using h)

theorem exceptional_restart (s : State) : Exceptional s s.restartCommand := by
  unfold State.restartCommand
  split
  · exact .nothing
  · rename_i h; exact .resets h

theorem exceptional_exec {s t : State} {c : Instr} (hc : ordinary c = false) (h : exec c s = .next t) :
    Exceptional s t := by
  cases c with
  | commit => cases h; exact (exceptional_commit s).atPort
  | restart => cases h; exact (exceptional_restart s).atPort
  | configurationWrite i v =>
    cases h
    refine Exceptional.atPort ?_
    split
    · exact .nothing
    · rename_i ha; exact .writes i v (by simpa using ha)
  | popRead f i n => cases h; exact (Exceptional.pops f i n).atPort
  | resetPin => cases h; exact .holds
  | powerOn => cases h; exact .holds
  | _ => exact nomatch hc

/-- A step, but for the queue of commands and the count of free values: a row of moves, or what is exceptional. -/
theorem Handles.step {p : State → State → Prop} {g : Prop} (hp : Handles g p) {b : Ledger} {s t : State}
    (hb : b.Honest s) (hu : b.used = s.lock.takings) (h : step s = .next t) :
    (∃ n, Moves p b s { b with used := n } t) ∨ ∃ u, Queued s u ∧ Exceptional u t := by
  rcases step_cases h with ⟨c, u, hq, hexec⟩ | rfl
  · cases hc : ordinary c with
    | false => exact .inr ⟨u, hq, exceptional_exec hc hexec⟩
    | true =>
      obtain ⟨l, m, rfl⟩ := hq
      have hqueue : Moves p b s b ((s.withPending l).withFreeCount m) :=
        SideMove.moves hp.side (.shell rfl rfl rfl rfl rfl rfl rfl rfl)
      obtain ⟨n, hn⟩ := hp.exec hc (s := (s.withPending l).withFreeCount m) ⟨hb.entries, hb.queries,
        hb.owners, hb.spans, hb.lost⟩ hu hexec
      exact .inl ⟨n, hqueue.trans hn⟩
  · exact .inl ⟨b.used, moves_tick hp.side⟩

/-! ### The changes beyond the lock engine -/

/-- What the properties that rest on `Beyond` bring. -/
theorem beyond_handles : Handles False Beyond where
  side := sideMove_beyond
  fence := fun _ _ k hm => beyond_fence k hm
  ends := fun _ _ _ hs => beyond_endLeaving hs
  leaves := fun _ _ hm => beyond_beginLeave hm
  joins := fun _ _ hs => beyond_beginJoin hs
  silent := fun _ _ _ _ => moves_expireSilence sideMove_beyond False.elim
  begins := fun b s => by
    have hlink : ∀ l, Moves Beyond b s b (s.setLink l) :=
      fun l => SideMove.moves sideMove_beyond (.link _ False.elim)
    unfold State.startArbitration
    split
    · split
      · split
        · exact hlink _
        · exact hlink _
      · exact hlink _
    · exact .refl
  loses := fun _ _ o x _ _ => Moves.trans (SideMove.moves sideMove_beyond (.link x False.elim))
    (moves_reportLost sideMove_beyond o.age)
  fails := fun _ _ o x _ _ => Moves.trans (SideMove.moves sideMove_beyond (.link x False.elim))
    (beyond_reportFailed o.age)
  accepted := fun _ _ o l a _ => Moves.after (beyond_reportAccepted o.age o.content a)
    ((moves_ownAccepted sideMove_beyond o.content).trans (moves_linkIdle sideMove_beyond l False.elim))

end Sys2Proof.Machine
end

section
/-! PROOFS. What every step keeps: the capacities, the record's agreement, the pop read's head, and the PENDING slots. -/

namespace Sys2Proof.Machine

open Sys2Proof

/-! ### The ledger of a step -/

/-- The ledger at the begin of a step: nothing is loose, and of the kept properties only the distinct places of the
entries and queries are relied on. -/
def State.ledger (s : State) : Ledger := ⟨0, s.lock.takings, True, True, False, False, False⟩

/-- The ledger that relies on nothing. -/
def State.blankLedger (s : State) : Ledger := ⟨0, s.lock.takings, False, False, False, False, False⟩

theorem blankLedger_honest (s : State) : s.blankLedger.Honest s :=
  ⟨False.elim, False.elim, False.elim, False.elim, False.elim⟩

/-- A step, for a property kept by all moves whatever the ledger: it is a row of moves, or exceptional. -/
theorem step_moves {s t : State} (h : step s = .next t) :
    (∃ b b', Moves Beyond b s b' t) ∨ ∃ u, Queued s u ∧ Exceptional u t :=
  (beyond_handles.step (blankLedger_honest s) rfl h).imp_left (fun ⟨_, h⟩ => ⟨_, _, h⟩)

/-! ### Capacities -/

theorem Exceptional.capacities {s t : State} (h : Exceptional s t) (hs : s.WithinCapacities) :
    t.WithinCapacities := by
  cases h with
  | nothing => exact hs
  | resets h => exact reset_withinCapacities
  | holds => exact reset_withinCapacities
  | writes i v h => exact hs
  | rejects h => exact hs
  | accepts h hr => exact hs
  | pops f i n =>
    unfold State.readPop
    dsimp only
    split
    · refine ⟨?_, hs.2⟩
      simp only [State.withPort_notices, State.withNotices_notices, List.length_tail]
      exact (Nat.sub_le _ _).trans hs.1
    · exact hs

theorem step_keeps_capacities {s t : State} (h : step s = .next t) (hs : s.WithinCapacities) :
    t.WithinCapacities := by
  rcases step_moves h with ⟨b, b', h⟩ | ⟨u, ⟨l, n, rfl⟩, h⟩
  · exact h.keeps (P := fun _ u => u.WithinCapacities) (fun _ _ _ _ h => h.capacities (fun _ _ => id)) hs
  · exact h.capacities hs

/-! ### The record's agreement -/

/-- R167: a write changes neither the accepted flag nor the digest. -/
theorem write_accepted (c : ConfigRecord) (i : Fin 19) (v : Byte) :
    (c.write i v).accepted = c.accepted ∧ (c.write i v).digest = c.digest := by
  unfold ConfigRecord.write
  simp only [apply_ite ConfigRecord.accepted, apply_ite ConfigRecord.digest,
    apply_dite ConfigRecord.accepted, apply_dite ConfigRecord.digest, ite_self, dite_eq_ite, and_self]

/-- A record that is not accepted agrees where it has no digest and the station is UNCONFIGURED. -/
theorem recordAgrees_of_not_accepted {s : State} (h : s.config.accepted = false) :
    s.RecordAgrees ↔ s.member.station = .unconfigured ∧ s.config.digest = none := by
  simp [State.RecordAgrees, h]

theorem Exceptional.agrees {s t : State} (h : Exceptional s t) (hs : s.RecordAgrees) : t.RecordAgrees := by
  cases h with
  | nothing => exact hs
  | resets h =>
    exact ⟨iff_of_true (hs.1.2 h) (by simp [State.cleared, MembershipUnit.reset]), hs.2⟩
  | holds => exact reset_recordAgrees
  | writes i v h =>
    obtain ⟨ha, hd⟩ := write_accepted s.config i v
    rw [recordAgrees_of_not_accepted h] at hs
    rw [recordAgrees_of_not_accepted (s := s.withConfig (s.config.write i v)) (ha.trans h)]
    exact ⟨hs.1, hd.trans hs.2⟩
  | rejects h =>
    rw [recordAgrees_of_not_accepted h] at hs
    exact (recordAgrees_of_not_accepted (s := s.withConfig { s.config with rejected := true }) h).2 hs
  | accepts h hr => exact ⟨iff_of_true rfl nofun, rfl, fun _ => ⟨hr, rfl⟩⟩
  | pops f i n =>
    unfold State.readPop
    dsimp only
    split <;> exact hs

theorem step_keeps_agreement {s t : State} (h : step s = .next t) (hs : s.RecordAgrees) :
    t.RecordAgrees := by
  rcases step_moves h with ⟨b, b', h⟩ | ⟨u, ⟨l, n, rfl⟩, h⟩
  · refine h.keeps (P := fun _ u => u.RecordAgrees) (fun _ u _ v h hu => ?_) hs
    obtain ⟨hconfig, hstation⟩ := h.settled (fun _ _ => id)
    obtain ⟨haccepted, hrest⟩ := hu
    exact ⟨by rw [hconfig, haccepted]; exact not_congr hstation.symm, by rw [hconfig]; exact hrest⟩
  · exact h.agrees hs

/-! ### The pop read's head -/

theorem Exceptional.pop {s t : State} (h : Exceptional s t) (hs : s.PopHoldsTheHead) :
    t.PopHoldsTheHead := by
  cases h with
  | nothing => exact hs
  | resets h => exact nofun
  | holds => exact nofun
  | writes i v h => exact hs
  | rejects h => exact hs
  | accepts h hr => exact hs
  | pops f i n =>
    have hhead : ∀ x, s.popRecord f = some x → s.notices.records.head? = some x := by
      intro x hx
      cases f with
      | true => exact hx
      | false => exact hs x hx
    unfold State.readPop
    dsimp only
    split
    · exact nofun
    · exact hhead

theorem step_keeps_pop {s t : State} (h : step s = .next t) (hs : s.PopHoldsTheHead) :
    t.PopHoldsTheHead := by
  rcases step_moves h with ⟨b, b', h⟩ | ⟨u, ⟨l, n, rfl⟩, h⟩
  · exact h.keeps (P := fun _ u => u.PopHoldsTheHead) (fun _ _ _ _ h => h.pop (fun _ _ => id)) hs
  · exact h.pop hs

/-! ### The PENDING slots -/

theorem namedIn_ledger {s : State} : NamedIn s.ledger s ↔ s.PendingSlotsAreNamed := by
  have hbag : s.slotBag s.ledger = (s.namedSlots : Multiset SlotIx) := by
    rw [namedSlots_coe]; exact add_zero _
  constructor
  · rintro ⟨-, -, hnodup, hpending, ⟨hids, hentries⟩, ⟨hqids, hqueries⟩, -⟩
    rw [hbag] at hnodup hpending
    exact ⟨hnodup, hpending, hids, hqids, hentries, hqueries⟩
  · rintro ⟨hnodup, hpending, hids, hqids, hentries, hqueries⟩
    refine ⟨trivial, trivial, ?_, fun i => ?_, ⟨hids, hentries⟩, ⟨hqids, hqueries⟩, le_rfl⟩
    · rw [hbag]; exact hnodup
    · rw [hbag]; exact hpending i

/-- With nothing loose, the bound of the places may be raised to the takings. -/
theorem NamedIn.pendingSlots {n : Nat} {s t : State} (h : NamedIn { s.ledger with used := n } t) :
    t.PendingSlotsAreNamed := by
  refine namedIn_ledger.1 ⟨trivial, trivial, h.nodup, h.pending, ⟨h.distinct.1, fun e he => ?_⟩,
    ⟨h.asked.1, fun q hq => ?_⟩, le_rfl⟩
  · exact (h.distinct.2 e he).trans_le h.taken
  · exact (h.asked.2 q hq).trans_le h.taken

/-- What the ledger of a step relies on is so where the PENDING slots are the named ones. -/
theorem ledger_honest {s : State} (h : s.PendingSlotsAreNamed) : s.ledger.Honest s := by
  have h := namedIn_ledger.2 h
  exact ⟨fun _ => h.distinct, fun _ => h.asked, False.elim, False.elim, False.elim⟩

theorem pendingSlotsAreNamed_cleared (s : State) (c : ConfigRecord) (st : StationState) (w : Bool) :
    (s.cleared c st w).PendingSlotsAreNamed := reset_pendingSlotsAreNamed

theorem Exceptional.named {s t : State} (h : Exceptional s t) (hs : s.PendingSlotsAreNamed) :
    t.PendingSlotsAreNamed := by
  cases h with
  | nothing => exact hs
  | resets h => exact pendingSlotsAreNamed_cleared _ _ _ _
  | holds => exact pendingSlotsAreNamed_cleared _ _ _ _
  | writes i v h => exact hs
  | rejects h => exact hs
  | accepts h hr => exact hs
  | pops f i n =>
    unfold State.readPop
    dsimp only
    split <;> exact hs

/-- Settles O59: every move keeps the bag of named and loose slots equal to the PENDING ones, and a step begins and
ends with nothing loose. -/
theorem stepKeepsPendingSlotsNamed : Obligations.StepKeepsPendingSlotsNamed := by
  intro s t h hs
  rcases beyond_handles.step (ledger_honest hs) rfl h with ⟨n, h⟩ | ⟨u, ⟨l, n, rfl⟩, h⟩
  · exact (h.keeps (fun _ _ _ _ h => h.named (fun _ _ => id)) (namedIn_ledger.2 hs)).pendingSlots
  · exact h.named hs

end Sys2Proof.Machine
end

section
/-! PROOFS. What a step keeps of O58's properties: all but LOST alone outside MEMBER by themselves, and that one with the
agreement of the accepted flag and the station state. -/

namespace Sys2Proof.Machine

open Sys2Proof

section
variable {s t : State}

/-! ### One owner per resource -/

/-- The ledger of a step that relies on one owner per resource. -/
def State.ownerLedger (s : State) : Ledger := ⟨0, s.lock.takings, True, False, True, False, False⟩

theorem oneOwnerIn_ownerLedger : OneOwnerIn s.ownerLedger s.lock ↔ s.OneOwnerPerResource :=
  ⟨fun h => ⟨h.apart, h.below⟩, fun h => ⟨trivial, trivial, h.1, h.2, le_rfl⟩⟩

theorem ownerLedger_honest (h : s.OneOwnerPerResource) : s.ownerLedger.Honest s :=
  ⟨fun _ => (oneOwnerIn_ownerLedger.2 h).distinct, False.elim, fun _ => h.1, False.elim, False.elim⟩

theorem OneOwnerIn.oneOwner {b : Ledger} (h : OneOwnerIn b s.lock) : s.OneOwnerPerResource :=
  ⟨h.apart, fun e he => (h.below e he).trans_le h.taken⟩

theorem Exceptional.oneOwner (h : Exceptional s t) (hs : s.OneOwnerPerResource) :
    t.OneOwnerPerResource := by
  cases h with
  | resets h => exact ⟨.nil, nofun⟩
  | holds => exact ⟨.nil, nofun⟩
  | pops f i n => unfold State.readPop; dsimp only; split <;> exact hs
  | _ => exact hs

/-- R3: every step keeps one owner per resource. -/
theorem step_keeps_oneOwner (h : step s = .next t) (hs : s.OneOwnerPerResource) :
    t.OneOwnerPerResource := by
  rcases beyond_handles.step (ownerLedger_honest hs) rfl h with ⟨n, h⟩ | ⟨u, ⟨l, n, rfl⟩, h⟩
  · have hkept := h.keeps (P := fun b u => OneOwnerIn b u.lock) (fun _ _ _ _ h => h.oneOwner (fun _ _ => id))
      (oneOwnerIn_ownerLedger.2 hs)
    exact hkept.oneOwner
  · exact h.oneOwner hs

/-! ### Spans -/

/-- The ledger of a step that relies on the spans. -/
def State.spanLedger (s : State) : Ledger := ⟨0, s.lock.takings, False, False, False, True, False⟩

theorem spanLedger_honest (h : s.SpansWithinLimit) : s.spanLedger.Honest s :=
  ⟨False.elim, False.elim, False.elim, fun _ => h.2.2, False.elim⟩

/-- R87: while the record is not accepted the lock table is empty. -/
theorem no_entries_of_not_accepted (h : s.SpansWithinLimit) (ha : s.config.accepted = false) :
    s.member.station = .unconfigured ∧ s.lock.entries = [] := by
  have hu : s.member.station = .unconfigured := by
    by_contra hu
    rw [h.2.1.2 hu] at ha
    exact nomatch ha
  exact ⟨hu, h.1 hu⟩

theorem spansWithinLimit_of_empty (he : s.lock.entries = [])
    (ha : s.config.accepted = true ↔ s.member.station ≠ .unconfigured) : s.SpansWithinLimit :=
  ⟨fun _ => he, ha, fun e h => by rw [he] at h; exact nomatch h⟩

theorem Exceptional.spans (h : Exceptional s t) (hs : s.SpansWithinLimit) : t.SpansWithinLimit := by
  cases h with
  | nothing => exact hs
  | resets h => exact spansWithinLimit_of_empty rfl (iff_of_true (hs.2.1.2 h) nofun)
  | holds => exact reset_spansWithinLimit
  | writes i v h =>
    refine spansWithinLimit_of_empty (no_entries_of_not_accepted hs h).2 ?_
    rw [State.withConfig_config, (write_accepted s.config i v).1]
    exact hs.2.1
  | rejects h => exact spansWithinLimit_of_empty (no_entries_of_not_accepted hs h).2 hs.2.1
  | accepts h hr =>
    exact spansWithinLimit_of_empty (no_entries_of_not_accepted hs h).2 (iff_of_true rfl nofun)
  | pops f i n => unfold State.readPop; dsimp only; split <;> exact hs

/-- R46, R87: every step keeps the spans within their limit. -/
theorem step_keeps_spans (h : step s = .next t) (hs : s.SpansWithinLimit) : t.SpansWithinLimit := by
  rcases beyond_handles.step (spanLedger_honest hs) rfl h with ⟨n, h⟩ | ⟨u, ⟨l, n, rfl⟩, h⟩
  · exact (h.keeps (P := fun b u => b.spans ∧ u.SpansWithinLimit)
      (fun _ _ _ _ h => h.spans (fun _ _ => id)) ⟨trivial, hs⟩).2
  · exact h.spans hs

/-! ### Hold limits -/

theorem withinHoldLimits_of_empty (he : s.lock.entries = []) : s.WithinHoldLimits := fun c => by
  rw [State.countedEntries, he]; exact Nat.zero_le _

theorem Exceptional.holdLimits (h : Exceptional s t) (hspans : s.SpansWithinLimit)
    (hs : s.WithinHoldLimits) : t.WithinHoldLimits := by
  cases h with
  | nothing => exact hs
  | resets h => exact withinHoldLimits_of_empty rfl
  | holds => exact withinHoldLimits_of_empty rfl
  | writes i v h => exact withinHoldLimits_of_empty (no_entries_of_not_accepted hspans h).2
  | rejects h => exact hs
  | accepts h hr => exact hs
  | pops f i n => unfold State.readPop; dsimp only; split <;> exact hs

/-- R9: every step keeps the counted entries within the hold limits. -/
theorem step_keeps_holdLimits (h : step s = .next t) (hone : s.OneOwnerPerResource)
    (hspans : s.SpansWithinLimit) (hs : s.WithinHoldLimits) : t.WithinHoldLimits := by
  rcases beyond_handles.step (ownerLedger_honest hone) rfl h with ⟨n, h⟩ | ⟨u, ⟨l, n, rfl⟩, h⟩
  · exact (h.keeps (P := fun b u => OneOwnerIn b u.lock ∧ u.WithinHoldLimits)
      (fun _ _ _ _ h => h.holdLimits (fun _ _ => id)) ⟨oneOwnerIn_ownerLedger.2 hone, hs⟩).2
  · exact h.holdLimits hspans hs

/-! ### LOST alone outside MEMBER -/

/-- The ledger of a step that relies on LOST alone outside MEMBER. -/
def State.lostLedger (s : State) : Ledger := ⟨0, s.lock.takings, False, False, False, False, True⟩

theorem lostLedger_honest (h : s.LostOutsideMember) : s.lostLedger.Honest s :=
  ⟨False.elim, False.elim, False.elim, False.elim, fun _ => h⟩

theorem Exceptional.lost (h : Exceptional s t)
    (ha : s.config.accepted = true ↔ s.member.station ≠ .unconfigured) (hs : s.LostOutsideMember) :
    t.LostOutsideMember := by
  cases h with
  | resets h => exact fun _ => ⟨nofun, rfl, rfl⟩
  | holds => exact fun _ => ⟨nofun, rfl, rfl⟩
  | accepts h hr =>
    refine fun _ => hs (fun hm => ?_)
    rw [ha.2 (by rw [hm]; decide)] at h
    exact nomatch h
  | pops f i n => unfold State.readPop; dsimp only; split <;> exact hs
  | _ => exact hs

/-- R18, R87: where the accepted flag is set exactly outside UNCONFIGURED, every step keeps LOST alone outside MEMBER.
Without that it is not kept (`not_stepKeepsOneOwnerAndSpans`). -/
theorem step_keeps_lost (h : step s = .next t)
    (ha : s.config.accepted = true ↔ s.member.station ≠ .unconfigured) (hs : s.LostOutsideMember) :
    t.LostOutsideMember := by
  rcases beyond_handles.step (lostLedger_honest hs) rfl h with ⟨n, h⟩ | ⟨u, ⟨l, n, rfl⟩, h⟩
  · exact (h.keeps (P := fun b u => b.lost ∧ u.LostOutsideMember)
      (fun _ _ _ _ h => h.lost (fun _ _ => id)) ⟨trivial, hs⟩).2
  · exact h.lost ha hs

end

end Sys2Proof.Machine
end

section
/-! PROOFS. What the outbound queue may hold, as a fact about the queue, the station state and the own frame on the
link. -/

namespace Sys2Proof.Machine

open Sys2Proof

/-! ### The own frame on the link -/

theorem ownAge_eq (l : LinkState) : l.ownAge = l.ownFrame.map OwnFrame.age := by cases l <;> rfl

theorem ownFrame_eq_some {l : LinkState} {o : OwnFrame} :
    l.ownFrame = some o ↔ l = .arbitrating o ∨ l = .sending o ∨ l = .sendingAnswer o := by
  cases l <;> simp [LinkState.ownFrame]

/-! ### Membership frames that a station state allows -/

/-- A marked frame that is on the link, where c is the own frame there. -/
def FrameRecord.Carried (c : Option OwnFrame) (f : FrameRecord) : Prop :=
  c.map OwnFrame.age = some f.age ∧ f.withdrawn = true

/-- The membership frames that a station state allows (R128), where c is the own frame on the link. -/
def FrameRecord.AllowedIn (own : StationNo) (c : Option OwnFrame) (f : FrameRecord) : StationState → Prop
  | .member => f.kind = .beacon ∨ f.departsOther own = true
  | .joining => f.kind = .join ∨ f.Carried c
  | .leaving => f.departNamed = some own ∨ f.Carried c
  | .unconfigured => False
  | .offline => False
  | .refused => False

theorem allows_iff {s : State} {f : FrameRecord} :
    s.Allows f ↔ f.AllowedIn s.own s.link.state.ownFrame s.member.station := by
  have hcarried : (s.onLink f = true ∧ f.withdrawn = true) ↔ f.Carried s.link.state.ownFrame := by
    rw [State.onLink, decide_eq_true_eq, ownAge_eq]; rfl
  unfold State.Allows
  rw [hcarried]
  cases s.member.station <;> exact .rfl

section
variable {own : StationNo} {c : Option OwnFrame} {f g : FrameRecord}

theorem FrameRecord.Follows.departNamed (h : g.Follows f) : g.departNamed = f.departNamed := by
  unfold FrameRecord.departNamed; rw [h.kind, h.payload]

theorem FrameRecord.Follows.departsOther (h : g.Follows f) : g.departsOther own = f.departsOther own := by
  unfold FrameRecord.departsOther; rw [h.departNamed]

theorem FrameRecord.Follows.carried (h : g.Follows f) (hf : f.Carried c) : g.Carried c :=
  ⟨h.age ▸ hf.1, h.marked hf.2⟩

theorem FrameRecord.Follows.allowedIn {st : StationState} (h : g.Follows f) (hf : f.AllowedIn own c st) :
    g.AllowedIn own c st := by
  cases st with
  | member => exact hf.imp (h.kind.trans ·) (h.departsOther.trans ·)
  | joining => exact hf.imp (h.kind.trans ·) h.carried
  | leaving => exact hf.imp (h.departNamed.trans ·) h.carried
  | unconfigured => exact hf
  | offline => exact hf
  | refused => exact hf

theorem FrameRecord.Follows.agrees (h : g.Follows f) (hf : f.Agrees) : g.Agrees := by
  unfold FrameRecord.Agrees at hf ⊢
  rw [h.owner, h.kind, h.payload]
  exact hf

theorem memberConflict_symm (p q : FrameContent) : memberConflict own p q = memberConflict own q p := by
  cases p <;> cases q <;> simp [memberConflict, eq_comm, Bool.and_comm]

theorem framesApart_symm (h : FramesApart own f g) : FramesApart own g f :=
  ⟨h.1.symm, fun p q hp hq => memberConflict_symm p q ▸ h.2 q p hq hp⟩

theorem FrameRecord.Follows.apart {f' g' : FrameRecord} (hf : f'.Follows f) (hg : g'.Follows g)
    (h : FramesApart own f g) : FramesApart own f' g' := by
  unfold FramesApart
  rw [hf.age, hg.age, hf.payload, hg.payload]
  exact h

end

/-! ### The queue -/

/-- What the queue may hold at station `own` in station state `st`, where c is the own frame on the link. -/
structure QueueFits (own : StationNo) (st : StationState) (c : Option OwnFrame) (q : OutboundQueue) :
    Prop where
  agrees  : ∀ f ∈ q.frames, f.Agrees
  aged    : ∀ f ∈ q.frames, f.age < q.nextAge
  allowed : ∀ f ∈ q.frames, f.kind.isLock = false → f.AllowedIn own c st
  apart   : q.frames.Pairwise (FramesApart own)
  young   : ∀ o, c = some o → o.age < q.nextAge
  sends   : ∀ o, c = some o → ∀ f ∈ q.frames, f.age = o.age → f.owner = .membership →
    f.payload = some o.content

theorem queuesFit_iff {s : State} : s.QueuesFit ↔
    s.WantsAreOwned ∧ QueueFits s.own s.member.station s.link.state.ownFrame s.queue ∧ s.DepartsFit := by
  have hsends : s.SendsWhatIsQueued ↔ ∀ o, s.link.state.ownFrame = some o → o.age < s.queue.nextAge ∧
      ∀ f ∈ s.queue.frames, f.age = o.age → f.owner = .membership → f.payload = some o.content := by
    simp only [State.SendsWhatIsQueued, ownFrame_eq_some]
  constructor
  · rintro ⟨hwants, hframes, hallows, hapart, hdeparts, h⟩
    have h := hsends.1 h
    exact ⟨hwants, ⟨fun f hf => (hframes f hf).1, fun f hf => (hframes f hf).2,
      fun f hf hl => allows_iff.1 (hallows f hf hl), hapart, fun o ho => (h o ho).1,
      fun o ho => (h o ho).2⟩, hdeparts⟩
  · rintro ⟨hwants, hq, hdeparts⟩
    exact ⟨hwants, fun f hf => ⟨hq.agrees f hf, hq.aged f hf⟩,
      fun f hf hl => allows_iff.2 (hq.allowed f hf hl), hq.apart, hdeparts,
      hsends.2 (fun o ho => ⟨hq.young o ho, hq.sends o ho⟩)⟩

section
variable {own : StationNo} {st st' : StationState} {c : Option OwnFrame} {q : OutboundQueue}

/-- Two frames of the queue that are not one have different ages and do not conflict. -/
theorem QueueFits.apart_of_ne (h : QueueFits own st c q) {f g : FrameRecord} (hf : f ∈ q.frames)
    (hg : g ∈ q.frames) (hne : f ≠ g) : FramesApart own f g :=
  have : Std.Symm (FramesApart own) := ⟨fun _ _ => framesApart_symm⟩
  h.apart.forall hf hg hne

theorem QueueFits.eq_of_age (h : QueueFits own st c q) {f g : FrameRecord} (hf : f ∈ q.frames)
    (hg : g ∈ q.frames) (hage : f.age = g.age) : f = g := by
  by_contra hne
  exact (h.apart_of_ne hf hg hne).1 hage

/-- Frames that leave, are marked or count an attempt. -/
theorem QueueFits.thin (h : QueueFits own st c q) {k : FrameRecord → Option FrameRecord}
    (hk : ∀ f f', k f = some f' → f'.Follows f) :
    QueueFits own st c { q with frames := q.frames.filterMap k } := by
  have from_ : ∀ f' ∈ q.frames.filterMap k, ∃ f ∈ q.frames, f'.Follows f := fun f' hf' =>
    let ⟨f, hf, hkf⟩ := List.mem_filterMap.1 hf'
    ⟨f, hf, hk f f' hkf⟩
  refine ⟨fun f' hf' => ?_, fun f' hf' => ?_, fun f' hf' hl => ?_, ?_, h.young, fun o ho f' hf' => ?_⟩
  · obtain ⟨f, hf, hfol⟩ := from_ f' hf'; exact hfol.agrees (h.agrees f hf)
  · obtain ⟨f, hf, hfol⟩ := from_ f' hf'; exact hfol.age ▸ h.aged f hf
  · obtain ⟨f, hf, hfol⟩ := from_ f' hf'; exact hfol.allowedIn (h.allowed f hf (hfol.kind ▸ hl))
  · exact List.pairwise_filterMap.2 (h.apart.imp
      (fun hapart x hx y hy => (hk _ x hx).apart (hk _ y hy) hapart))
  · obtain ⟨f, hf, hfol⟩ := from_ f' hf'
    rw [hfol.age, hfol.owner, hfol.payload]
    exact h.sends o ho f hf

/-- A frame is placed with the next age. -/
theorem QueueFits.place (h : QueueFits own st c q) {f : FrameRecord} (hage : f.age = q.nextAge)
    (ha : f.Agrees) (hallowed : f.kind.isLock = false → f.AllowedIn own c st)
    (hapart : ∀ g ∈ q.frames, ∀ p r, g.payload = some p → f.payload = some r →
      memberConflict own p r = false) :
    QueueFits own st c { frames := q.frames ++ [f], nextAge := q.nextAge + 1 } := by
  have hmem : ∀ {x}, x ∈ q.frames ++ [f] → x ∈ q.frames ∨ x = f := fun hx =>
    (List.mem_append.1 hx).imp_right List.mem_singleton.1
  refine ⟨fun x hx => ?_, fun x hx => ?_, fun x hx hl => ?_, ?_, fun o ho => (h.young o ho).trans
    (Nat.lt_succ_self _), fun o ho x hx hxage => ?_⟩
  · rcases hmem hx with hx | rfl
    · exact h.agrees x hx
    · exact ha
  · rcases hmem hx with hx | rfl
    · exact (h.aged x hx).trans (Nat.lt_succ_self _)
    · exact hage ▸ Nat.lt_succ_self _
  · rcases hmem hx with hx | rfl
    · exact h.allowed x hx hl
    · exact hallowed hl
  · refine List.pairwise_append.2 ⟨h.apart, List.pairwise_singleton _ _, fun g hg x hx => ?_⟩
    rw [List.mem_singleton.1 hx]
    exact ⟨hage ▸ (h.aged g hg).ne, hapart g hg⟩
  · rcases hmem hx with hx | rfl
    · exact h.sends o ho x hx hxage
    · exact absurd (hxage.symm.trans hage) (h.young o ho).ne

/-- A queue without membership frames fits every station state and an idle link. -/
theorem QueueFits.bare (h : QueueFits own st c q) (hl : ∀ f ∈ q.frames, f.kind.isLock = true)
    (st' : StationState) : QueueFits own st' none q :=
  ⟨h.agrees, h.aged, fun f hf hm => absurd (hl f hf) (by simp [hm]), h.apart, nofun, nofun⟩

/-- The station state changes where the new one allows the membership frames. -/
theorem QueueFits.restation (h : QueueFits own st c q)
    (hl : ∀ f ∈ q.frames, f.kind.isLock = false → f.AllowedIn own c st') : QueueFits own st' c q :=
  { h with allowed := hl }

/-- The own frame's attempt ends where its record has left the queue or is not marked. -/
theorem QueueFits.land {o : OwnFrame} (h : QueueFits own st (some o) q)
    (ho : ∀ f ∈ q.frames, f.age = o.age → f.withdrawn = false) : QueueFits own st none q := by
  have hcarried : ∀ f ∈ q.frames, ¬ f.Carried (some o) := by
    rintro f hf ⟨hage, hw⟩
    exact absurd (ho f hf (Option.some.inj hage).symm) (by simp [hw])
  refine ⟨h.agrees, h.aged, fun f hf hl => ?_, h.apart, nofun, nofun⟩
  have hallowed := h.allowed f hf hl
  cases st with
  | member => exact hallowed
  | joining => exact .inl (hallowed.resolve_right (hcarried f hf))
  | leaving => exact .inl (hallowed.resolve_right (hcarried f hf))
  | unconfigured => exact hallowed
  | offline => exact hallowed
  | refused => exact hallowed

/-- An attempt begins: the frame that it takes sends what it was placed with. -/
theorem QueueFits.begin (h : QueueFits own st none q) {f : FrameRecord} (hf : f ∈ q.frames)
    {k : FrameContent} (hk : f.owner = .membership → f.payload = some k) :
    QueueFits own st (some ⟨f.age, k⟩) q := by
  refine ⟨h.agrees, h.aged, fun g hg hl => ?_, h.apart, fun o ho => ?_, fun o ho g hg hage => ?_⟩
  · have hallowed := h.allowed g hg hl
    have hcarried : ¬ g.Carried none := fun hc => nomatch hc.1
    cases st with
    | member => exact hallowed
    | joining => exact .inl (hallowed.resolve_right hcarried)
    | leaving => exact .inl (hallowed.resolve_right hcarried)
    | unconfigured => exact hallowed
    | offline => exact hallowed
    | refused => exact hallowed
  · cases ho; exact h.aged f hf
  · cases ho; rw [h.eq_of_age hg hf hage]; exact hk

/-! ### How many membership frames there are -/

/-- Which of its two kinds of membership frames a station state sees in a frame. -/
def FrameRecord.isFirstOf (own : StationNo) (f : FrameRecord) : StationState → Bool
  | .member => decide (f.kind = .beacon)
  | .joining => decide (f.kind = .join)
  | .leaving => decide (f.departNamed = some own)
  | .unconfigured => false
  | .offline => false
  | .refused => false

theorem payload_of_kind {f : FrameRecord} (ha : f.Agrees) (hl : f.kind.isLock = false) :
    ∃ k, f.payload = some k ∧ k.kind = f.kind := by
  unfold FrameRecord.Agrees at ha
  split at ha
  · rw [hl] at ha; exact nomatch ha.1
  · exact Option.map_eq_some_iff.1 ha.2

theorem payload_of_join {f : FrameRecord} (ha : f.Agrees) (hk : f.kind = .join) :
    ∃ t d, f.payload = some (.join t d) := by
  obtain ⟨k, hp, hkind⟩ := payload_of_kind ha (by rw [hk]; rfl)
  rw [hk] at hkind
  cases k <;> cases hkind
  exact ⟨_, _, hp⟩

theorem payload_of_beacon {f : FrameRecord} (ha : f.Agrees) (hk : f.kind = .beacon) :
    ∃ t, f.payload = some (.beacon t) := by
  obtain ⟨k, hp, hkind⟩ := payload_of_kind ha (by rw [hk]; rfl)
  rw [hk] at hkind
  cases k <;> cases hkind
  exact ⟨_, hp⟩

/-- Two JOINs, two BEACONs, two own DEPARTs or two DEPARTs of other stations are never apart. -/
theorem not_apart_of_join {f g : FrameRecord} (hf : f.Agrees) (hg : g.Agrees) (hfk : f.kind = .join)
    (hgk : g.kind = .join) : ¬ FramesApart own f g := by
  obtain ⟨t, d, hp⟩ := payload_of_join hf hfk
  obtain ⟨t', d', hp'⟩ := payload_of_join hg hgk
  exact fun h => absurd (h.2 _ _ hp hp') (by simp [memberConflict])

theorem not_apart_of_beacon {f g : FrameRecord} (hf : f.Agrees) (hg : g.Agrees) (hfk : f.kind = .beacon)
    (hgk : g.kind = .beacon) : ¬ FramesApart own f g := by
  obtain ⟨t, hp⟩ := payload_of_beacon hf hfk
  obtain ⟨t', hp'⟩ := payload_of_beacon hg hgk
  exact fun h => absurd (h.2 _ _ hp hp') (by simp [memberConflict])

theorem not_apart_of_depart {f g : FrameRecord} {x y : StationNo} (hf : f.departNamed = some x)
    (hg : g.departNamed = some y) (hxy : x = y ∨ (x ≠ own ∧ y ≠ own)) : ¬ FramesApart own f g := by
  obtain ⟨-, t, hp⟩ := departNamed_eq_some.1 hf
  obtain ⟨-, t', hp'⟩ := departNamed_eq_some.1 hg
  exact fun h => absurd (h.2 _ _ hp hp') (by simpa [memberConflict, or_iff_not_imp_left] using hxy)

theorem not_apart_of_carried {f g : FrameRecord} (hf : f.Carried c) (hg : g.Carried c) :
    ¬ FramesApart own f g :=
  fun h => h.1 (Option.some.inj (hf.1.symm.trans hg.1))

/-- Of two membership frames in the queue, one is of the first kind and the other is not. -/
theorem isFirstOf_ne {f g : FrameRecord} (haf : f.Agrees) (hag : g.Agrees) (hf : f.AllowedIn own c st)
    (hg : g.AllowedIn own c st) (h : FramesApart own f g) : f.isFirstOf own st ≠ g.isFirstOf own st := by
  have key : ∀ {p r p' r' : Prop} [Decidable p] [Decidable r], p ∨ p' → r ∨ r' → ¬ (p ∧ r) →
      ¬ (p' ∧ r') → decide p ≠ decide r := by
    intro p r p' r' _ _ hp hr hboth hnone heq
    rw [decide_eq_decide] at heq
    by_cases h : p
    · exact hboth ⟨h, heq.1 h⟩
    · exact hnone ⟨hp.resolve_left h, hr.resolve_left (fun h' => h (heq.2 h'))⟩
  cases st with
  | member =>
    refine key hf hg (fun hb => not_apart_of_beacon haf hag hb.1 hb.2 h) (fun hd => ?_)
    obtain ⟨x, hx, hxne⟩ := departsOther_iff.1 hd.1
    obtain ⟨y, hy, hyne⟩ := departsOther_iff.1 hd.2
    exact not_apart_of_depart hx hy (.inr ⟨hxne, hyne⟩) h
  | joining =>
    exact key hf hg (fun hj => not_apart_of_join haf hag hj.1 hj.2 h)
      (fun hc => not_apart_of_carried hc.1 hc.2 h)
  | leaving =>
    exact key hf hg (fun hd => not_apart_of_depart hd.1 hd.2 (.inl rfl) h)
      (fun hc => not_apart_of_carried hc.1 hc.2 h)
  | unconfigured => exact hf.elim
  | offline => exact hf.elim
  | refused => exact hf.elim

/-- R128: at most two membership frames. -/
theorem QueueFits.membershipFrames_le (h : QueueFits own st c q) :
    q.frames.countP (fun f => !f.kind.isLock) ≤ 2 := by
  have hnodup : ((q.frames.filter (fun f => !f.kind.isLock)).map (fun f => f.isFirstOf own st)).Nodup := by
    refine List.pairwise_map.2 (List.Pairwise.imp_of_mem (fun {f g} hf hg hapart => ?_)
      (h.apart.sublist List.filter_sublist))
    obtain ⟨hf, hfl⟩ := List.mem_filter.1 hf
    obtain ⟨hg, hgl⟩ := List.mem_filter.1 hg
    exact isFirstOf_ne (h.agrees f hf) (h.agrees g hg) (h.allowed f hf (by simpa using hfl))
      (h.allowed g hg (by simpa using hgl)) hapart
  have hlength := hnodup.length_le_card
  rwa [List.length_map, Fintype.card_bool, ← List.countP_eq_length_filter] at hlength

/-- R128: at most eight frames, six of them the lock engine's. -/
theorem QueueFits.frames_le (h : QueueFits own st c q)
    (hlock : q.frames.countP (fun f => f.kind.isLock) ≤ 6) : q.frames.length ≤ 8 := by
  have hsplit := List.length_eq_countP_add_countP (fun f : FrameRecord => f.kind.isLock) (l := q.frames)
  have hmembership := h.membershipFrames_le
  simp only [Bool.not_eq_true, Bool.decide_eq_false] at hsplit
  omega

end

end Sys2Proof.Machine
end

section
/-! PROOFS. The lock engine's moves and the membership unit's small changes keep what the queue and the want list may
hold. -/

namespace Sys2Proof.Machine

open Sys2Proof

/-! ### The lock engine's moves alone -/

/-- The changes beyond the lock engine that a row of the lock engine's moves alone lets in. -/
def NoChange : State → State → Prop := fun _ _ => False

section
variable {p : State → State → Prop} {b b' : Ledger} {s t : State}

/-- A move is one of the changes let in, or one of the lock engine's, which leave the record, the membership unit and
the transceiver. -/
theorem Move.change (h : Move p b s b' t) : (p s t ∧ b' = b) ∨
    (Move NoChange b s b' t ∧ t.config = s.config ∧ t.member = s.member ∧ t.link = s.link) := by
  cases h with
  | other h => exact .inl ⟨h, rfl⟩
  | doubt h => exact .inr ⟨.doubt h, rfl, rfl, rfl⟩
  | notice _ _ n => exact .inr ⟨.notice _ _ n, enterNotice_config _, enterNotice_member _, enterNotice_link _⟩
  | ring r h => exact .inr ⟨.ring r h, rfl, rfl, rfl⟩
  | slot i x h => exact .inr ⟨.slot i x h, rfl, rfl, rfl⟩
  | takes i x h hx => exact .inr ⟨.takes i x h hx, rfl, rfl, rfl⟩
  | completes i x hx => exact .inr ⟨.completes i x hx, rfl, rfl, rfl⟩
  | count => exact .inr ⟨.count _ _, rfl, rfl, rfl⟩
  | reserve n h h' => exact .inr ⟨.reserve n h h', rfl, rfl, rfl⟩
  | restate id st m hm hs h => exact .inr ⟨.restate id st m hm hs h, rfl, rfl, rfl⟩
  | enters c st hst hm hroom hnew hlimit hid htaken =>
    exact .inr ⟨.enters c st hst hm hroom hnew hlimit hid htaken, by simp, by simp, by simp⟩
  | relabel f h => exact .inr ⟨.relabel f h, rfl, rfl, rfl⟩
  | drop id m h => exact .inr ⟨.drop id m h, rfl, rfl, rfl⟩
  | dropQuery id m h => exact .inr ⟨.dropQuery id m h, rfl, rfl, rfl⟩
  | asks q hm hid htaken => exact .inr ⟨.asks q hm hid htaken, rfl, rfl, rfl⟩
  | relabelQueries f h => exact .inr ⟨.relabelQueries f h, rfl, rfl, rfl⟩
  | unwant l h => exact .inr ⟨.unwant l h, rfl, rfl, rfl⟩
  | want o hm hnew howned => exact .inr ⟨.want o hm hnew howned, rfl, rfl, rfl⟩
  | place o h => exact .inr ⟨.place o h, rfl, rfl, rfl⟩
  | thin g h => exact .inr ⟨.thin g h, rfl, rfl, rfl⟩
  | falls => exact .inr ⟨.falls _ _, rfl, rfl, rfl⟩

/-- R127 to R129: the lock engine places and withdraws its own frames alone. -/
theorem Move.queueFits {own : StationNo} {st : StationState} {c : Option OwnFrame}
    (h : Move NoChange b s b' t) (hs : QueueFits own st c s.queue) : QueueFits own st c t.queue := by
  cases h with
  | other h => exact h.elim
  | notice _ _ n => rwa [enterNotice_queue]
  | enters c st hst hm hroom hnew hlimit hid htaken => rwa [putEntry_queue]
  | place o h =>
    have hlock := wantedKind_isLock s o
    exact hs.place rfl ⟨hlock, rfl⟩ (fun hl => absurd hlock (by simp [hl])) (fun _ _ _ _ _ hr => nomatch hr)
  | thin g h => exact hs.thin h
  | doubt => exact hs
  | ring => exact hs
  | slot => exact hs
  | takes => exact hs
  | completes => exact hs
  | count => exact hs
  | reserve => exact hs
  | restate => exact hs
  | relabel => exact hs
  | drop => exact hs
  | dropQuery => exact hs
  | asks => exact hs
  | relabelQueries => exact hs
  | unwant => exact hs
  | want => exact hs
  | falls => exact hs

theorem Moves.queueFits {own : StationNo} {st : StationState} {c : Option OwnFrame}
    (h : Moves NoChange b s b' t) (hs : QueueFits own st c s.queue) : QueueFits own st c t.queue :=
  h.keeps (P := fun _ u => QueueFits own st c u.queue) (fun _ _ _ _ h => h.queueFits) hs

/-! ### The wants -/

theorem wantsAreOwned_iff : s.WantsAreOwned ↔ s.lock.wants.Nodup ∧ ∀ o ∈ s.lock.wants, s.Owned o := by
  refine and_congr_right (fun _ => forall₂_congr (fun o _ => ?_))
  cases o <;> exact .rfl

/-- The wants stay owned where the places in use stay. -/
theorem WantsAreOwned.of_owned (h : s.WantsAreOwned) (hsub : t.lock.wants.Sublist s.lock.wants)
    (howned : ∀ o ∈ t.lock.wants, s.Owned o → t.Owned o) : t.WantsAreOwned := by
  obtain ⟨hnodup, hs⟩ := wantsAreOwned_iff.1 h
  exact wantsAreOwned_iff.2 ⟨hnodup.sublist hsub, fun o ho => howned o ho (hs o (hsub.subset ho))⟩

theorem owned_of_ids (he : ∀ e ∈ s.lock.entries, ∃ e' ∈ t.lock.entries, e'.id = e.id)
    (hq : ∀ q ∈ s.lock.queries, ∃ q' ∈ t.lock.queries, q'.id = q.id) (o : Owner) (h : s.Owned o) :
    t.Owned o := by
  cases o with
  | entry id =>
    obtain ⟨e, hmem, rfl⟩ := h
    exact he e hmem
  | query id =>
    obtain ⟨q, hmem, rfl⟩ := h
    exact hq q hmem

theorem id_setEntry {id : Nat} {st : EntryState} {e : LockEntry} (he : e ∈ s.lock.entries) :
    ∃ e' ∈ (s.setEntry id st).lock.entries, e'.id = e.id := by
  refine ⟨_, List.mem_map_of_mem he, ?_⟩
  split <;> rfl

theorem id_putEntry {c : Claimant} {st : EntryState} {e : LockEntry} (he : e ∈ s.lock.entries) :
    ∃ e' ∈ (s.putEntry c st).lock.entries, e'.id = e.id := by
  unfold State.putEntry
  split
  · exact id_setEntry he
  · exact ⟨e, List.mem_append_left _ he, rfl⟩

/-- R14: a want has an owner, and goes with it. -/
theorem Move.wants (h : Move NoChange b s b' t) (hb : b.entries) (hs : s.WantsAreOwned) :
    t.WantsAreOwned := by
  have hq : ∀ q ∈ s.lock.queries, ∃ q' ∈ s.lock.queries, q'.id = q.id := fun q hq => ⟨q, hq, rfl⟩
  have he : ∀ e ∈ s.lock.entries, ∃ e' ∈ s.lock.entries, e'.id = e.id := fun e he => ⟨e, he, rfl⟩
  cases h with
  | other h => exact h.elim
  | notice _ _ n => rw [wantsAreOwned_iff] at hs ⊢; unfold State.Owned; rwa [enterNotice_lock]
  | restate id st m =>
    exact WantsAreOwned.of_owned hs (List.Sublist.refl _)
      (fun o _ => owned_of_ids (fun e he => id_setEntry he) hq o)
  | enters c st =>
    exact WantsAreOwned.of_owned hs (by simp)
      (fun o _ => owned_of_ids (fun e he => id_putEntry he) (by rwa [putEntry_queries]) o)
  | relabel f h =>
    exact WantsAreOwned.of_owned hs (List.Sublist.refl _)
      (fun o _ => owned_of_ids (t := s.withEntries (s.lock.entries.map f)) (fun e he => ⟨f e, List.mem_map_of_mem he, (h e).id⟩) hq o)
  | drop id m h =>
    refine WantsAreOwned.of_owned hs List.filter_sublist (fun o ho howned => ?_)
    have hne := of_decide_eq_true (List.mem_filter.1 ho).2
    cases o with
    | entry n =>
      obtain ⟨e, hmem, rfl⟩ := howned
      exact ⟨e, List.mem_filter.2 ⟨hmem, decide_eq_true (fun hid => hne (by rw [hid]))⟩, rfl⟩
    | query n => exact howned
  | dropQuery id m h =>
    refine WantsAreOwned.of_owned hs List.filter_sublist (fun o ho howned => ?_)
    have hne := of_decide_eq_true (List.mem_filter.1 ho).2
    cases o with
    | entry n => exact howned
    | query n =>
      obtain ⟨q, hmem, rfl⟩ := howned
      exact ⟨q, List.mem_filter.2 ⟨hmem, decide_eq_true (fun hid => hne (by rw [hid]))⟩, rfl⟩
  | asks q =>
    exact WantsAreOwned.of_owned hs (List.Sublist.refl _)
      (fun o _ => owned_of_ids (t := s.withQueries (s.lock.queries ++ [q])) he (fun r hr => ⟨r, List.mem_append_left _ hr, rfl⟩) o)
  | relabelQueries f h =>
    exact WantsAreOwned.of_owned hs (List.Sublist.refl _)
      (fun o _ => owned_of_ids (t := s.withQueries (s.lock.queries.map f)) he (fun q hq => ⟨f q, List.mem_map_of_mem hq, (h q).1⟩) o)
  | unwant l h => exact WantsAreOwned.of_owned hs h (fun _ _ => id)
  | want o hm hnew howned =>
    obtain ⟨hnodup, hs⟩ := wantsAreOwned_iff.1 hs
    refine wantsAreOwned_iff.2 ⟨?_, fun o' ho' => ?_⟩
    · exact hnodup.append (List.nodup_singleton o) (List.disjoint_singleton.2 hnew)
    · rcases List.mem_append.1 ho' with ho' | ho'
      · exact hs o' ho'
      · rw [List.mem_singleton.1 ho']; exact howned hb
  | falls => exact ⟨List.nodup_nil, nofun⟩
  | doubt => exact hs
  | ring => exact hs
  | slot => exact hs
  | takes => exact hs
  | completes => exact hs
  | count => exact hs
  | reserve => exact hs
  | place => exact hs
  | thin => exact hs

end

/-! ### The fit of queues and wants -/

/-- The PENDING slots are named, and wants, queue and membership unit fit, where c is taken for the own frame on the
link. -/
structure FitIn (c : Option OwnFrame) (b : Ledger) (s : State) : Prop where
  named   : NamedIn b s
  wants   : s.WantsAreOwned
  queue   : QueueFits s.own s.member.station c s.queue
  departs : s.DepartsFit

/-- A change that keeps the fit, with the same frame on the link. -/
def Fitting (c : Option OwnFrame) (s t : State) : Prop := ∀ b, FitIn c b s → FitIn c b t

theorem DepartsFit.congr {s t : State} (h : s.DepartsFit) (hconfig : t.config = s.config)
    (hmember : t.member = s.member) (hlink : s.link.state = .off → t.link.state = .off) :
    t.DepartsFit := by
  have hrecord : ∀ x, t.record x = s.record x := fun x => by unfold State.record; rw [hmember]
  obtain ⟨hdeparts, hmem, hown, haccepted, hunconfigured⟩ := h
  have hname : t.own = s.own := by unfold State.own; rw [hconfig]
  refine ⟨by rwa [hmember, hname], by rwa [hmember], by rwa [hrecord, hname], by rwa [hconfig, hmember],
    fun hu => ?_⟩
  obtain ⟨hoff, hsilent⟩ := hunconfigured (hmember ▸ hu)
  exact ⟨hlink hoff, fun x => by rw [hrecord]; exact hsilent x⟩

section
variable {p : State → State → Prop} {c : Option OwnFrame} {b b' : Ledger} {s t : State}

theorem Move.fitsOfNoChange (h : Move NoChange b s b' t) (hconfig : t.config = s.config)
    (hmember : t.member = s.member) (hlink : t.link = s.link) (hs : FitIn c b s) : FitIn c b' t := by
  refine ⟨h.named (fun _ _ => False.elim) hs.named, h.wants hs.named.entries hs.wants, ?_,
    DepartsFit.congr hs.departs hconfig hmember (by rw [hlink]; exact id)⟩
  rw [hmember, State.own, hconfig]
  exact h.queueFits hs.queue

theorem Move.fits (hp : ∀ s t, p s t → Fitting c s t) (h : Move p b s b' t) (hs : FitIn c b s) :
    FitIn c b' t := by
  rcases h.change with ⟨hpst, rfl⟩ | ⟨hmove, hconfig, hmember, hlink⟩
  · exact hp _ _ hpst _ hs
  · exact hmove.fitsOfNoChange hconfig hmember hlink hs

theorem Moves.fits (h : Moves (Fitting c) b s b' t) (hs : FitIn c b s) : FitIn c b' t :=
  h.keeps (P := FitIn c) (fun _ _ _ _ h => h.fits (fun _ _ => id)) hs

end

/-! ### The membership unit's records -/

theorem record_setRecord (s : State) (x y : StationNo) (r : MemberRecord) :
    (s.setRecord x r).record y = if y = x ∧ x ≠ 0 then r else s.record y := by
  unfold State.setRecord State.record
  by_cases hx : x = 0
  · rw [dif_pos hx, if_neg (fun h => h.2 hx)]
  · rw [dif_neg hx]
    by_cases hy : y = 0
    · have hyx : ¬ (y = x ∧ x ≠ 0) := fun h => hx (h.1 ▸ hy)
      rw [dif_pos hy, dif_pos hy, if_neg hyx]
    · rw [dif_neg hy, dif_neg hy]
      simp only [State.withMember_member, Vector.getElem_set]
      have hindex : x.toNat - 1 = y.toNat - 1 ↔ y = x ∧ x ≠ 0 := by
        have hx' : x.toNat ≠ 0 := fun h => hx (BitVec.eq_of_toNat_eq h)
        have hy' : y.toNat ≠ 0 := fun h => hy (BitVec.eq_of_toNat_eq h)
        constructor
        · exact fun h => ⟨BitVec.eq_of_toNat_eq (by omega), hx⟩
        · rintro ⟨rfl, -⟩; rfl
      simp only [hindex]

theorem silence_stopAll (s : State) (x : StationNo) : (s.stopAllSilence.record x).silence = none := by
  unfold State.record
  split
  · rfl
  · simp [State.stopAllSilence]

theorem silence_tick (s : State) (x : StationNo) (h : (s.record x).silence = none) :
    (((s.withMember s.member.tick).withLink s.link.tick).record x).silence = none := by
  unfold State.record at h ⊢
  split
  · rfl
  · rename_i hx
    rw [dif_neg hx] at h
    simp [MembershipUnit.tick, h, tickTimer]

theorem tick_state (l : Transceiver) : l.tick.state = l.state := by
  unfold Transceiver.tick Transceiver.countIdle
  split
  · rfl
  · split <;> rfl
  · split <;> rfl
  · rfl

/-! ### The membership unit's small changes -/

section
variable {g : Prop} {c : Option OwnFrame} {b : Ledger} {s t : State}

/-- A change of the membership unit that leaves the queue. -/
theorem FitIn.ofSide (h : FitIn c b s) (hside : SideMove g s t) (hqueue : t.queue = s.queue)
    (hstation : t.member.station = s.member.station) (hdeparts : t.DepartsFit) : FitIn c b t := by
  have hbeyond := hside.beyond
  refine ⟨(Move.other hbeyond).named (fun _ _ => id) h.named, ?_, ?_, hdeparts⟩
  · rw [wantsAreOwned_iff]
    unfold State.Owned
    rw [hbeyond.lock]
    exact wantsAreOwned_iff.1 h.wants
  · rw [hqueue, hstation, State.own, hbeyond.config]
    exact h.queue

/-- The queue with a membership frame placed, where it does not conflict (R129). -/
theorem QueueFits.placeMember {own : StationNo} {st : StationState} (h : QueueFits own st c s.queue)
    (hown : s.own = own) {k : FrameContent} (hk : k.kind.isLock = false)
    (hallowed : ∀ f : FrameRecord, f.kind = k.kind → f.payload = some k → f.AllowedIn own c st) :
    QueueFits own st c (s.placeMember k).queue := by
  subst hown
  unfold State.placeMember
  split
  · exact h
  · rename_i hany
    refine h.place rfl ⟨hk, rfl⟩ (fun _ => hallowed _ rfl rfl) (fun f hf p r hp hr => ?_)
    cases hr
    by_contra hconflict
    refine hany (List.any_eq_true.2 ⟨f, hf, ?_⟩)
    simpa [hp] using hconflict

/-- A membership frame that the station state allows is placed. -/
theorem FitIn.place (h : FitIn c b s) {k : FrameContent} (hk : k.kind.isLock = false)
    (hallowed : ∀ f : FrameRecord, f.kind = k.kind → f.payload = some k →
      f.AllowedIn s.own c s.member.station) : FitIn c b (s.placeMember k) := by
  have hbeyond := placeMember_beyond s hk
  refine ⟨(Move.other hbeyond).named (fun _ _ => id) h.named, ?_, ?_,
    DepartsFit.congr h.departs (by simp) (by simp) (by rw [placeMember_link]; exact id)⟩
  · rw [wantsAreOwned_iff]
    unfold State.Owned
    rw [hbeyond.lock]
    exact wantsAreOwned_iff.1 h.wants
  · rw [placeMember_member, State.own, placeMember_config]
    exact h.queue.placeMember rfl hk hallowed

theorem allowedIn_depart {own x : StationNo} {t : Tag} {f : FrameRecord} (hk : f.kind = .depart)
    (hp : f.payload = some (.depart x t)) (hx : x ≠ own) : f.AllowedIn own c .member :=
  .inr (departsOther_iff.2 ⟨x, departNamed_eq_some.2 ⟨hk, t, hp⟩, hx⟩)

theorem DepartsFit.setRecord (h : s.DepartsFit) {x : StationNo} {r : MemberRecord}
    (hr : r.silence = (s.record x).silence ∨ r.silence = none ∨
      (x ≠ s.own ∧ (s.member.station ≠ .unconfigured ∨ s.link.state ≠ .off))) :
    (s.setRecord x r).DepartsFit := by
  obtain ⟨hdeparts, hmem, hown, haccepted, hunconfigured⟩ := h
  have hkept : ∀ y, (s.record y).silence = none →
      (x = y → r.silence = (s.record x).silence ∨ r.silence = none) →
      ((s.setRecord x r).record y).silence = none := by
    intro y hy hxy
    rw [record_setRecord]
    split
    · rename_i heq
      rcases hxy heq.1.symm with h | h
      · rw [h, ← heq.1]; exact hy
      · exact h
    · exact hy
  refine ⟨by simpa using hdeparts, by simpa using hmem, ?_, by simpa using haccepted, fun hu => ?_⟩
  · rw [setRecord_own]
    exact hkept _ hown (fun hx => hr.imp_right (fun h => h.resolve_right (fun h => h.1 hx)))
  · rw [setRecord_station] at hu
    obtain ⟨hoff, hsilent⟩ := hunconfigured hu
    refine ⟨by rwa [setRecord_link], fun y => hkept y (hsilent y) (fun _ => ?_)⟩
    exact hr.imp_right (fun h => h.resolve_right
      (fun h => h.2.elim (fun hne => hne hu) (fun hne => hne hoff)))

/-- A change of the pending DEPARTs. -/
theorem FitIn.withDeparts (h : FitIn c b s) {l : List (StationNo × Tag)}
    (hl : ∀ d ∈ l, d.1 ≠ s.own) (hm : s.member.station ≠ .member → l = []) :
    FitIn c b (s.withDeparts l) :=
  ⟨(Move.other (Beyond.ofMember s { s.member with departs := l } rfl)).named (fun _ _ => id) h.named,
    h.wants, h.queue, hl, hm, h.departs.2.2⟩

/-- Every small change of the membership unit, the transceiver and the host port keeps the fit. -/
theorem SideMove.fits (h : SideMove True s t) : Fitting c s t := by
  intro b hs
  obtain ⟨hdeparts, hmem, hown, haccepted, hunconfigured⟩ := hs.departs
  have hside := h
  cases h with
  | record x r h =>
    exact hs.ofSide hside (setRecord_queue s x r) (setRecord_station s x r)
      (DepartsFit.setRecord hs.departs (h trivial))
  | departs l h =>
    exact hs.withDeparts (fun d hd => hdeparts d (h.subset hd)) (fun hm => List.sublist_nil.1 (hmem hm ▸ h))
  | pends x t h =>
    refine hs.withDeparts (fun d hd => ?_) (fun hm => absurd (h trivial).1 hm)
    rcases List.mem_append.1 hd with hd | hd
    · exact hdeparts d hd
    · rw [List.mem_singleton.1 hd]; exact (h trivial).2
  | fills x t rest h =>
    have hm : s.member.station = .member := by
      by_contra hm
      rw [hmem hm] at h
      exact nomatch h
    have hx : x ≠ s.own := hdeparts (x, t) (h ▸ List.mem_cons_self)
    have hrest := hs.withDeparts (l := rest) (fun d hd => hdeparts d (h ▸ List.mem_cons_of_mem _ hd))
      (fun h => absurd hm h)
    refine hrest.place rfl (fun f hk hp => ?_)
    have hstation : (s.withDeparts rest).member.station = .member := hm
    rw [hstation]
    exact allowedIn_depart hk hp hx
  | places k hk h =>
    refine hs.place hk (fun f hkind hp => ?_)
    rcases h trivial with ⟨hst, hj⟩ | ⟨hst, hm⟩
    · rw [hst]; exact .inl (hkind.trans hj)
    · rw [hst]
      rcases hm with hb | ⟨x, t, rfl, hx⟩
      · exact .inl (hkind.trans hb)
      · exact allowedIn_depart hkind hp hx
  | timers bt ft =>
    exact hs.ofSide hside rfl rfl ⟨hdeparts, hmem, hown, haccepted, hunconfigured⟩
  | hush =>
    exact hs.ofSide hside rfl rfl ⟨hdeparts, hmem, silence_stopAll s _, haccepted,
      fun hu => ⟨(hunconfigured hu).1, silence_stopAll s⟩⟩
  | link x h =>
    exact hs.ofSide hside rfl rfl (DepartsFit.congr hs.departs rfl rfl (h trivial).2)
  | clocks =>
    refine hs.ofSide hside rfl rfl ⟨hdeparts, hmem, silence_tick s _ hown, haccepted, fun hu => ?_⟩
    obtain ⟨hoff, hsilent⟩ := hunconfigured hu
    exact ⟨(tick_state s.link).trans hoff, fun x => silence_tick s x (hsilent x)⟩
  | shell hlock hmember hlink hqueue hring hnotices hconfig hpop =>
    exact hs.ofSide hside hqueue (by rw [hmember])
      (DepartsFit.congr hs.departs hconfig hmember (by rw [hlink]; exact id))

theorem sideMove_fitting : ∀ s t, SideMove True s t → Fitting c s t := fun _ _ h => h.fits

/-- Every small change leaves the own frame on the link. -/
theorem SideMove.ownFrame (h : SideMove True s t) : t.link.state.ownFrame = s.link.state.ownFrame := by
  cases h with
  | record x r h => rw [setRecord_link]
  | departs l h => rfl
  | pends x t h => rfl
  | fills x t rest h => rw [placeMember_link]; rfl
  | places k hk h => rw [placeMember_link]
  | timers bt ft => rfl
  | hush => rfl
  | link x h => exact (h trivial).1
  | clocks => exact congrArg LinkState.ownFrame (tick_state s.link)
  | shell hlock hmember hlink => rw [hlink]

end

end Sys2Proof.Machine
end

section
/-! PROOFS. The changes of the station state and the ends of own attempts keep what the queue may hold. -/

namespace Sys2Proof.Machine

open Sys2Proof

/-! ### Changes that keep the fit -/

/-- A change that keeps the fit, each state with its own frame on the link. -/
def KeepsFit (s t : State) : Prop :=
  ∀ b, FitIn s.link.state.ownFrame b s → FitIn t.link.state.ownFrame b t

section
variable {c c' : Option OwnFrame} {b b' : Ledger} {s t u : State}

theorem Move.keepsFit (h : Move KeepsFit b s b' t) (hs : FitIn s.link.state.ownFrame b s) :
    FitIn t.link.state.ownFrame b' t := by
  rcases h.change with ⟨hst, rfl⟩ | ⟨hmove, hconfig, hmember, hlink⟩
  · exact hst _ hs
  · rw [hlink]; exact hmove.fitsOfNoChange hconfig hmember hlink hs

theorem Moves.keepsFit (h : Moves KeepsFit b s b' t) (hs : FitIn s.link.state.ownFrame b s) :
    FitIn t.link.state.ownFrame b' t :=
  h.keeps (P := fun b u => FitIn u.link.state.ownFrame b u) (fun _ _ _ _ h => h.keepsFit) hs

theorem KeepsFit.moves (h : KeepsFit s t) : Moves KeepsFit b s b t := (Move.other h).moves

theorem sideMove_keepsFit : ∀ s t, SideMove True s t → KeepsFit s t := fun _ _ h b hs => by
  rw [h.ownFrame]; exact h.fits b hs

theorem KeepsFit.of_moves (h : ∀ b, FitIn s.link.state.ownFrame b s → Moves KeepsFit b s b t) :
    KeepsFit s t := fun b hs => (h b hs).keepsFit hs

/-! ### The station state and the transceiver under the fit -/

/-- R98, R128: outside MEMBER no DEPART is pending. -/
theorem FitIn.no_departs (h : FitIn c b s) (hm : s.member.station ≠ .member) : s.member.departs = [] :=
  h.departs.2.1 hm

/-- While an own frame is on the link the station is not UNCONFIGURED. -/
theorem FitIn.configured {o : OwnFrame} (h : FitIn c b s) (ho : s.link.state.ownFrame = some o) :
    s.member.station ≠ .unconfigured := by
  intro hu
  rw [(h.departs.2.2.2.2 hu).1] at ho
  exact nomatch ho

/-- The station state changes, with no DEPART pending, to one that allows the queue. -/
theorem FitIn.restation (h : FitIn c b s) {m : MembershipUnit} (hrecords : m.records = s.member.records)
    (hnone : m.departs = []) (hs : s.member.station ≠ .unconfigured) (hm : m.station ≠ .unconfigured)
    (hq : QueueFits s.own m.station c' s.queue) : FitIn c' b (s.withMember m) := by
  have hrecord : ∀ x, (s.withMember m).record x = s.record x := fun x => by
    unfold State.record; simp only [State.withMember_member, hrecords]
  obtain ⟨-, -, hown, haccepted, -⟩ := h.departs
  refine ⟨h.named.of_same rfl rfl rfl rfl, h.wants, hq, ?_, fun _ => hnone, ?_,
    iff_of_true (haccepted.2 hs) hm, fun hu => absurd hu hm⟩
  · intro d hd
    rw [State.withMember_member, hnone] at hd
    exact nomatch hd
  · exact (congrArg MemberRecord.silence (hrecord s.own)).trans hown

/-- The transceiver may take any state where the station is not UNCONFIGURED. -/
theorem FitIn.relink (h : FitIn c b s) (hs : s.member.station ≠ .unconfigured) (x : Transceiver) :
    FitIn c b (s.withLink x) := by
  obtain ⟨hdeparts, hmem, hown, haccepted, -⟩ := h.departs
  exact ⟨h.named.of_same rfl rfl rfl rfl, h.wants, h.queue, hdeparts, hmem, hown, haccepted,
    fun hu => absurd hu hs⟩

/-- An own attempt ends: its frame has left the queue or is not marked. -/
theorem FitIn.land {o : OwnFrame} (h : FitIn (some o) b s)
    (ho : ∀ f ∈ s.queue.frames, f.age = o.age → f.withdrawn = false) : FitIn none b s :=
  ⟨h.named, h.wants, h.queue.land ho, h.departs⟩

/-! ### The fence (R104) -/

@[simp] theorem restartSilenceIfPresent_departs (x : StationNo) :
    (s.restartSilenceIfPresent x).member.departs = s.member.departs := by
  unfold State.restartSilenceIfPresent State.restartSilence
  split <;> simp

theorem withdrawMembership_departs (s : State) : s.withdrawMembership.member.departs = [] :=
  foldl_keeps (fun u : State => u.member.departs) _ (fun _ x => restartSilenceIfPresent_departs x) _ _

theorem fenced_departs (s : State) (k : FenceCause) : (s.fenced k).member.departs = [] := by
  rw [State.fenced, enterNotice_member, member_of_beyondLock (wakeWaiters_beyondLock _ _),
    State.endOwnRecord, setRecord_departs, convert_member, withdrawMembership_departs]

theorem fenced_link (s : State) (k : FenceCause) : (s.fenced k).link = s.link := by
  rw [State.fenced, enterNotice_link, wakeWaiters_link, State.endOwnRecord, setRecord_link,
    link_of_beyondLock (convert_beyondLock _ _), withdrawMembership_link]

theorem rejoining_link (s : State) (k : FenceCause) : (s.rejoining k).link = s.link := by
  rw [State.rejoining, State.withMember_link, fenced_link]

/-- After the withdrawals of the fence and of LEAVE, a membership frame is marked and on the link. -/
theorem QueueFits.withdrawn (h : QueueFits s.own .member s.link.state.ownFrame s.queue)
    {st : StationState} (hst : st = .joining ∨ st = .leaving) :
    QueueFits s.own st s.link.state.ownFrame s.withdrawMembership.queue := by
  have hfollows : ∀ f f' : FrameRecord, (if f.endsWithMembership s.own then
      if s.onLink f then some { f with withdrawn := true } else none else some f) = some f' →
      f'.Follows f := by
    intro f f' hf
    split at hf
    · split at hf
      · obtain rfl := Option.some.inj hf; exact ⟨rfl, rfl, rfl, rfl, fun _ => rfl⟩
      · exact nomatch hf
    · obtain rfl := Option.some.inj hf; exact Follows.refl f
  rw [withdrawMembership_queue]
  refine (h.thin hfollows).restation (fun f' hf' hl => ?_)
  obtain ⟨f, hf, hmap⟩ := List.mem_filterMap.1 hf'
  have hkind : f.kind.isLock = false := (hfollows f f' hmap).kind ▸ hl
  have hends : f.endsWithMembership s.own = true :=
    Bool.or_eq_true _ _ ▸ (h.allowed f hf hkind).imp_left decide_eq_true
  rw [if_pos hends] at hmap
  have hcarried : f'.Carried s.link.state.ownFrame := by
    split at hmap
    · rename_i hon
      obtain rfl := Option.some.inj hmap
      refine ⟨?_, rfl⟩
      rw [← ownAge_eq]
      exact of_decide_eq_true hon
    · exact nomatch hmap
  rcases hst with rfl | rfl
  · exact .inr hcarried
  · exact .inr hcarried

theorem withdrawMembership_fits (hs : FitIn s.link.state.ownFrame b s) :
    FitIn s.link.state.ownFrame b s.withdrawMembership :=
  (moves_withdrawMembership sideMove_fitting (fun _ => hs.departs.1)).fits hs

theorem withdrawMembership_own (s : State) : s.withdrawMembership.own = s.own :=
  foldl_keeps State.own _ (fun u x => own_of_shell (restartSilenceIfPresent_shell u x)) _ _

theorem fenced_own (s : State) (k : FenceCause) : (s.fenced k).own = s.own := by
  rw [State.fenced, enterNotice_own, own_of_shell (shell_of_beyondLock (wakeWaiters_beyondLock _ _)),
    State.endOwnRecord, setRecord_own, own_of_shell (convert_shell _ _), withdrawMembership_own]

theorem fenced_queueFits (k : FenceCause)
    (h : QueueFits s.own .member s.link.state.ownFrame s.queue) :
    QueueFits s.own .joining s.link.state.ownFrame (s.fenced k).queue := by
  have hconvert := (moves_convert (b := s.blankLedger) Code.fenced).queueFits (h.withdrawn (.inl rfl))
  refine Moves.queueFits (b := s.blankLedger) ((moves_wakeWaiters s.own).trans (moves_enterNotice _)) ?_
  rw [State.endOwnRecord, setRecord_queue]
  exact hconvert

theorem fence_keepsFit (k : FenceCause) (hm : s.member.station = .member) : KeepsFit s (s.fence k) := by
  intro b hs
  have hfenced := (moves_fenced sideMove_fitting k (fun _ => hs.departs.1)).fits hs
  have hrejoining : FitIn s.link.state.ownFrame b (s.rejoining k) := by
    refine hfenced.restation rfl (fenced_departs s k) ?_ nofun ?_
    · rw [fenced_station, hm]; decide
    · rw [fenced_own]
      exact fenced_queueFits k (hm ▸ hs.queue)
  have hjoin : Moves KeepsFit b (s.rejoining k) b (s.fence k) := by
    rw [fence_eq]
    exact Moves.refl.thenIf (fun _ => moves_wantJoin sideMove_keepsFit (fun _ => rfl))
  exact hjoin.keepsFit (by rwa [rejoining_link])

/-! ### The end of LEAVING (R107) -/

/-- In LEAVING with no own frame on the link, only the own DEPART is left to withdraw. -/
theorem farewell_lockFrames (hs : QueueFits s.own .leaving none s.queue)
    (hlink : s.link.state.ownFrame = none) :
    QueueFits s.own .offline none s.farewell.queue := by
  have hthin : QueueFits s.own .offline none { s.queue with
      frames := s.queue.frames.filterMap (fun f => if f.departNamed = some s.own then
        if s.onLink f then some { f with withdrawn := true } else none else some f) } := by
    have hon : ∀ f, s.onLink f = false := fun f => by
      rw [State.onLink, ownAge_eq, hlink]; rfl
    refine (hs.thin (fun f f' hf => ?_)).bare (fun f' hf' => ?_) _
    · simp only [hon, Bool.false_eq_true, if_false] at hf
      split at hf
      · exact nomatch hf
      · obtain rfl := Option.some.inj hf; exact Follows.refl f
    · obtain ⟨f, hf, hmap⟩ := List.mem_filterMap.1 hf'
      simp only [hon, Bool.false_eq_true, if_false] at hmap
      split at hmap
      · exact nomatch hmap
      · rename_i hnamed
        obtain rfl := Option.some.inj hmap
        by_contra hl
        rcases hs.allowed f hf (by simpa using hl) with hd | hc
        · exact hnamed hd
        · exact nomatch hc.1
  show QueueFits _ _ _ (State.wakeWaiters _ s.own).queue
  refine Moves.queueFits (b := s.blankLedger) (moves_wakeWaiters s.own) ?_
  rw [State.endOwnRecord, setRecord_queue]
  exact hthin

theorem farewell_own (s : State) : s.farewell.own = s.own := by
  show (State.wakeWaiters _ s.own).own = _
  rw [own_of_shell (shell_of_beyondLock (wakeWaiters_beyondLock _ _)), State.endOwnRecord, setRecord_own]
  rfl

theorem endLeaving_keepsFit (hlink : s.link.state.ownFrame = none) (hst : s.member.station = .leaving) :
    KeepsFit s s.endLeaving := by
  intro b hs
  rw [hlink] at hs
  have hfarewell := (moves_farewell sideMove_fitting (fun _ => hlink)).fits hs
  have hne : s.farewell.member.station = .leaving := (farewell_station s).trans hst
  rw [endLeaving_eq]
  refine Moves.keepsFit (moves_enterNotice _) (hfarewell.restation rfl
    (hfarewell.no_departs (by rw [hne]; decide)) (by rw [hne]; decide) nofun ?_)
  rw [farewell_own]
  exact farewell_lockFrames (hst ▸ hs.queue) hlink

/-! ### The own JOIN (R89, R90) and START (R88) -/

theorem joinAccepted_keepsFit (hst : s.member.station = .joining)
    (hl : ∀ f ∈ s.queue.frames, f.kind.isLock = true) : KeepsFit s s.joinAccepted := by
  intro b hs
  have hstation : FitIn s.link.state.ownFrame b (s.setStation .member) :=
    hs.restation rfl (hs.no_departs (by rw [hst]; decide)) (by rw [hst]; decide) nofun
      (hs.queue.restation (fun f hf hm => absurd (hl f hf) (by simp [hm])))
  unfold State.joinAccepted
  exact Moves.keepsFit (Moves.after (moves_enterNotice _) (Moves.after
    (moves_startOwnTimers sideMove_keepsFit) (moves_setRecord sideMove_keepsFit s.own rfl))) hstation

theorem joinAbandoned_keepsFit (hst : s.member.station = .joining)
    (hl : ∀ f ∈ s.queue.frames, f.kind.isLock = true) : KeepsFit s s.joinAbandoned := by
  intro b hs
  have hstation : FitIn none b (s.setStation .refused) :=
    hs.restation rfl (hs.no_departs (by rw [hst]; decide)) (by rw [hst]; decide) nofun
      (hs.queue.bare hl _)
  have hoff : FitIn none b (s.setStation .refused).linkOff := hstation.relink nofun _
  unfold State.joinAbandoned
  exact Moves.keepsFit (Moves.after (moves_enterNotice _) ((SideMove.hush _).moves sideMove_keepsFit)) hoff

theorem silence_restartAll (s : State) : (s.restartAllSilence.record s.own).silence
    = (s.record s.own).silence := by
  unfold State.record
  by_cases h : s.own = 0
  · rw [dif_pos h, dif_pos h]
  · have hne : s.own.toNat ≠ 0 := fun hz => h (BitVec.eq_of_toNat_eq hz)
    have hindex : ¬ (s.own.toNat - 1 + 1 ≠ s.own.toNat) := by omega
    rw [dif_neg h, dif_neg h]
    simp [State.restartAllSilence, hindex]

theorem FitIn.restartAllSilence (h : FitIn c b s) (hs : s.member.station ≠ .unconfigured) :
    FitIn c b s.restartAllSilence := by
  obtain ⟨hdeparts, hmem, hown, haccepted, -⟩ := h.departs
  exact ⟨h.named.of_same rfl rfl rfl rfl, h.wants, h.queue, hdeparts, hmem,
    (silence_restartAll s).trans hown, haccepted, fun hu => absurd hu hs⟩

theorem beginJoin_keepsFit (hst : s.member.station = .offline ∨ s.member.station = .refused) :
    KeepsFit s s.beginJoin := by
  intro b hs
  have hne : s.member.station ≠ .member ∧ s.member.station ≠ .unconfigured := by
    rcases hst with h | h <;> rw [h] <;> decide
  have hl : ∀ f ∈ s.queue.frames, f.kind.isLock = true := by
    intro f hf
    by_contra hm
    have hallowed := hs.queue.allowed f hf (by simpa using hm)
    rcases hst with h | h <;> rw [h] at hallowed <;> exact hallowed
  have hstation : FitIn none b (s.withMember
      { s.member with ownTag := some (startTag s.elapsed), station := .joining }) :=
    hs.restation rfl (hs.no_departs hne.1) hne.2 nofun (hs.queue.bare hl _)
  exact (hstation.relink nofun ⟨.seeking, 0, 0, .recessive⟩).restartAllSilence nofun

/-! ### LEAVE (R106) -/

theorem setStation_placeMember (s : State) (k : FrameContent) (st : StationState) :
    (s.placeMember k).setStation st = (s.setStation st).placeMember k := by
  unfold State.placeMember
  exact apply_ite (fun u : State => u.setStation st) _ _ _

theorem beginLeave_keepsFit (hm : s.member.station = .member) : KeepsFit s s.beginLeave := by
  intro b hs
  have hconvert : FitIn s.link.state.ownFrame b (s.withdrawMembership.convert .offline) :=
    (moves_convert Code.offline).fits (withdrawMembership_fits hs)
  have hown : (s.withdrawMembership.convert .offline).own = s.own := by
    rw [own_of_shell (convert_shell _ _), withdrawMembership_own]
  have hlink : (s.withdrawMembership.convert .offline).link = s.link := by
    rw [link_of_beyondLock (convert_beyondLock _ _), withdrawMembership_link]
  have hqueue : QueueFits s.own .leaving s.link.state.ownFrame
      (s.withdrawMembership.convert .offline).queue :=
    (moves_convert (b := s.blankLedger) Code.offline).queueFits
      (QueueFits.withdrawn (hm ▸ hs.queue) (.inr rfl))
  have hleaving : FitIn s.link.state.ownFrame b
      ((s.withdrawMembership.convert .offline).setStation .leaving) := by
    refine hconvert.restation rfl ?_ ?_ nofun (by rw [hown]; exact hqueue)
    · rw [convert_member, withdrawMembership_departs]
    · rw [convert_member, withdrawMembership_station, hm]; decide
  unfold State.beginLeave
  dsimp only
  rw [setStation_placeMember, placeMember_link]
  show FitIn (s.withdrawMembership.convert .offline).link.state.ownFrame _ _
  rw [hlink]
  have hname : ((s.withdrawMembership.convert .offline).setStation .leaving).own = s.own := hown
  refine hleaving.place rfl (fun f hk hp => .inl (departNamed_eq_some.2 ⟨hk, s.member.ownTag.getD 0, ?_⟩))
  rw [hname, hp]

/-! ### The begin of an attempt (R112, R130) -/

theorem headOf_mem {l : List FrameRecord} {f : FrameRecord} (h : headOf l = some f) : f ∈ l := by
  induction l generalizing f with
  | nil => exact nomatch h
  | cons x l ih =>
    unfold headOf at h
    split at h
    · rw [← Option.some.inj h]; exact List.mem_cons_self
    · rename_i y hy
      split at h
      · rw [← Option.some.inj h]; exact List.mem_cons_of_mem _ (ih hy)
      · rw [← Option.some.inj h]; exact List.mem_cons_self

theorem startArbitration_keepsFit (s : State) : KeepsFit s s.startArbitration := by
  refine KeepsFit.of_moves (fun b hs => ?_)
  unfold State.startArbitration
  split
  · rename_i hl
    have hlisten : Moves KeepsFit b s b (s.setLink .listening) :=
      moves_withLink sideMove_keepsFit _ rfl (hears_of_eq hl ⟨rfl, nofun⟩)
    split
    · rename_i f hf
      split
      · rename_i k hk
        refine KeepsFit.moves (fun b hs => ?_)
        rw [hl] at hs
        have hmem := (List.mem_filter.1 (headOf_mem hf)).1
        have hpayload : f.owner = .membership → f.payload = some k := by
          intro ho
          rw [State.contentOf, ho] at hk
          exact hk
        have hlinked : FitIn none b (s.setLink (.arbitrating ⟨f.age, k⟩)) :=
          ⟨hs.named.of_same rfl rfl rfl rfl, hs.wants, hs.queue, DepartsFit.congr hs.departs rfl rfl
            (fun h => by rw [hl] at h; exact nomatch h)⟩
        exact ⟨hlinked.named, hlinked.wants, hs.queue.begin hmem hpayload, hlinked.departs⟩
      · exact hlisten
    · exact hlisten
  · exact .refl

/-! ### The ends of an attempt (R131, R134 to R137) -/

theorem frameAt_some {n : Nat} {f : FrameRecord} (h : s.frameAt n = some f) :
    f ∈ s.queue.frames ∧ f.age = n := by
  unfold State.frameAt at h
  exact ⟨List.mem_of_find?_eq_some h, of_decide_eq_true (List.find?_some (p := fun f : FrameRecord => decide (f.age = n)) h)⟩

theorem frameAt_none {n : Nat} (h : s.frameAt n = none) : ∀ f ∈ s.queue.frames, f.age ≠ n :=
  fun f hf hage => List.find?_eq_none.1 h f hf (decide_eq_true hage)

/-- The frame of an attempt that has ended leaves the queue. -/
theorem FitIn.leaves {o : OwnFrame} (h : FitIn (some o) b s) (hlink : s.link.state.ownFrame = none)
    {f : FrameRecord} (hf : f.age = o.age) :
    FitIn (s.leaveQueue f).link.state.ownFrame b (s.leaveQueue f) := by
  have hfilter : FitIn none b (s.withFrames (s.queue.frames.filter (fun g => decide (g.age ≠ f.age)))) := by
    refine ((moves_filterFrames _).fits h).land (fun g hg hage => ?_)
    exact absurd (hage.trans hf.symm) (of_decide_eq_true (List.mem_filter.1 hg).2)
  have hremove : Moves KeepsFit b
      (s.withFrames (s.queue.frames.filter (fun g => decide (g.age ≠ f.age)))) b (s.removeFrame f) := by
    unfold State.removeFrame
    exact Moves.refl.thenIf (fun _ => moves_admitWant)
  have hleave : Moves KeepsFit b (s.removeFrame f) b (s.leaveQueue f) := by
    unfold State.leaveQueue
    exact Moves.refl.thenIf (fun _ => moves_fillDepart sideMove_keepsFit)
  have hnone : (s.withFrames (s.queue.frames.filter (fun g => decide (g.age ≠ f.age)))).link.state.ownFrame
      = none := hlink
  exact (hremove.trans hleave).keepsFit (by rw [hnone]; exact hfilter)

/-- An attempt has ended whose frame is not marked. -/
theorem FitIn.landAt {o : OwnFrame} (h : FitIn (some o) b s) (hlink : s.link.state.ownFrame = none)
    (hf : ∀ f, s.frameAt o.age = some f → f.withdrawn = false) : FitIn s.link.state.ownFrame b s := by
  rw [hlink]
  refine h.land (fun g hg hage => ?_)
  cases hat : s.frameAt o.age with
  | none => exact absurd hage (frameAt_none hat g hg)
  | some f =>
    obtain ⟨hmem, hfage⟩ := frameAt_some hat
    rw [h.queue.eq_of_age hg hmem (hage.trans hfage.symm)]
    exact hf f hat

@[simp] theorem leaveQueue_link (f : FrameRecord) : (s.leaveQueue f).link = s.link := by
  unfold State.leaveQueue
  split <;> simp

theorem leaveQueue_station (f : FrameRecord) :
    (s.leaveQueue f).member.station = s.member.station := by
  have hremove : (s.removeFrame f).member = s.member := member_of_beyondLock (removeFrame_beyondLock s f)
  unfold State.leaveQueue
  split
  · unfold State.fillDepart
    split
    · rw [hremove]
    · split
      · rw [hremove]
      · rw [placeMember_member]
        show (s.removeFrame f).member.station = _
        rw [hremove]
  · rw [hremove]

/-- R128: the own JOIN is the only membership frame beside one on the link: when it leaves, none is left. -/
theorem FitIn.join_leaves {o : OwnFrame} (h : FitIn (some o) b s) (hst : s.member.station = .joining)
    {f : FrameRecord} (hf : f ∈ s.queue.frames) (hage : f.age = o.age) {t : Tag} {d : Digest}
    (hp : f.payload = some (.join t d)) : ∀ g ∈ (s.leaveQueue f).queue.frames, g.kind.isLock = true := by
  have hagrees := h.queue.agrees f hf
  have hkind : f.kind = .join := by
    unfold FrameRecord.Agrees at hagrees
    split at hagrees
    · rw [hp] at hagrees; exact nomatch hagrees.2
    · rw [hp] at hagrees; exact (Option.some.inj hagrees.2).symm
  have hqueue : (s.leaveQueue f).queue.frames = s.queue.frames.filter (fun g => decide (g.age ≠ f.age)) := by
    have hother : f.departsOther s.own = false := by
      unfold FrameRecord.departsOther FrameRecord.departNamed; rw [hkind]
    rw [State.leaveQueue, if_neg (by simp [hother]), State.removeFrame, hkind]
    rfl
  rw [hqueue]
  intro g hg
  obtain ⟨hg, hne⟩ := List.mem_filter.1 hg
  have hne := of_decide_eq_true hne
  by_contra hl
  rcases hst ▸ h.queue.allowed g hg (by simpa using hl) with hj | hc
  · exact not_apart_of_join (h.queue.agrees g hg) hagrees hj hkind
      (h.queue.apart_of_ne hg hf (fun heq => hne (heq ▸ rfl)))
  · exact hne ((Option.some.inj hc.1).symm.trans hage.symm)

theorem reportLost_fits {o : OwnFrame} (h : FitIn (some o) b s) (hlink : s.link.state.ownFrame = none) :
    FitIn (s.reportLost o.age).link.state.ownFrame b (s.reportLost o.age) := by
  unfold State.reportLost
  split
  · rename_i hat; exact h.landAt hlink (fun f hf => by rw [hat] at hf; exact nomatch hf)
  · rename_i f hat
    obtain ⟨hmem, hage⟩ := frameAt_some hat
    split
    · exact (moves_afterMarked sideMove_keepsFit f).keepsFit (h.leaves hlink hage)
    · rename_i hw
      refine (moves_attemptOver f.owner).keepsFit (h.landAt hlink (fun g hg => ?_))
      rw [← Option.some.inj (hat.symm.trans hg)]
      simpa using hw

theorem abandoned_fits {o : OwnFrame} (h : FitIn (some o) b s) (hlink : s.link.state.ownFrame = none)
    {f : FrameRecord} (hf : f ∈ s.queue.frames) (hage : f.age = o.age) :
    FitIn ((s.leaveQueue f).abandoned f).link.state.ownFrame b ((s.leaveQueue f).abandoned f) := by
  refine Moves.keepsFit (moves_abandoned sideMove_keepsFit f (fun t d _ hp hst => ?_)
    (fun t _ _ hst => ?_)) (h.leaves hlink hage)
  · exact (joinAbandoned_keepsFit hst
      (h.join_leaves (by rwa [leaveQueue_station] at hst) hf hage hp)).moves
  · exact (endLeaving_keepsFit (by rwa [leaveQueue_link]) hst).moves

theorem reportFailed_fits {o : OwnFrame} (h : FitIn (some o) b s) (hlink : s.link.state.ownFrame = none) :
    FitIn (s.reportFailed o.age).link.state.ownFrame b (s.reportFailed o.age) := by
  unfold State.reportFailed
  split
  · rename_i hat; exact h.landAt hlink (fun f hf => by rw [hat] at hf; exact nomatch hf)
  · rename_i f hat
    obtain ⟨hmem, hage⟩ := frameAt_some hat
    split
    · exact (moves_afterMarked sideMove_keepsFit f).keepsFit (h.leaves hlink hage)
    · rename_i hw
      split
      · refine Moves.keepsFit (Moves.after (moves_attemptOver f.owner)
          (moves_updateFrame o.age (fun _ => ⟨rfl, rfl, rfl, rfl, id⟩))) (h.landAt hlink (fun g hg => ?_))
        rw [← Option.some.inj (hat.symm.trans hg)]
        simpa using hw
      · exact abandoned_fits h hlink hmem hage

theorem reportAccepted_fits {o : OwnFrame} (h : FitIn (some o) b s)
    (hlink : s.link.state.ownFrame = none) (a : Answer) :
    FitIn (s.reportAccepted o.age o.content a).link.state.ownFrame b
      (s.reportAccepted o.age o.content a) := by
  unfold State.reportAccepted
  split
  · rename_i hat; exact h.landAt hlink (fun f hf => by rw [hat] at hf; exact nomatch hf)
  · rename_i f hat
    obtain ⟨hmem, hage⟩ := frameAt_some hat
    refine Moves.keepsFit (moves_accepted f o.content a (fun t d ho hc hst => ?_)
      (fun t _ _ hst => ?_)) (h.leaves hlink hage)
    · have hp : f.payload = some (.join t d) := hc ▸ h.queue.sends o rfl f hmem hage ho
      exact (joinAccepted_keepsFit hst
        (h.join_leaves (by rwa [leaveQueue_station] at hst) hmem hage hp)).moves
    · exact (endLeaving_keepsFit (by rwa [leaveQueue_link]) hst).moves

theorem departNames_link (x : StationNo) (t : Tag) (k : DownCause) :
    (s.departNames x t k).link = s.link := by
  unfold State.departNames
  split <;> simp

theorem ownAccepted_link (k : FrameContent) : (s.ownAccepted k).link = s.link := by
  have htimers : (if s.member.station = .member then s.startOwnTimers else s).link = s.link := by
    split <;> rfl
  unfold State.ownAccepted
  dsimp only
  split
  · split
    · exact htimers
    · rw [departNames_link, htimers]
  · exact htimers

theorem ownFrameAccepted_keepsFit {o : OwnFrame} (l : LineAtEnd) (a : Answer)
    (ho : s.link.state.ownFrame = some o) : KeepsFit s (s.ownFrameAccepted o l a) := by
  intro b hs
  rw [ho] at hs
  have haccepted := (moves_ownAccepted sideMove_fitting o.content).fits hs
  have hne := haccepted.configured (o := o) (by rwa [ownAccepted_link])
  exact reportAccepted_fits (haccepted.relink hne _) (linkIdle_hears (s.ownAccepted o.content) l).1 a

end

/-! ### What the fit brings -/

theorem fit_handles : Handles True KeepsFit where
  side := sideMove_keepsFit
  fence := fun _ _ k hm => (fence_keepsFit k hm).moves
  ends := fun _ _ hlink hst => (endLeaving_keepsFit (hlink trivial) hst).moves
  leaves := fun _ _ hm => (beginLeave_keepsFit hm).moves
  joins := fun _ _ hst => (beginJoin_keepsFit hst).moves
  silent := fun b s x hx => by
    refine KeepsFit.moves (KeepsFit.of_moves (fun b hs => moves_expireSilence sideMove_keepsFit ?_))
    rintro - rfl
    rw [hs.departs.2.2.1] at hx
    exact nomatch hx
  begins := fun _ s => (startArbitration_keepsFit s).moves
  loses := fun _ s o x ho hx => KeepsFit.moves (fun b hs => by
    rw [ho] at hs
    exact reportLost_fits (hs.relink (hs.configured ho) x) hx.1)
  fails := fun _ s o x ho hx => KeepsFit.moves (fun b hs => by
    rw [ho] at hs
    exact reportFailed_fits (hs.relink (hs.configured ho) x) hx.1)
  accepted := fun _ _ _ l a ho => (ownFrameAccepted_keepsFit l a ho).moves

end Sys2Proof.Machine
end

section
/-! PROOFS. Every step keeps the fit of the queue and the want list, and with the capacities their bounds. -/

namespace Sys2Proof.Machine

open Sys2Proof

/-! ### The commands that change a record or reset the station -/

section
variable {s t : State}

/-- While UNCONFIGURED the queue has no membership frame, so that it fits under any station number and state. -/
theorem QueueFits.of_unconfigured {own own' : StationNo} {st : StationState} {c : Option OwnFrame}
    {q : OutboundQueue} (h : QueueFits own .unconfigured c q) : QueueFits own' st none q := by
  have hlock : ∀ f ∈ q.frames, f.kind.isLock = true := by
    intro f hf
    by_contra hl
    exact h.allowed f hf (by simpa using hl)
  have hpayload : ∀ f ∈ q.frames, f.payload = none := by
    intro f hf
    have hagrees := h.agrees f hf
    unfold FrameRecord.Agrees at hagrees
    split at hagrees
    · exact hagrees.2
    · exact absurd (hlock f hf) (by simp [hagrees.1])
  refine ⟨h.agrees, h.aged, fun f hf hl => absurd (hlock f hf) (by simp [hl]), ?_, nofun, nofun⟩
  refine h.apart.imp_of_mem (fun hf _ hapart => ⟨hapart.1, fun p _ hp _ => ?_⟩)
  rw [hpayload _ hf] at hp
  exact nomatch hp

/-- A change of the record or the station state of a station that is UNCONFIGURED. -/
theorem queuesFit_of_unconfigured (h : s.QueuesFit) (hu : s.member.station = .unconfigured)
    (hlock : t.lock = s.lock) (hqueue : t.queue = s.queue) (hlink : t.link = s.link)
    (hrecords : t.member.records = s.member.records) (hdeparts : t.member.departs = s.member.departs)
    (haccepted : t.config.accepted = true ↔ t.member.station ≠ .unconfigured) : t.QueuesFit := by
  obtain ⟨hwants, hq, -, hnone, -, -, hunconfigured⟩ := queuesFit_iff.1 h
  obtain ⟨hoff, hsilent⟩ := hunconfigured hu
  have hnone := hdeparts.trans (hnone (by rw [hu]; decide))
  have hrecord : ∀ x, (t.record x).silence = none := fun x => by
    rw [← hsilent x]; unfold State.record; rw [hrecords]
  refine queuesFit_iff.2 ⟨?_, ?_, ?_, fun _ => hnone, hrecord _, haccepted, fun _ => ⟨hlink ▸ hoff, hrecord⟩⟩
  · rw [wantsAreOwned_iff]
    unfold State.Owned
    rw [hlock]
    exact wantsAreOwned_iff.1 hwants
  · rw [hqueue, hlink, hoff]
    exact (hu ▸ hq).of_unconfigured
  · rw [hnone]; exact nofun

theorem queuesFit_cleared (s : State) {c : ConfigRecord} {st : StationState}
    (h : c.accepted = true ↔ st ≠ .unconfigured) (w : Bool) : (s.cleared c st w).QueuesFit := by
  have hrecord : ∀ x, (s.cleared c st w).record x = .reset := by
    intro x
    unfold State.record
    split
    · rfl
    · simp [State.cleared, MembershipUnit.reset]
  refine queuesFit_iff.2 ⟨⟨List.nodup_nil, nofun⟩, ⟨nofun, nofun, nofun, .nil, nofun, nofun⟩, nofun,
    fun _ => rfl, ?_, h, fun _ => ⟨rfl, fun x => ?_⟩⟩
  · rw [hrecord]; rfl
  · rw [hrecord]; rfl

theorem Exceptional.queuesFit (h : Exceptional s t) (hs : s.QueuesFit) : t.QueuesFit := by
  have haccepted : s.config.accepted = true ↔ s.member.station ≠ .unconfigured :=
    (queuesFit_iff.1 hs).2.2.2.2.2.1
  have hunconfigured : s.config.accepted = false → s.member.station = .unconfigured := fun h => by
    by_contra hu
    rw [haccepted.2 hu] at h
    exact nomatch h
  cases h with
  | nothing => exact hs
  | resets h => exact queuesFit_cleared s (st := .offline) (iff_of_true (haccepted.2 h) nofun) false
  | holds => exact queuesFit_cleared s (c := .reset) (iff_of_false nofun (fun h => h rfl)) true
  | writes i v h =>
    refine queuesFit_of_unconfigured hs (hunconfigured h) rfl rfl rfl rfl rfl ?_
    rw [State.withConfig_config, (write_accepted s.config i v).1]
    exact haccepted
  | rejects h => exact queuesFit_of_unconfigured hs (hunconfigured h) rfl rfl rfl rfl rfl haccepted
  | accepts h hr =>
    exact queuesFit_of_unconfigured hs (hunconfigured h) rfl rfl rfl rfl rfl (iff_of_true rfl nofun)
  | pops f i n =>
    unfold State.readPop
    dsimp only
    split <;> exact hs

end

/-! ### Every step -/

theorem step_keeps_fit {s t : State} (h : step s = .next t) (hn : s.PendingSlotsAreNamed)
    (hq : s.QueuesFit) : t.QueuesFit := by
  rcases fit_handles.step (ledger_honest hn) rfl h with ⟨n, h⟩ | ⟨u, ⟨l, n, rfl⟩, h⟩
  · obtain ⟨hwants, hqueue, hdeparts⟩ := queuesFit_iff.1 hq
    have hfit := h.keepsFit ⟨namedIn_ledger.2 hn, hwants, hqueue, hdeparts⟩
    exact queuesFit_iff.2 ⟨hfit.wants, hfit.queue, hfit.departs⟩
  · exact h.queuesFit hq

/-- R14: each entry and each pending QUERY has at most one want, and no two QUERYs name one slot. -/
theorem wants_le {s : State} (h : s.WantsAreOwned) (hn : s.PendingSlotsAreNamed)
    (hentries : s.lock.entries.length ≤ 32) : s.lock.wants.length ≤ 56 := by
  obtain ⟨hnodup, howned⟩ := wantsAreOwned_iff.1 h
  have hsub : s.lock.wants ⊆ s.lock.entries.map (fun e => Owner.entry e.id)
      ++ s.lock.queries.map (fun q => Owner.query q.id) := by
    intro o ho
    cases o with
    | entry id =>
      obtain ⟨e, he, rfl⟩ := howned _ ho
      exact List.mem_append_left _ (List.mem_map_of_mem he)
    | query id =>
      obtain ⟨q, hq, rfl⟩ := howned _ ho
      exact List.mem_append_right _ (List.mem_map_of_mem hq)
  have hlength := (hnodup.subperm hsub).length_le
  have hqueries : s.lock.queries.length ≤ 24 := by
    have hslots := hn.1.of_append_right.length_le_card
    rwa [List.length_map, Fintype.card_fin] at hslots
  rw [List.length_append, List.length_map, List.length_map] at hlength
  omega

/-- Settles O57: every command is a row of small changes that each keep these properties, but for the few that reset
the station or change a record; the bounds of the queue and the want list follow from what they may hold. -/
theorem stepKeepsCapacitiesRecordAndPop : Obligations.StepKeepsCapacitiesRecordAndPop := by
  intro s t h
  refine ⟨step_keeps_capacities h, step_keeps_agreement h, step_keeps_pop h, fun hc hn hq => ?_⟩
  have hfit := step_keeps_fit h hn hq
  obtain ⟨-, hentries, hlock⟩ := step_keeps_capacities h hc
  obtain ⟨hwants, hqueue, -⟩ := queuesFit_iff.1 hfit
  exact ⟨hfit, hqueue.frames_le hlock, wants_le hwants (stepKeepsPendingSlotsNamed s t h hn) hentries⟩

end Sys2Proof.Machine
end

section
/-! PROOFS. The end of a claim beside a DEFERRED entry that has a frame with the age of the next frame to come. -/

namespace Sys2Proof.Machine

open Sys2Proof

/-! ### Two DEFERRED siblings, the later of which has a queued frame -/

/-- The claim in flight, which names slot 0. -/
def claimBeside : LockEntry := ⟨0, 0, .claiming 0 0 .limited (some 0) none, []⟩

def elderSibling : LockEntry := ⟨1, 0, .deferred 1 1 .wait none, []⟩

def youngerSibling : LockEntry := ⟨2, 0, .deferred 2 2 .wait none, []⟩

/-- A frame of the younger sibling, with the age that the next frame placed is to get. No run from reset comes here:
the ages in the queue lie below the next one (`State.QueuesFit`), which the statements below do not ask. -/
def strayFrame : FrameRecord := ⟨.claim, .lock (.entry 2), 1, 0, none, false⟩

/-- The CLAIM of the claim in flight, after seven failed attempts. -/
def ownClaim : FrameRecord := ⟨.claim, .lock (.entry 0), 0, 7, none, false⟩

/-- The slots of the three entries PENDING, and a CANCEL of slot 0 posted in slot 3. -/
def ringBeside : Ring :=
  let named : Slot := { Slot.reset with state := .pending }
  { Ring.reset with
    slots := (((Ring.reset.slots.set 0 named).set 1 named).set 2 named).set 3
      { Slot.reset with state := .filled, kind := 4 }
    current := 3, endIx := 4 }

/-- The claim in flight and its two siblings, the stray frame queued behind `frames`. -/
def besideStray (l : LinkState) (frames : List FrameRecord) : State :=
  { State.reset with
    lock  := ⟨[claimBeside, elderSibling, youngerSibling], [], [], 3⟩
    link  := ⟨l, 0, 0, .recessive⟩
    queue := ⟨frames ++ [strayFrame], 1⟩
    ring  := ringBeside }

/-- Whether a command leaves neither a want nor a frame. -/
def EmptiesQueue (c : Instr) (s : State) : Bool :=
  match exec c s with
  | .next t => t.lock.wants.isEmpty && t.queue.frames.isEmpty
  | _ => false

section
variable (l : LinkState) (frames : List FrameRecord)

theorem besideStray_named : (besideStray l frames).PendingSlotsAreNamed := by
  have h : (besideStray .idle []).PendingSlotsAreNamed := by
    simp only [State.PendingSlotsAreNamed]; decide +kernel
  exact h

theorem besideStray_uniqueIds : (besideStray l frames).UniqueIds := by
  have h : (besideStray .idle []).UniqueIds := by unfold State.UniqueIds; decide
  exact h

theorem besideStray_siblingsOffLink : (besideStray .idle frames).SiblingsOffLink 0 := by
  intro y _ _ _
  simp [State.ownerOnLink, State.onLink, besideStray, LinkState.ownAge]

theorem besideStray_claimsAlone : (besideStray l frames).ClaimsAlone claimBeside := by
  have h : (besideStray .idle []).ClaimsAlone claimBeside := by unfold State.ClaimsAlone; decide
  exact h

/-- The elder sibling claims with a frame of the age at which the younger one's stray frame is then withdrawn, both
with it. What claims has a want or a frame; so where neither is left, no sibling claims. -/
theorem not_oldestSiblingClaims {l : LinkState} {frames : List FrameRecord} {c : Instr} {t : State}
    (hc : EmptiesQueue c (besideStray l frames) = true) (ht : exec c (besideStray l frames) = .next t) :
    ¬ OldestSiblingClaims (besideStray l frames) t 0 := by
  intro h
  simp only [EmptiesQueue, ht, Bool.and_eq_true, List.isEmpty_iff] at hc
  obtain ⟨hwants, hframes⟩ := hc
  obtain ⟨-, hserved, -⟩ := h elderSibling 1 1 .wait none rfl rfl
  rw [hwants, hframes] at hserved
  obtain hw | ⟨f, hf, -⟩ := hserved
  · exact nomatch hw
  · exact nomatch hf

end

/-! ### The four ends of the claim -/

/-- Refutes O36 in its last part, on a state that no run reaches: nothing there keeps the siblings' frames out of the
queue. The elder sibling claims, but the younger one's frame, of the same age, takes its CLAIM with it. -/
theorem not_deadlineExpiryEndsTheWaitOrIsHeld : ¬ Obligations.DeadlineExpiryEndsTheWaitOrIsHeld := by
  intro h
  obtain ⟨-, -, -, -, hclaim⟩ := (h 0 (besideStray .idle [])).2 claimBeside rfl rfl
  obtain ⟨t, ht, -, hsibling⟩ := hclaim rfl rfl (besideStray_uniqueIds _ _) (besideStray_claimsAlone _ _)
    (besideStray_siblingsOffLink _)
  exact not_oldestSiblingClaims (by decide +kernel) ht hsibling

/-- Refutes O35 in its third part, as O36: the CANCEL in slot 3 ends the claim in flight, whose elder sibling is left
CLAIMING with neither a want nor a frame. -/
theorem not_cancelActsOrIsHeld : ¬ Obligations.CancelActsOrIsHeld := by
  intro h
  have htakes : (besideStray .idle []).TakesRequest (.cancel 0) := by
    unfold State.TakesRequest; decide +kernel
  obtain ⟨-, -, hacts, -⟩ := h (besideStray .idle []) 0 htakes
  obtain ⟨t, ht, -, -, -, -, -, -, -, -, hsibling⟩ := hacts claimBeside rfl rfl (besideStray_named _ _)
  exact not_oldestSiblingClaims (by decide +kernel) ht (hsibling rfl (besideStray_claimsAlone _ _)
    (besideStray_siblingsOffLink _))

/-- Refutes O42 in its second part, as O36: the collision is the eighth failure of the claim in flight, and its elder
sibling is left CLAIMING with neither a want nor a frame. -/
theorem not_eighthFailureAbandonsTheFrame : ¬ Obligations.EighthFailureAbandonsTheFrame := by
  intro h
  let o : OwnFrame := ⟨0, .claim 0 0 none false⟩
  obtain ⟨-, hclaim, -⟩ := h (besideStray (.sending o) [ownClaim]) o ownClaim .collision _
    (.inl ⟨.inr rfl, rfl, rfl⟩) rfl rfl (Nat.le_refl 7) rfl
  obtain ⟨t, ht, -, -, -, -, -, hsibling⟩ := hclaim 0 claimBeside 0 0 .limited (some 0) none rfl rfl rfl rfl
    (besideStray_named _ _) (besideStray_claimsAlone _ _) Nat.zero_lt_one
  exact not_oldestSiblingClaims (by decide +kernel) ht hsibling

/-- Refutes O50 in its second part, as O36: HELD of station 9 makes the claim in flight wait there, and its elder
sibling is left CLAIMING with neither a want nor a frame. -/
theorem not_freshClaimOutcomes : ¬ Obligations.FreshClaimOutcomes := by
  rintro ⟨-, h, -⟩
  let s := besideStray (.sendingAnswer ⟨0, .claim 0 0 none false⟩) [ownClaim]
  let held : AnswerLine := ⟨answerBits .held 9 0, .released 0⟩
  have hanswer : decodeAnswer .claim held.field = .code .held 9 0 := by decide
  have hamong : s.ClaimAmongOthers 0 claimBeside 0 none false :=
    ⟨rfl, ⟨ownClaim, rfl, rfl, rfl, rfl⟩, List.mem_cons_self, besideStray_named _ _, rfl, rfl, by decide⟩
  obtain ⟨t, ht, hleaves, -, hsibling⟩ := (h s 0 claimBeside false 0 0 .limited (some 0) none held hamong rfl).2
    (by rw [hanswer]; nofun) (besideStray_claimsAlone _ _)
  refine not_oldestSiblingClaims (by decide +kernel) ht (hsibling (fun x hx => ?_))
  rw [hanswer] at hleaves
  obtain ⟨hheld, -⟩ := hleaves
  obtain ⟨hwaits, -⟩ := (hheld ⟨by decide, by decide⟩ rfl nofun).1 rfl
  rw [hwaits] at hx
  cases hx
  rfl

end Sys2Proof.Machine
end

section
/-! PROOFS. The taking of a request (R147), and an ACQUIRE's first six steps (R20 to R22). -/

namespace Sys2Proof.Machine

open Sys2Proof

/-! ### The taking of a request -/

/-- The state in which a taken request is handed on: slot CURRENT is PENDING and the taking is counted. -/
def State.atTaking (s : State) : State :=
  let s₁ := s.setSlot s.ring.current { s.slot s.ring.current with state := .pending, result := .absent }
  s₁.withLock { s₁.lock with takings := s₁.lock.takings + 1 }

section
variable (s : State)

theorem atTaking_lock : s.atTaking.lock = { s.lock with takings := s.lock.takings + 1 } := rfl
@[simp] theorem atTaking_entries : s.atTaking.lock.entries = s.lock.entries := rfl
@[simp] theorem atTaking_queries : s.atTaking.lock.queries = s.lock.queries := rfl
@[simp] theorem atTaking_wants : s.atTaking.lock.wants = s.lock.wants := rfl
@[simp] theorem atTaking_queue : s.atTaking.queue = s.queue := rfl
@[simp] theorem atTaking_notices : s.atTaking.notices = s.notices := rfl
@[simp] theorem atTaking_config : s.atTaking.config = s.config := rfl
@[simp] theorem atTaking_member : s.atTaking.member = s.member := rfl
@[simp] theorem atTaking_link : s.atTaking.link = s.link := rfl
@[simp] theorem atTaking_own : s.atTaking.own = s.own := rfl
@[simp] theorem atTaking_entryOf (c : Context) (r : Resource) : s.atTaking.entryOf c r = s.entryOf c r := rfl
@[simp] theorem atTaking_holderOf (r : Resource) : s.atTaking.holderOf r = s.holderOf r := rfl
@[simp] theorem atTaking_countedEntries (c : Context) : s.atTaking.countedEntries c = s.countedEntries c := rfl

end

section
variable {s u : State} {q : Request}

/-- R147: a taking hands its request on and advances CURRENT. -/
theorem exec_taking (h : s.TakesRequest q) :
    exec .taking s = .next (s.atTaking.hand s.lock.takings s.ring.current q).advance := by
  obtain ⟨hstalled, hrange, hfilled, hrequest⟩ := h
  have hdue : s.takingDue = true := by simp [State.takingDue, hstalled, hrange]
  have htake : s.take s.ring.current = (s.takeRequest s.ring.current q).advance := by
    simp [State.take, hfilled, hrequest]
  simp only [exec, execTaking, hdue, if_true, htake]
  rfl

/-- R147, R152: the slot at CURRENT completes in its taking. -/
theorem advance_complete (c : Code) (r : SlotResult) (hring : u.ring = s.atTaking.ring)
    (hnotices : u.notices = s.notices) (hstalled : s.ring.stalled = false) :
    (u.complete s.ring.current c r).advance = { u with
      ring := s.RingDone { r with code := some c }
      notices := s.NotesDone c } := by
  have hslot : u.slot s.ring.current
      = { s.slot s.ring.current with state := .pending, result := .absent } := by
    simp only [State.slot, hring]
    exact slot_setSlot_self (s := s) _ _
  rw [complete_eq, hslot, enterNotice_notices_congr (.completed s.ring.current c) hnotices, hnotices, hring]
  simp [State.advance, State.withRing, State.RingDone, State.NotesDone, State.atTaking, State.setSlot,
    State.withLock, Slot.Completed, hstalled]

/-- R147, R152: the slot at CURRENT stays PENDING after its taking, with a station field. -/
theorem advance_setSlotStation (x : Option StationNo) (hring : u.ring = s.atTaking.ring) :
    (u.setSlotStation s.ring.current x).advance = { u with ring := s.RingPending x } := by
  have hslot : u.slot s.ring.current
      = { s.slot s.ring.current with state := .pending, result := .absent } := by
    simp only [State.slot, hring]
    exact slot_setSlot_self (s := s) _ _
  simp [State.advance, State.withRing, State.setSlotStation, State.setSlot, hslot, hring, State.RingPending,
    State.atTaking, State.withLock, SlotResult.absent]

/-- A request that completes where it is handed on, and does nothing else. -/
theorem completesAtOnce {c : Code} {r r' : SlotResult} (h : s.TakesRequest q)
    (hhand : s.atTaking.hand s.lock.takings s.ring.current q = s.atTaking.complete s.ring.current c r')
    (hr : { r' with code := some c } = { r with code := some c }) : CompletesAtOnce s c r := by
  unfold CompletesAtOnce
  rw [exec_taking h, hhand, advance_complete c r' rfl rfl h.1, hr]
  rfl

end

/-! ### The seven steps of an ACQUIRE -/

theorem find_lost {s : State} {r : Resource} (h : ∀ e ∈ s.lock.entries, e.resource = r → e.isLost = false) :
    s.lock.entries.find? (fun x => decide (x.resource = r) && x.isLost) = none := by
  simpa using h

section
variable (s : State) (c : Claimant)

theorem acquire_offline (hm : s.member.station ≠ .member) :
    s.acquire c = s.completeBare c.slot .offline := by
  simp [State.acquire, hm]

variable (hm : s.member.station = .member)
include hm

theorem acquire_policy (hp : s.config.permits c.context c.resource = false) :
    s.acquire c = s.completeBare c.slot .policy := by
  simp [State.acquire, hm, hp]

variable (hp : s.config.permits c.context c.resource = true)
include hp

section
variable {e : LockEntry} (he : s.entryOf c.context c.resource = some e)
include he

theorem acquire_reentered {k : Context} {n : Byte} {v i : Ticket} {w : Bool} (hst : e.state = .holding k n v i w)
    (hn : n.toNat < 255) : s.acquire c
      = (s.setEntry e.id (.holding c.context (n + 1) v i w)).complete c.slot .reentered
        (s.heldResult .reentered (some (n + 1)) (contextByte c.context) e.span) := by
  simp [State.acquire, hm, hp, he, hst, hn]

theorem acquire_countLimit {k : Context} {n : Byte} {v i : Ticket} {w : Bool} (hst : e.state = .holding k n v i w)
    (hn : 255 ≤ n.toNat) : s.acquire c = s.complete c.slot .countLimit (.counted .countLimit n) := by
  simp [State.acquire, hm, hp, he, hst, Nat.not_lt.2 hn]

theorem acquire_ownLost {k : Context} {n : Byte} (hst : e.state = .lost k n) :
    s.acquire c = s.complete c.slot .lost (.counted .lost n) := by
  simp [State.acquire, hm, hp, he, hst]

theorem acquire_duplicate (hslot : e.slot.isSome = true) :
    s.acquire c = s.completeBare c.slot .duplicate := by
  rw [slot_eq_claim] at hslot
  cases hst : e.state <;> simp [State.acquire, hm, hp, he, hst, EntryState.claim] at hslot ⊢

end

variable (hown : s.entryOf c.context c.resource = none)
include hown

theorem acquire_lost {e : LockEntry} {k : Context} {n : Byte}
    (he : s.lock.entries.find? (fun x => decide (x.resource = c.resource) && x.isLost) = some e)
    (hst : e.state = .lost k n) : s.acquire c = s.complete c.slot .lost (.counted .lost n) := by
  have hcount : e.count = n := by simp [LockEntry.count, hst]
  simp [State.acquire, hm, hp, hown, he, hcount]

variable (hlost : ∀ e ∈ s.lock.entries, e.resource = c.resource → e.isLost = false)
include hlost

theorem acquire_limit (h : s.holdLimit c.context ≤ s.countedEntries c.context) :
    s.acquire c = s.completeBare c.slot .limit := by
  simp [State.acquire, hm, hp, hown, find_lost hlost, h]

variable (hlimit : s.countedEntries c.context < s.holdLimit c.context)
include hlimit

theorem acquire_tableFull (h : 32 ≤ s.lock.entries.length) :
    s.acquire c = s.completeBare c.slot .tableFull := by
  simp [State.acquire, hm, hp, hown, find_lost hlost, Nat.not_le.2 hlimit, Config.lockEntries, h]

theorem acquire_evaluates (h : s.lock.entries.length < 32) : s.acquire c = s.evaluate c := by
  simp [State.acquire, hm, hp, hown, find_lost hlost, Nat.not_le.2 hlimit, Config.lockEntries,
    Nat.not_le.2 h]

end

/-! ### Steps 1 to 6 at a taking -/

theorem contextByte_eq (c : Context) : contextByte c = BitVec.ofNat 8 c.val := by
  fin_cases c <;> rfl

/-- What an ACQUIRE asks for, as its taking hands it on. -/
def State.claimantOf (s : State) (c : Context) (r : Resource) (p : WaitPolicy) (d : Option (BitVec 16)) :
    Claimant :=
  ⟨s.lock.takings, r, c, s.ring.current, p, d.map deadlineOf⟩

section
variable {s : State} {c : Context} {r : Resource} {p : WaitPolicy} {d : Option (BitVec 16)}
variable (h : s.TakesRequest (.acquire c r p d))
include h

theorem exec_taking_acquire :
    exec .taking s = .next (s.atTaking.acquire (s.claimantOf c r p d)).advance := exec_taking h

theorem acquire_completesAtOnce {k : Code} {x x' : SlotResult}
    (ha : s.atTaking.acquire (s.claimantOf c r p d) = s.atTaking.complete s.ring.current k x')
    (hx : { x' with code := some k } = { x with code := some k }) : CompletesAtOnce s k x :=
  completesAtOnce h ha hx

/-- R21: the context's own holding is entered once more. -/
theorem exec_taking_reentered (hm : s.member.station = .member) (hp : s.config.permits c r = true)
    {e : LockEntry} (he : s.entryOf c r = some e) {n : Byte} {v i : Ticket} {w : Bool}
    (hst : e.state = .holding c n v i w) (hn : n.toNat < 255) :
    exec .taking s = .next { s with
      lock := { s.lock with
        takings := s.lock.takings + 1
        entries := s.lock.entries.map (fun x =>
          if x.id = e.id then { x with state := .holding c (n + 1) v i w } else x) }
      ring := s.RingDone ⟨some .reentered, some (n + 1), some s.own,
        some (BitVec.ofNat 8 c.val), some ((i - v - 1).setWidth 8)⟩
      notices := s.NotesDone .reentered } := by
  have hspan : e.span = i - v - 1 := by simp [LockEntry.span, LockEntry.serve, LockEntry.issue, hst, spanOf]
  rw [exec_taking_acquire h, acquire_reentered s.atTaking (s.claimantOf c r p d) hm hp he hst hn]
  refine congrArg _ ((advance_complete (s := s)
    (u := s.atTaking.setEntry e.id (.holding c (n + 1) v i w)) .reentered _ rfl rfl h.1).trans ?_)
  simp only [State.heldResult, hspan, contextByte_eq, State.claimantOf, atTaking_own]
  rfl

end

theorem toNat_lt_of_ne_max {n : Byte} (h : n ≠ 255) : n.toNat < 255 := by bv_omega

/-- Settles O28, a clause for each step that may complete the request. -/
theorem acquireStepsOneToSixInOrder : Obligations.AcquireStepsOneToSixInOrder := by
  intro s c r p d h
  let u := s.atTaking
  let q := s.claimantOf c r p d
  refine ⟨fun hm => ?_, fun hm hp => ?_, fun hm hp => ⟨fun e he => ⟨?_, ?_, ?_, ?_⟩, fun hown =>
    ⟨fun e k n hlost hst => ?_, fun hlost => ⟨fun hlimit => ?_, fun hlimit hfull => ?_⟩⟩⟩⟩
  · exact acquire_completesAtOnce h (acquire_offline u q hm) rfl
  · exact acquire_completesAtOnce h (acquire_policy u q hm hp) rfl
  · exact fun n v i w hst hn => exec_taking_reentered h hm hp he hst (toNat_lt_of_ne_max hn)
  · exact fun v i w hst => acquire_completesAtOnce h (acquire_countLimit u q hm hp he hst (Nat.le_refl 255)) rfl
  · exact fun n hst => acquire_completesAtOnce h (acquire_ownLost u q hm hp he hst) rfl
  · exact fun hslot => acquire_completesAtOnce h (acquire_duplicate u q hm hp he hslot) rfl
  · exact acquire_completesAtOnce h (acquire_lost u q hm hp hown hlost hst) rfl
  · exact acquire_completesAtOnce h (acquire_limit u q hm hp hown hlost hlimit) rfl
  · exact acquire_completesAtOnce h (acquire_tableFull u q hm hp hown hlost hlimit hfull) rfl

end Sys2Proof.Machine
end

section
/-! PROOFS. Step 7 of an ACQUIRE (R23 to R29), and the rows of it that a taking finds. -/

namespace Sys2Proof.Machine

open Sys2Proof

/-! ### The rows of step 7 -/

section
variable {s : State} {c : Claimant}

section
variable {h : LockEntry} (hh : s.holderOf c.resource = some h)
include hh

/-- R26. -/
theorem evaluate_busy (hp : c.policy = .nowait) : s.evaluate c
    = (s.freeEntry c.id).complete c.slot .busy (s.heldResult .busy none h.contextByte h.span) := by
  simp [State.evaluate, hh, hp]

/-- R24. -/
theorem evaluate_ticket (hp : c.policy ≠ .nowait) (hroom : h.span.toNat < s.spanLimit) : s.evaluate c
    = ((s.putEntry c (.waiting c.context c.slot h.issue s.own none c.deadline none)).setSlotStation
        c.slot (some s.own)).issueTicket h := by
  simp [State.evaluate, hh, hp, hroom]

/-- R25. -/
theorem evaluate_full (hp : c.policy ≠ .nowait) (hfull : s.spanLimit ≤ h.span.toNat) :
    s.evaluate c = s.retryPending c := by
  simp [State.evaluate, hh, hp, Nat.not_lt.2 hfull]

end

section
variable (hh : s.holderOf c.resource = none)
include hh

/-- R27. -/
theorem evaluate_defers (hc : s.claimInFlight c.resource c.id = true) : s.evaluate c
    = (s.putEntry c (.deferred c.context c.slot c.policy c.deadline)).setSlotStation c.slot none := by
  simp [State.evaluate, hh, hc]

/-- R29. -/
theorem evaluate_claims (hc : s.claimInFlight c.resource c.id = false) : s.evaluate c
    = ((s.putEntry c (.claiming c.context c.slot c.policy c.deadline none)).setSlotStation
        c.slot none).raiseWant (.entry c.id) := by
  simp [State.evaluate, hh, hc]

end

theorem claimInFlight_iff {r : Resource} {id : Nat} :
    s.claimInFlight r id = true ↔ ∃ e ∈ s.lock.entries, e.resource = r ∧ e.isClaiming = true ∧ e.id ≠ id := by
  simp [State.claimInFlight, and_assoc]

end

/-! ### Tickets (R46, R47) -/

section
variable {s t : State} {h : LockEntry}

theorem notesIssued_congr (hn : s.notices = t.notices) : s.NotesIssued h = t.NotesIssued h := by
  unfold State.NotesIssued
  split
  · rw [enterNotice_notices_congr _ hn, hn]
  · exact hn

/-- R46, R47: a ticket issue restates the holder entry and may produce WANTED. -/
theorem issueTicket_eq (hh : h.isHolder = true) :
    s.issueTicket h = (s.setEntry h.id h.Issued).withNotices (s.NotesIssued h) := by
  unfold State.issueTicket State.NotesIssued LockEntry.Issued
  cases hst : h.state with
  | holding c n v i w =>
    dsimp only
    by_cases hfirst : spanOf v i = 0 ∧ w = false
    · obtain ⟨hspan, rfl⟩ := hfirst
      have hdue : (decide (spanOf v i = 0) && !false) = true := by rw [hspan]; rfl
      rw [if_pos hdue, if_pos (c := i - v - 1 = 0 ∧ false = false) ⟨hspan, rfl⟩, hdue, enterNotice_eq,
        decide_eq_true (p := i - v - 1 = 0) hspan]
      exact congrArg (State.withNotices _) (enterNotice_notices_congr _ rfl)
    · have hdue : (decide (spanOf v i = 0) && !w) = false := by simpa using hfirst
      have hnoted : (w || decide (i - v - 1 = 0)) = w := by
        cases w
        · exact decide_eq_false (fun hspan => hfirst ⟨hspan, rfl⟩)
        · rfl
      rw [if_neg (Bool.eq_false_iff.1 hdue), if_neg (c := i - v - 1 = 0 ∧ w = false) hfirst, hdue, hnoted,
        Bool.or_false]
      rfl
  | handing v i o g => rfl
  | _ => simp [LockEntry.isHolder, hst] at hh

theorem advance_issueTicket (hh : h.isHolder = true) : (s.issueTicket h).advance = s.advance.issueTicket h := by
  rw [issueTicket_eq hh, issueTicket_eq hh]
  exact congrArg (State.withNotices (s.advance.setEntry h.id h.Issued)) (notesIssued_congr rfl)

theorem advance_raiseWant (o : Owner) : (s.raiseWant o).advance = s.advance.raiseWant o := by
  unfold State.raiseWant
  split
  · rename_i hs
    exact (if_pos hs).symm
  · rename_i hs
    refine Eq.trans ?_ (if_neg hs).symm
    split <;> rename_i hroom
    · exact (if_pos hroom).symm
    · exact (if_neg hroom).symm

/-- R14: what a want does to the queue and the want list. -/
theorem raiseWant_wantsFrame {o : Owner} {k : FrameKind} (hk : s.wantedKind o = k) :
    WantsFrame s (s.raiseWant o) o k := by
  refine ⟨fun hstands => ?_, fun hwants hframes => ?_⟩
  · rw [raiseWant_stands (by simpa [State.hasFrame] using hstands)]
    exact ⟨rfl, rfl⟩
  · have hw : s.lock.wants.contains o = false := by simpa using hwants
    have hf : s.hasFrame o = false := by simpa [State.hasFrame] using hframes
    refine ⟨fun hroom => ?_, fun hfull => ?_⟩
    · rw [raiseWant_places hw hf hroom, State.placeLock, hk]
      exact ⟨rfl, rfl⟩
    · rw [raiseWant_waits hw hf hfull]
      exact ⟨rfl, rfl⟩

theorem wantedKind_entry {id : Nat} {e : LockEntry} (he : s.entry id = some e) (hh : e.isHolder = false) :
    s.wantedKind (.entry id) = .claim := by
  simp only [State.wantedKind, he]
  cases hst : e.state <;> simp [LockEntry.isHolder, hst] at hh ⊢

end

/-! ### Step 7 at a taking -/

section
variable {s : State} {c : Context} {r : Resource} {p : WaitPolicy} {d : Option (BitVec 16)}

/-- The state after a taking that brings an entry into the table and leaves its slot PENDING with a station field. -/
def State.tabled (s : State) (r : Resource) (st : EntryState) (x : Option StationNo) : State :=
  { s with
    lock := { s.lock with
      takings := s.lock.takings + 1
      entries := s.lock.entries ++ [⟨s.lock.takings, r, st, []⟩] }
    ring := s.RingPending x }

theorem entry_tabled {st : EntryState} {x : Option StationNo}
    (hids : ∀ e ∈ s.lock.entries, e.id < s.lock.takings) :
    (s.tabled r st x).entry s.lock.takings = some ⟨s.lock.takings, r, st, []⟩ := by
  have hnone : s.lock.entries.find? (fun e => decide (e.id = s.lock.takings)) = none := by
    simpa using fun e he => Nat.ne_of_lt (hids e he)
  simp [State.entry, State.tabled, hnone]

variable (h : s.ReachesStepSeven c r p d)
include h

/-- R20 to R23: the ACQUIRE is evaluated. -/
theorem exec_taking_evaluates :
    exec .taking s = .next (s.atTaking.evaluate (s.claimantOf c r p d)).advance := by
  obtain ⟨htakes, hm, hp, hown, hlost, hlimit, hroom, -⟩ := h
  rw [exec_taking_acquire htakes,
    acquire_evaluates s.atTaking (s.claimantOf c r p d) hm hp hown hlost hlimit hroom]

/-- The place of the ACQUIRE is new. -/
theorem putEntry_atTaking (st : EntryState) :
    s.atTaking.putEntry (s.claimantOf c r p d) st
      = s.atTaking.withEntries (s.lock.entries ++ [⟨s.lock.takings, r, st, []⟩]) := by
  obtain ⟨-, -, -, -, -, -, -, hids⟩ := h
  exact putEntry_new _ _ (fun e he => Nat.ne_of_lt (hids e he))

/-- Step 7 leaves the slot PENDING with a station field, and the entry in the table. -/
theorem advance_putEntry (st : EntryState) (x : Option StationNo) :
    ((s.atTaking.putEntry (s.claimantOf c r p d) st).setSlotStation s.ring.current x).advance
      = s.tabled r st x := by
  rw [putEntry_atTaking h]
  exact advance_setSlotStation (s := s) (u := s.atTaking.withEntries _) x rfl

/-- R26: NOWAIT under a holder entry. -/
theorem taking_busy {e : LockEntry} (hh : s.holderOf r = some e) (hwants : s.lock.wants = [])
    (hframes : ∀ f ∈ s.queue.frames, f.owner ≠ .lock (.entry s.lock.takings)) (hp : p = .nowait) :
    CompletesAtOnce s .busy
      ⟨none, none, some s.own, some e.contextByte, some ((e.issue - e.serve - 1).setWidth 8)⟩ := by
  obtain ⟨htakes, hm, hpermits, hown, hlost, hlimit, hroom, hids⟩ := h
  refine acquire_completesAtOnce htakes
    (x' := s.heldResult .busy none e.contextByte e.span) ?_ rfl
  rw [acquire_evaluates s.atTaking (s.claimantOf c r p d) hm hpermits hown hlost hlimit hroom,
    evaluate_busy (s := s.atTaking) (c := s.claimantOf c r p d) hh hp]
  have hfree : s.atTaking.freeEntry s.lock.takings = s.atTaking := by
    rw [freeEntry_unwanted (s := s.atTaking) (by simp [hwants]) hframes]
    have hkeep : s.lock.entries.filter (fun e => decide (e.id ≠ s.lock.takings)) = s.lock.entries :=
      List.filter_eq_self.2 (fun e he => decide_eq_true (Nat.ne_of_lt (hids e he)))
    exact congrArg s.atTaking.withEntries hkeep
  exact congrArg (State.complete · _ _ _) hfree

/-- R24: a local ticket. -/
theorem taking_ticket {e : LockEntry} (hh : s.holderOf r = some e) (hp : p ≠ .nowait)
    (hroom : e.span.toNat < s.spanLimit) :
    exec .taking s = .next (((s.tabled r (.waiting c s.ring.current e.issue s.own none (d.map deadlineOf) none)
      (some s.own)).setEntry e.id e.Issued).withNotices (s.NotesIssued e)) := by
  have hholder : e.isHolder = true := (holderOf_some hh).2.2
  have hput := advance_putEntry h (.waiting c s.ring.current e.issue s.own none (d.map deadlineOf) none)
    (some s.own)
  rw [exec_taking_evaluates h, evaluate_ticket (s := s.atTaking) (c := s.claimantOf c r p d) hh hp hroom,
    advance_issueTicket hholder]
  refine congrArg _ ((congrArg (State.issueTicket · e) hput).trans ?_)
  rw [issueTicket_eq hholder]
  exact congrArg (State.withNotices _) (notesIssued_congr rfl)

/-- R25: local retry pending at the span limit. -/
theorem taking_full {e : LockEntry} (hh : s.holderOf r = some e) (hp : p ≠ .nowait)
    (hfull : s.spanLimit ≤ e.span.toNat) :
    exec .taking s = .next (s.tabled r
      (.claiming c s.ring.current p (d.map deadlineOf) (some s.probeInterval)) none) := by
  rw [exec_taking_evaluates h, evaluate_full (s := s.atTaking) (c := s.claimantOf c r p d) hh hp hfull]
  exact congrArg _ (advance_putEntry h _ none)

/-- R27: DEFERRED behind a claim in flight. -/
theorem taking_defers (hh : s.holderOf r = none) (hc : ∃ e ∈ s.lock.entries, e.resource = r ∧ e.isClaiming = true) :
    exec .taking s = .next (s.tabled r (.deferred c s.ring.current p (d.map deadlineOf)) none) := by
  obtain ⟨-, -, -, -, -, -, -, hids⟩ := id h
  obtain ⟨e, he, hr, hclaims⟩ := hc
  have hflight : s.atTaking.claimInFlight r s.lock.takings = true :=
    claimInFlight_iff.2 ⟨e, he, hr, hclaims, Nat.ne_of_lt (hids e he)⟩
  rw [exec_taking_evaluates h, evaluate_defers (s := s.atTaking) (c := s.claimantOf c r p d) hh hflight]
  exact congrArg _ (advance_putEntry h _ none)

/-- R29: with no claim in flight, a fresh CLAIM is wanted. -/
theorem taking_claims (hh : s.holderOf r = none)
    (hc : ∀ e ∈ s.lock.entries, e.resource = r → e.isClaiming = false) :
    exec .taking s = .next ((s.tabled r (.claiming c s.ring.current p (d.map deadlineOf) none) none).raiseWant
      (.entry s.lock.takings)) := by
  have hflight : s.atTaking.claimInFlight r s.lock.takings = false := by
    rw [Bool.eq_false_iff, ne_eq, claimInFlight_iff]
    rintro ⟨e, he, hr, hclaims, -⟩
    exact absurd hclaims (by rw [hc e he hr]; decide)
  rw [exec_taking_evaluates h, evaluate_claims (s := s.atTaking) (c := s.claimantOf c r p d) hh hflight,
    advance_raiseWant]
  exact congrArg (fun u => Host.Outcome.next (State.raiseWant u (.entry s.lock.takings)))
    (advance_putEntry h _ none)

end

/-- Settles O30, a clause for each row of step 7 under a holder entry. -/
theorem acquireUnderAHolderEntry : Obligations.AcquireUnderAHolderEntry := by
  intro s c r p d e h hh hwants hframes
  refine ⟨fun hp => ?_, fun hp hroom => ⟨_, taking_ticket h hh hp hroom, ?_, rfl, ?_, rfl, rfl, rfl, rfl⟩,
    fun hp hfull => taking_full h hh hp hfull⟩
  · have hbusy := taking_busy h hh hwants hframes hp
    unfold LockEntry.contextByte at hbusy
    cases hk : e.context with
    | none => rw [hk] at hbusy; exact hbusy
    | some k => rw [hk] at hbusy; simp only [contextByte_eq] at hbusy; exact hbusy
  · unfold LockEntry.Issued
    cases e.state <;> rfl
  · unfold State.NotesIssued
    cases e.state <;> rfl

/-- Settles O31, a clause for each row of step 7 without a holder entry. -/
theorem acquireWithoutAHolderEntry : Obligations.AcquireWithoutAHolderEntry := by
  intro s c r p d h hh hwants hframes
  obtain ⟨-, -, -, -, -, -, -, hids⟩ := id h
  refine ⟨fun hc => taking_defers h hh hc, fun hc => ?_⟩
  let u := s.tabled r (.claiming c s.ring.current p (d.map deadlineOf) none) none
  have hkind : u.wantedKind (.entry s.lock.takings) = .claim := wantedKind_entry (entry_tabled hids) rfl
  obtain ⟨-, hwant⟩ := raiseWant_wantsFrame (o := .entry s.lock.takings) hkind
  have hnot : .entry s.lock.takings ∉ s.lock.wants := by simpa using hwants
  refine ⟨_, taking_claims h hh hc, raiseWant_entries _ _, raiseWant_ring _ _, raiseWant_notices _ _,
    member_of_beyondLock (raiseWant_beyondLock _ _), link_of_beyondLock (raiseWant_beyondLock _ _), ?_⟩
  exact hwant hnot hframes

end Sys2Proof.Machine
end

section
/-! PROOFS. An entry that wants no frame is evaluated again (R23 to R28): behind a claim in flight it stays; under a
holder entry it is placed. -/

namespace Sys2Proof.Machine

open Sys2Proof

/-! ### Lookups after an update of one entry -/

section
variable {s : State} {id : Nat} {st : EntryState} {e : LockEntry}

theorem uniqueIds_setEntry (hu : s.UniqueIds) : (s.setEntry id st).UniqueIds := by
  simp only [State.UniqueIds, setEntry_entries, List.mem_map]
  rintro _ ⟨x, hx, rfl⟩ _ ⟨y, hy, rfl⟩ hid
  rw [hu x hx y hy (by split at hid <;> split at hid <;> exact hid)]

theorem uniqueIds_dropEntry (hu : s.UniqueIds) : (s.dropEntry id).UniqueIds :=
  fun x hx y hy => hu x (List.mem_of_mem_filter hx) y (List.mem_of_mem_filter hy)

/-- An update of one entry leaves the others. -/
theorem filter_setEntry {q : Nat → Bool} (hq : q id = false) :
    (s.setEntry id st).lock.entries.filter (fun x => q x.id) = s.lock.entries.filter (fun x => q x.id) := by
  rw [setEntry_entries, List.filter_map]
  have hid : (fun x : LockEntry => q x.id) ∘ (fun x => if x.id = id then { x with state := st } else x)
      = fun x => q x.id := by
    funext x; simp only [Function.comp_apply]; split <;> rfl
  rw [hid]
  refine (List.map_congr_left (fun x hx => if_neg ?_)).trans (List.map_id _)
  rintro rfl
  simp [hq] at hx

theorem filter_dropEntry {q : Nat → Bool} (hq : q id = false) :
    (s.dropEntry id).lock.entries.filter (fun x => q x.id) = s.lock.entries.filter (fun x => q x.id) := by
  rw [dropEntry_entries, List.filter_filter]
  refine List.filter_congr (fun x _ => ?_)
  by_cases hx : x.id = id <;> simp [hx, hq]

/-- An entry is found among those of its place. -/
theorem entry_eq_of_filter {t : State} {q : Nat → Bool} (hq : q id = true)
    (h : t.lock.entries.filter (fun x => q x.id) = s.lock.entries.filter (fun x => q x.id)) :
    t.entry id = s.entry id := by
  have hfind : ∀ l : List LockEntry, l.find? (fun x => decide (x.id = id))
      = (l.filter (fun x => q x.id)).find? (fun x => decide (x.id = id)) := by
    intro l
    rw [List.find?_filter]
    congr 1
    funext x
    by_cases hx : x.id = id <;> simp [hx, hq]
  unfold State.entry
  rw [hfind, h, ← hfind]

/-- The holder entry after an update that makes and unmakes none. -/
theorem holderOf_setEntry (r : Resource)
    (h : ∀ x ∈ s.lock.entries, x.id = id → ({ x with state := st } : LockEntry).isHolder = x.isHolder) :
    (s.setEntry id st).holderOf r
      = (s.holderOf r).map (fun x => if x.id = id then { x with state := st } else x) := by
  unfold State.holderOf
  rw [setEntry_entries, List.find?_map]
  refine congrArg _ (List.find?_congr (fun x hx => ?_))
  by_cases hid : x.id = id
  · simp only [Function.comp_apply, if_pos hid, h x hx hid]
  · simp only [Function.comp_apply, if_neg hid]

/-- The holder entry after an entry that is none has left. -/
theorem holderOf_dropEntry (r : Resource) (h : ∀ x ∈ s.lock.entries, x.id = id → x.isHolder = false) :
    (s.dropEntry id).holderOf r = s.holderOf r := by
  unfold State.holderOf
  rw [dropEntry_entries, List.find?_filter]
  refine List.find?_congr (fun x hx => ?_)
  by_cases hid : x.id = id
  · simp [h x hx hid]
  · simp [hid]

/-- An entry restated as it was. -/
theorem setEntry_self (hu : s.UniqueIds) (he : e ∈ s.lock.entries) : s.setEntry e.id e.state = s := by
  have h : s.lock.entries.map (fun x => if x.id = e.id then { x with state := e.state } else x)
      = s.lock.entries := by
    refine (List.map_congr_left (fun x hx => ?_)).trans (List.map_id _)
    split
    · rename_i hid; rw [hu x hx e he hid]; rfl
    · rfl
  exact congrArg s.withEntries h

end

section
variable (s : State) (i : SlotIx) (x : Option StationNo)

@[simp] theorem setSlotStation_lock : (s.setSlotStation i x).lock = s.lock := rfl
@[simp] theorem setSlotStation_queue : (s.setSlotStation i x).queue = s.queue := rfl
@[simp] theorem setSlotStation_config : (s.setSlotStation i x).config = s.config := rfl
@[simp] theorem setSlotStation_entry (id : Nat) : (s.setSlotStation i x).entry id = s.entry id := rfl

theorem slot_setSlotStation (j : SlotIx) : (s.setSlotStation i x).slot j
    = if j = i then { s.slot i with result := { (s.slot i).result with station := x } } else s.slot j :=
  slot_setSlot _ _ _ _

end

/-! ### An entry that wants no frame -/

section
variable {s : State} {y : LockEntry} {c : Claimant}

theorem isHolder_of_claimant (hc : y.claimant = some c) : y.isHolder = false :=
  (facts_of_claim (claim_of_claimant hc).1).2.2.1

/-- R4, R23: with no want and no frame there is nothing to withdraw. -/
theorem reevaluate_unwanted (hy : s.entry y.id = some y) (hc : y.claimant = some c)
    (hn : s.WantsNothing (.entry y.id)) : s.reevaluate y.id = s.evaluate c := by
  obtain ⟨hwants, hframes⟩ := hn
  have hoff : s.ownerOnLink (.entry y.id) = false := by
    simp only [State.ownerOnLink, List.any_eq_false, Bool.and_eq_true, decide_eq_true_eq]
    exact fun f hf h => hframes f hf h.1
  simp [State.reevaluate, hy, hc, hoff, withdrawOwner_none hwants hframes]

/-! ### Behind a claim in flight (R27) -/

/-- Nothing but station fields of slots has changed, and those that were absent are so. -/
structure StaysBehind (s t : State) : Prop where
  lock    : t.lock = s.lock
  queue   : t.queue = s.queue
  station : ∀ i, (s.slot i).result.station = none → (t.slot i).result.station = none

/-- A DEFERRED entry behind a claim in flight stays as it is. -/
theorem reevaluate_behind (hu : s.UniqueIds) (hy : y ∈ s.lock.entries) (hd : y.isDeferred = true)
    (hn : s.WantsNothing (.entry y.id)) (hh : s.holderOf y.resource = none)
    (hc : s.claimInFlight y.resource y.id = true) : StaysBehind s (s.reevaluate y.id) := by
  cases hst : y.state with
  | deferred k sl p d =>
    have hclaimant : y.claimant = some ⟨y.id, y.resource, k, sl, p, d⟩ := by simp [LockEntry.claimant, hst]
    rw [reevaluate_unwanted (entry_of_mem hu hy) hclaimant hn, evaluate_defers hh hc,
      putEntry_present _ _ hy rfl, ← hst, setEntry_self hu hy]
    refine ⟨rfl, rfl, fun i hi => ?_⟩
    rw [slot_setSlotStation]
    split
    · rfl
    · exact hi
  | _ => simp [LockEntry.isDeferred, hst] at hd

/-- R28: behind a claim in flight every DEFERRED entry of the resource stays. -/
theorem reevaluateDeferred_behind {r : Resource} (hu : s.UniqueIds) (hh : s.holderOf r = none)
    {x : LockEntry} (hx : x ∈ s.lock.entries) (hr : x.resource = r) (hclaims : x.isClaiming = true)
    (hn : ∀ y ∈ s.lock.entries, y.resource = r → y.isDeferred = true → s.WantsNothing (.entry y.id)) :
    StaysBehind s (s.reevaluateDeferred r) := by
  have key : ∀ (l : List LockEntry) (u : State), StaysBehind s u →
      (∀ y ∈ l, y ∈ s.lock.entries ∧ y.resource = r ∧ y.isDeferred = true) →
      StaysBehind s (l.foldl (fun u y => u.reevaluate y.id) u) := by
    intro l
    induction l with
    | nil => exact fun u hs _ => hs
    | cons y l ih =>
      intro u hs hl
      obtain ⟨hlock, hqueue, hstation⟩ := hs
      obtain ⟨hy, hyr, hyd⟩ := hl y List.mem_cons_self
      have hne : x.id ≠ y.id := by
        intro hid
        rw [hu x hx y hy hid] at hclaims
        cases hst : y.state <;> simp [LockEntry.isClaiming, LockEntry.isDeferred, hst] at hclaims hyd
      have hflight : u.claimInFlight y.resource y.id = true :=
        claimInFlight_iff.2 ⟨x, hlock ▸ hx, hr.trans hyr.symm, hclaims, hne⟩
      have hstep : StaysBehind u (u.reevaluate y.id) := by
        refine reevaluate_behind ?_ (hlock ▸ hy) hyd ?_ ?_ hflight
        · unfold State.UniqueIds; rw [hlock]; exact hu
        · unfold State.WantsNothing; rw [hlock, hqueue]; exact hn y hy hyr hyd
        · unfold State.holderOf; rw [hlock, hyr]; exact hh
      refine ih _ ⟨hstep.lock.trans hlock, hstep.queue.trans hqueue, fun i hi => ?_⟩
        (fun z hz => hl z (List.mem_cons_of_mem y hz))
      exact hstep.station i (hstation i hi)
  refine key _ s ⟨rfl, rfl, fun _ hi => hi⟩ (fun y hy => ?_)
  simpa [and_assoc] using hy

end

end Sys2Proof.Machine
end

section
/-! PROOFS. Entries that want no frame are placed in turn under a holder entry of their resource (R23 to R28). -/

namespace Sys2Proof.Machine

open Sys2Proof

/-! ### The holder entry and its tickets -/

/-- The holder entry after it has issued a ticket. -/
def LockEntry.issued (h : LockEntry) : LockEntry := { h with state := h.Issued }

/-- The holder entry after it has issued n tickets. -/
def LockEntry.afterTickets (h : LockEntry) (n : Nat) : LockEntry := { h with state := h.IssuedMany n }

/-- How many tickets a holder entry may still issue. -/
def State.roomUnder (s : State) (h : LockEntry) : Nat := s.spanLimit - h.span.toNat

section
variable {s t : State} {h : LockEntry}

theorem span_eq (h : LockEntry) : h.span = h.issue - h.serve - 1 := rfl

theorem spanLimit_lt (s : State) : s.spanLimit < 256 := s.config.spanLimit.isLt

theorem issued_facts (hh : h.isHolder = true) :
    h.issued.isHolder = true ∧ h.issued.issue = h.issue + 1 ∧ h.issued.span = h.span + 1 ∧
      h.issued.contextByte = h.contextByte := by
  rcases h with ⟨id, r, st, held⟩
  cases st with
  | holding c n v i w =>
    refine ⟨rfl, rfl, ?_, rfl⟩
    change i + 1 - v - 1 = i - v - 1 + 1
    bv_omega
  | handing v i o g =>
    refine ⟨rfl, rfl, ?_, rfl⟩
    change i + 1 - v - 1 = i - v - 1 + 1
    bv_omega
  | _ => simp [LockEntry.isHolder] at hh

theorem room_issued (hh : h.isHolder = true) (hroom : 0 < s.roomUnder h) :
    s.roomUnder h.issued = s.roomUnder h - 1 := by
  obtain ⟨-, -, hspan, -⟩ := issued_facts hh
  have hlimit := spanLimit_lt s
  unfold State.roomUnder at *
  rw [hspan]
  bv_omega

/-- A holder entry that has issued no ticket. -/
theorem issuedMany_zero (hh : h.isHolder = true) : h.IssuedMany 0 = h.state := by
  rcases h with ⟨id, r, st, held⟩
  cases st with
  | holding c n v i w => simp [LockEntry.IssuedMany]
  | handing v i o g => simp [LockEntry.IssuedMany]
  | _ => simp [LockEntry.isHolder] at hh

/-- One ticket and then n more, where the first finds room. -/
theorem issuedMany_issued (hh : h.isHolder = true) (hroom : 0 < s.roomUnder h) (n : Nat) :
    h.issued.IssuedMany n = h.IssuedMany (n + 1) := by
  have hlimit := spanLimit_lt s
  rcases h with ⟨id, r, st, held⟩
  cases st with
  | holding c m v i w =>
    have hissue : i + 1 + BitVec.ofNat 16 n = i + BitVec.ofNat 16 (n + 1) := by bv_omega
    have hnext : i + 1 - v - 1 ≠ 0 := by
      change 0 < s.spanLimit - (i - v - 1).toNat at hroom
      bv_omega
    change EntryState.holding c m v (i + 1 + BitVec.ofNat 16 n)
        (w || decide (i - v - 1 = 0) || decide (n ≠ 0 ∧ i + 1 - v - 1 = 0))
      = .holding c m v (i + BitVec.ofNat 16 (n + 1)) (w || decide (n + 1 ≠ 0 ∧ i - v - 1 = 0))
    rw [hissue, decide_eq_false (p := n ≠ 0 ∧ i + 1 - v - 1 = 0) (fun hz => hnext hz.2), Bool.or_false,
      decide_eq_decide.2 (and_iff_right n.succ_ne_zero)]
  | handing v i o g =>
    have hissue : i + 1 + BitVec.ofNat 16 n = i + BitVec.ofNat 16 (n + 1) := by bv_omega
    change EntryState.handing v (i + 1 + BitVec.ofNat 16 n) o g = .handing v (i + BitVec.ofNat 16 (n + 1)) o g
    rw [hissue]
  | _ => simp [LockEntry.isHolder] at hh

end

/-! ### One entry placed -/

/-- What step 7 under holder entry h makes of entry y, of claimant c, where j entries before it have asked for a
ticket: BUSY, a ticket, or retry pending. -/
def PlacedAs (s t : State) (h y : LockEntry) (c : Claimant) (j : Nat) : Prop :=
  (c.policy = .nowait → t.entry y.id = none ∧ (t.slot c.slot).state = .done ∧
    (t.slot c.slot).result = ⟨some .busy, none, some s.own, some h.contextByte,
      some ((h.span + BitVec.ofNat 16 (min j (s.roomUnder h))).setWidth 8)⟩) ∧
  (c.policy ≠ .nowait → j < s.roomUnder h →
    t.entry y.id = some { y with
      state := .waiting c.context c.slot (h.issue + BitVec.ofNat 16 j) s.own none c.deadline none } ∧
    (t.slot c.slot).result.station = some s.own) ∧
  (c.policy ≠ .nowait → s.roomUnder h ≤ j →
    t.entry y.id = some { y with
      state := .claiming c.context c.slot c.policy c.deadline (some s.probeInterval) } ∧
    (t.slot c.slot).result.station = none)

/-- Entry y, of claimant c, is placed under holder entry h, which is h₁ then; the rest is as it was. -/
structure PlacesOne (s t : State) (h h₁ y : LockEntry) (c : Claimant) : Prop where
  config : t.config = s.config
  queue  : t.queue = s.queue
  wants  : t.lock.wants = s.lock.wants
  unique : t.UniqueIds
  holder : t.holderOf h.resource = some h₁
  others : ∀ q : Nat → Bool, q h.id = false → q y.id = false →
    t.lock.entries.filter (fun x => q x.id) = s.lock.entries.filter (fun x => q x.id)
  slots  : ∀ i, i ≠ c.slot → t.slot i = s.slot i
  placed : PlacedAs s t h y c 0

/-- R23 to R26: the holder entry after an entry of policy p has been evaluated under it. -/
def State.holderAfter (s : State) (h : LockEntry) (p : WaitPolicy) : LockEntry :=
  if p ≠ .nowait ∧ 0 < s.roomUnder h then h.issued else h

section
variable {s : State} {h y : LockEntry} {c : Claimant}

theorem holder_id_ne (hu : s.UniqueIds) (hh : s.holderOf y.resource = some h) (hy : y ∈ s.lock.entries)
    (hc : y.claimant = some c) : h.id ≠ y.id := by
  obtain ⟨hmem, -, hholder⟩ := holderOf_some hh
  intro hid
  rw [hu h hmem y hy hid, isHolder_of_claimant hc] at hholder
  exact nomatch hholder

/-- The holder entry after a claim has been restated as a claim. -/
theorem holderOf_restated (hu : s.UniqueIds) (hh : s.holderOf y.resource = some h) (hy : y ∈ s.lock.entries)
    (hc : y.claimant = some c) {st : EntryState}
    (hst : ∀ x : LockEntry, ({ x with state := st } : LockEntry).isHolder = false) :
    (s.setEntry y.id st).holderOf y.resource = some h := by
  rw [holderOf_setEntry, hh, Option.map_some, if_neg (holder_id_ne hu hh hy hc)]
  intro x hx hid
  rw [hst, hu x hx y hy hid, isHolder_of_claimant hc]

variable (hu : s.UniqueIds) (hh : s.holderOf y.resource = some h) (hy : y ∈ s.lock.entries)
  (hc : y.claimant = some c) (hn : s.WantsNothing (.entry y.id))
include hu hh hy hc hn

/-- R26. -/
theorem places_busy (hp : c.policy = .nowait) : PlacesOne s (s.reevaluate y.id) h h y c := by
  obtain ⟨-, hid, hr⟩ := claim_of_claimant hc
  obtain ⟨-, hres, -⟩ := holderOf_some hh
  rw [reevaluate_unwanted (entry_of_mem hu hy) hc hn, evaluate_busy (hr ▸ hh) hp, hid,
    freeEntry_unwanted hn.1 hn.2]
  have hsame : ∀ x ∈ s.lock.entries, x.id = y.id → x.isHolder = false := fun x hx hxy => by
    rw [hu x hx y hy hxy, isHolder_of_claimant hc]
  refine ⟨complete_config _ _ _, complete_queue _ _ _, by rw [complete_lock]; rfl, ?_, ?_,
    fun q _ hq => ?_, fun i hi => ?_, fun _ => ⟨?_, ?_, ?_⟩, fun h' => absurd hp h', fun h' => absurd hp h'⟩
  · unfold State.UniqueIds
    rw [complete_lock]
    exact uniqueIds_dropEntry hu
  · unfold State.holderOf
    rw [complete_lock, hres]
    exact (holderOf_dropEntry _ hsame).trans hh
  · rw [complete_lock]
    exact filter_dropEntry hq
  · rw [slot_complete, if_neg hi]
    rfl
  · unfold State.entry
    rw [complete_lock]
    exact entry_dropEntry_self _ _
  · rw [slot_complete, if_pos rfl]
  · rw [slot_complete, if_pos rfl, Nat.zero_min, BitVec.add_zero]
    rfl

/-- R24. -/
theorem places_ticket (hp : c.policy ≠ .nowait) (hroom : 0 < s.roomUnder h) :
    PlacesOne s (s.reevaluate y.id) h h.issued y c := by
  obtain ⟨-, hid, hr⟩ := claim_of_claimant hc
  obtain ⟨-, hres, hholder⟩ := holderOf_some hh
  have hne := holder_id_ne hu hh hy hc
  have hspan : h.span.toNat < s.spanLimit := by unfold State.roomUnder at hroom; omega
  rw [reevaluate_unwanted (entry_of_mem hu hy) hc hn, evaluate_ticket (hr ▸ hh) hp hspan,
    putEntry_present _ _ hy hid.symm, hid, issueTicket_eq hholder]
  let u := s.setEntry y.id (.waiting c.context c.slot h.issue s.own none c.deadline none)
  have hu' : u.UniqueIds := uniqueIds_setEntry hu
  have hholds : u.holderOf h.resource = some h := hres ▸ holderOf_restated hu hh hy hc (fun _ => rfl)
  have hmem := (holderOf_some hholds).1
  have hissued : (u.setEntry h.id h.Issued).holderOf h.resource = some h.issued := by
    rw [holderOf_setEntry, hholds, Option.map_some, if_pos rfl]
    · rfl
    · intro x hx hxh
      rw [hu' x hx h hmem hxh, hholder]
      exact (issued_facts hholder).1
  have hwaits : (u.setEntry h.id h.Issued).entry y.id
      = some { y with state := .waiting c.context c.slot h.issue s.own none c.deadline none } := by
    rw [entry_setEntry, entry_setEntry_self _ (entry_of_mem hu hy), Option.map_some, if_neg hne.symm]
  have hslot : ∀ i, ((u.setSlotStation c.slot (some s.own)).slot i) = _ := slot_setSlotStation u c.slot (some s.own)
  refine ⟨rfl, rfl, rfl, uniqueIds_setEntry hu', hissued, fun q hqh hqy => ?_, fun i hi => ?_,
    fun h' => absurd h' hp, fun _ _ => ⟨?_, ?_⟩, fun _ h' => absurd hroom (Nat.not_lt.2 h')⟩
  · exact (filter_setEntry hqh).trans (filter_setEntry hqy)
  · exact (hslot i).trans (if_neg hi)
  · rw [BitVec.add_zero]
    exact hwaits
  · exact congrArg (fun x : Slot => x.result.station) ((hslot c.slot).trans (if_pos rfl))

/-- R25. -/
theorem places_full (hp : c.policy ≠ .nowait) (hfull : s.roomUnder h = 0) :
    PlacesOne s (s.reevaluate y.id) h h y c := by
  obtain ⟨-, hid, hr⟩ := claim_of_claimant hc
  obtain ⟨-, hres, -⟩ := holderOf_some hh
  have hspan : s.spanLimit ≤ h.span.toNat := by unfold State.roomUnder at hfull; omega
  rw [reevaluate_unwanted (entry_of_mem hu hy) hc hn, evaluate_full (hr ▸ hh) hp hspan, State.retryPending,
    putEntry_present _ _ hy hid.symm, hid]
  refine ⟨rfl, rfl, rfl, uniqueIds_setEntry hu, ?_, fun q _ hq => filter_setEntry hq, fun i hi => ?_,
    fun h' => absurd h' hp, fun _ h' => absurd h' (by omega), fun _ _ => ⟨?_, ?_⟩⟩
  · rw [hres]
    exact holderOf_restated hu hh hy hc (fun _ => rfl)
  · exact (slot_setSlotStation _ _ _ _).trans (if_neg hi)
  · exact entry_setEntry_self _ (entry_of_mem hu hy)
  · rw [slot_setSlotStation, if_pos rfl]

theorem places : PlacesOne s (s.reevaluate y.id) h (s.holderAfter h c.policy) y c := by
  unfold State.holderAfter
  split
  · rename_i hasks
    exact places_ticket hu hh hy hc hn hasks.1 hasks.2
  · rename_i hasks
    by_cases hp : c.policy = .nowait
    · exact places_busy hu hh hy hc hn hp
    · exact places_full hu hh hy hc hn hp (Nat.eq_zero_of_not_pos fun hroom => hasks ⟨hp, hroom⟩)

end

section
variable {s t u : State} {h h₁ y : LockEntry} {c : Claimant}

theorem PlacesOne.entry (hp : PlacesOne s t h h₁ y c) {id : Nat} (hh : id ≠ h.id) (hy : id ≠ y.id) :
    t.entry id = s.entry id := by
  let q : Nat → Bool := fun n => decide (n ≠ h.id) && decide (n ≠ y.id)
  exact entry_eq_of_filter (q := q) (by simp [q, hh, hy]) (hp.others q (by simp [q]) (by simp [q]))

/-- What has been made of an entry stands while its place and its slot do. -/
theorem PlacedAs.stands {j : Nat} (hp : PlacedAs s t h y c j) (he : u.entry y.id = t.entry y.id)
    (hs : u.slot c.slot = t.slot c.slot) : PlacedAs s u h y c j := by
  unfold PlacedAs
  rw [he, hs]
  exact hp

/-- What is placed after an entry of policy p counts that entry. -/
theorem PlacedAs.later {p : WaitPolicy} {j : Nat} (hconfig : u.config = s.config) (hh : h.isHolder = true)
    (hp : PlacedAs u t (s.holderAfter h p) y c j) :
    PlacedAs s t h y c (j + if p ≠ .nowait then 1 else 0) := by
  have hlimit := spanLimit_lt s
  have hroom : ∀ x, u.roomUnder x = s.roomUnder x := fun x => by
    simp only [State.roomUnder, State.spanLimit, hconfig]
  unfold PlacedAs at hp ⊢
  simp only [hroom, State.own, State.probeInterval, hconfig] at hp ⊢
  unfold State.holderAfter at hp
  by_cases hasks : p ≠ .nowait
  · rw [if_pos hasks]
    by_cases hfree : 0 < s.roomUnder h
    · obtain ⟨-, hissue, hspan, hbyte⟩ := issued_facts hh
      rw [if_pos ⟨hasks, hfree⟩, room_issued hh hfree, hissue, hspan, hbyte] at hp
      obtain ⟨hbusy, hticket, hfull⟩ := hp
      have hmin : min (j + 1) (s.roomUnder h) = min j (s.roomUnder h - 1) + 1 := by omega
      have hsum : ∀ (x : Ticket) (n : Nat), x + 1 + BitVec.ofNat 16 n = x + BitVec.ofNat 16 (n + 1) := by
        intro x n; bv_omega
      refine ⟨fun hp => ?_, fun hp hj => ?_, fun hp hj => ?_⟩
      · rw [hmin, ← hsum]; exact hbusy hp
      · rw [← hsum]; exact hticket hp (by omega)
      · exact hfull hp (by omega)
    · rw [if_neg (fun hboth => hfree hboth.2)] at hp
      have hzero : s.roomUnder h = 0 := by omega
      rw [hzero] at hp ⊢
      obtain ⟨hbusy, -, hfull⟩ := hp
      refine ⟨fun hp => ?_, fun _ hj => absurd hj (Nat.not_lt_zero _), fun hp _ => hfull hp (Nat.zero_le _)⟩
      rw [Nat.min_zero] at hbusy ⊢
      exact hbusy hp
  · rw [if_neg (fun hboth => hasks hboth.1)] at hp
    rw [if_neg hasks]
    exact hp

end

/-! ### Entries placed in turn -/

/-- Two entries of different places that name no slot in common. -/
def LockEntry.Apart (x y : LockEntry) : Prop := x.id ≠ y.id ∧ ∀ i, x.slot = some i → y.slot ≠ some i

/-- Whether an entry that is evaluated under a holder entry asks it for a ticket. -/
def LockEntry.asksTicket (y : LockEntry) : Bool := y.claimant.any (fun c => decide (c.policy ≠ .nowait))

/-- The entries of a list may be evaluated one after the other under holder entry h. -/
structure InTurn (s : State) (h : LockEntry) (l : List LockEntry) : Prop where
  unique : s.UniqueIds
  holder : s.holderOf h.resource = some h
  waits  : ∀ y ∈ l, y ∈ s.lock.entries ∧ y.resource = h.resource ∧ (∃ c, y.claimant = some c) ∧
    s.WantsNothing (.entry y.id)
  apart  : l.Pairwise LockEntry.Apart

/-- The entries of a list have been placed, in their order, under holder entry h as it stands before. -/
structure PlacedInTurn (s t : State) (h : LockEntry) (l : List LockEntry) : Prop where
  queue  : t.queue = s.queue
  holder : t.entry h.id
    = some (h.afterTickets (min (l.countP LockEntry.asksTicket) (s.roomUnder h)))
  placed : ∀ l₁ y l₂ c, l = l₁ ++ y :: l₂ → y.claimant = some c →
    PlacedAs s t h y c (l₁.countP LockEntry.asksTicket)
  others : ∀ id, id ≠ h.id → (∀ y ∈ l, y.id ≠ id) → t.entry id = s.entry id
  slots  : ∀ i, (∀ y ∈ l, y.slot ≠ some i) → t.slot i = s.slot i

section
variable {s t u : State} {h h₁ y : LockEntry} {c : Claimant} {l : List LockEntry}

theorem slot_of_claimant (hc : y.claimant = some c) : y.slot = some c.slot := by
  simp [LockEntry.slot, hc]

theorem holderAfter_facts (hh : h.isHolder = true) (p : WaitPolicy) :
    (s.holderAfter h p).id = h.id ∧ (s.holderAfter h p).resource = h.resource ∧
      (s.holderAfter h p).isHolder = true := by
  unfold State.holderAfter
  split
  · exact ⟨rfl, rfl, (issued_facts hh).1⟩
  · exact ⟨rfl, rfl, hh⟩

/-- The tickets of an entry and of those after it. -/
theorem issuedMany_holderAfter (hh : h.isHolder = true) (hconfig : u.config = s.config) (hc : y.claimant = some c) :
    (s.holderAfter h c.policy).afterTickets
        (min (l.countP LockEntry.asksTicket) (u.roomUnder (s.holderAfter h c.policy)))
      = h.afterTickets (min ((y :: l).countP LockEntry.asksTicket) (s.roomUnder h)) := by
  have hroom : ∀ x, u.roomUnder x = s.roomUnder x := fun x => by
    simp only [State.roomUnder, State.spanLimit, hconfig]
  have hasks : y.asksTicket = decide (c.policy ≠ .nowait) := by simp [LockEntry.asksTicket, hc]
  rw [hroom, List.countP_cons, hasks]
  unfold State.holderAfter LockEntry.afterTickets
  by_cases hp : c.policy ≠ .nowait
  · by_cases hfree : 0 < s.roomUnder h
    · rw [if_pos ⟨hp, hfree⟩, room_issued hh hfree, issuedMany_issued hh hfree, decide_eq_true hp, if_pos rfl,
        show min (l.countP LockEntry.asksTicket + 1) (s.roomUnder h)
          = min (l.countP LockEntry.asksTicket) (s.roomUnder h - 1) + 1 by omega]
      rfl
    · rw [if_neg (fun hboth => hfree hboth.2), Nat.eq_zero_of_not_pos hfree, Nat.min_zero, Nat.min_zero]
  · rw [if_neg (fun hboth => hp hboth.1), decide_eq_false hp]
    rfl

theorem InTurn.step (ht : InTurn s h (y :: l))
    (hp : PlacesOne s t h (s.holderAfter h c.policy) y c) : InTurn t (s.holderAfter h c.policy) l := by
  obtain ⟨hmem, -, hholder⟩ := holderOf_some ht.holder
  obtain ⟨hid, hres, -⟩ := holderAfter_facts (s := s) hholder c.policy
  obtain ⟨hapart, hrest⟩ := List.pairwise_cons.1 ht.apart
  refine ⟨hp.unique, hres.symm ▸ hp.holder, fun x hx => ?_, hrest⟩
  obtain ⟨hxs, hxr, ⟨k, hk⟩, hn⟩ := ht.waits x (List.mem_cons_of_mem y hx)
  have hxh : x.id ≠ h.id := (holder_id_ne ht.unique (hxr ▸ ht.holder) hxs hk).symm
  have hentry := (hp.entry hxh (hapart x hx).1.symm).trans (entry_of_mem ht.unique hxs)
  refine ⟨mem_of_entry hentry, hxr.trans hres.symm, ⟨k, hk⟩, ?_⟩
  unfold State.WantsNothing
  rw [hp.wants, hp.queue]
  exact hn

/-- One entry placed, and then the others. -/
theorem PlacedInTurn.cons (ht : InTurn s h (y :: l)) (hc : y.claimant = some c)
    (hp : PlacesOne s u h (s.holderAfter h c.policy) y c) (hl : PlacedInTurn u t (s.holderAfter h c.policy) l) :
    PlacedInTurn s t h (y :: l) := by
  obtain ⟨-, -, hholder⟩ := holderOf_some ht.holder
  obtain ⟨hy, hyr, -, -⟩ := ht.waits y List.mem_cons_self
  obtain ⟨hid, -, -⟩ := holderAfter_facts (s := s) hholder c.policy
  obtain ⟨hapart, -⟩ := List.pairwise_cons.1 ht.apart
  have hyh : y.id ≠ h.id := (holder_id_ne ht.unique (hyr ▸ ht.holder) hy hc).symm
  have hslot := slot_of_claimant hc
  refine ⟨hl.queue.trans hp.queue, ?_, fun l₁ z l₂ k hsplit hk => ?_, fun id hidh hidl => ?_, fun i hi => ?_⟩
  · rw [← issuedMany_holderAfter hholder hp.config hc, ← hid]
    exact hl.holder
  · cases l₁ with
    | nil =>
      obtain ⟨rfl, rfl⟩ := List.cons.inj hsplit
      obtain rfl : c = k := Option.some.inj (hc.symm.trans hk)
      refine hp.placed.stands (hl.others _ (hid ▸ hyh) (fun x hx => (hapart x hx).1.symm)) (hl.slots _ ?_)
      exact fun x hx => (hapart x hx).2 _ hslot
    | cons x l₁ =>
      obtain ⟨rfl, rfl⟩ := List.cons.inj hsplit
      have hasks : y.asksTicket = decide (c.policy ≠ .nowait) := by simp [LockEntry.asksTicket, hc]
      rw [List.countP_cons, hasks]
      simp only [decide_eq_true_eq]
      exact (hl.placed l₁ z l₂ k rfl hk).later hp.config hholder
  · rw [hl.others id (hid ▸ hidh) (fun x hx => hidl x (List.mem_cons_of_mem y hx)),
      hp.entry hidh (hidl y List.mem_cons_self).symm]
  · rw [hl.slots i (fun x hx => hi x (List.mem_cons_of_mem y hx)), hp.slots i]
    rintro rfl
    exact hi y List.mem_cons_self hslot

/-- R28: the entries of a list are evaluated in turn. -/
theorem foldl_inTurn (l : List LockEntry) (s : State) (h : LockEntry) (ht : InTurn s h l) :
    PlacedInTurn s (l.foldl (fun u y => u.reevaluate y.id) s) h l := by
  induction l generalizing s h with
  | nil =>
    obtain ⟨hmem, -, hholder⟩ := holderOf_some ht.holder
    refine ⟨rfl, ?_, fun l₁ y l₂ c hsplit => ?_, fun _ _ _ => rfl, fun _ _ => rfl⟩
    · rw [List.countP_nil, Nat.zero_min, LockEntry.afterTickets, issuedMany_zero hholder]
      exact entry_of_mem ht.unique hmem
    · simp at hsplit
  | cons y l ih =>
    obtain ⟨hy, hyr, ⟨c, hc⟩, hn⟩ := ht.waits y List.mem_cons_self
    have hp := places ht.unique (hyr ▸ ht.holder) hy hc hn
    exact .cons ht hc hp (ih _ _ (ht.step hp))

end

end Sys2Proof.Machine
end

section
/-! PROOFS. The claim retry timer's expiry (R36): the row of step 7 that the entry finds, and then its DEFERRED
siblings (R28). -/

namespace Sys2Proof.Machine

open Sys2Proof

/-! ### The DEFERRED siblings -/

/-- The DEFERRED entries of a resource, oldest first. -/
def State.siblings (s : State) (r : Resource) : List LockEntry :=
  s.lock.entries.filter (fun x => decide (x.resource = r) && x.isDeferred)

theorem mem_siblings {s : State} {r : Resource} {x : LockEntry} :
    x ∈ s.siblings r ↔ x ∈ s.lock.entries ∧ x.resource = r ∧ x.isDeferred = true := by
  simp [State.siblings]

theorem not_deferred_of_holder {x : LockEntry} (h : x.isHolder = true) : x.isDeferred = false := by
  cases hst : x.state <;> simp [LockEntry.isHolder, LockEntry.isDeferred, hst] at h ⊢

theorem siblings_eq_of_filter {s t : State} {r : Resource} {q : Nat → Bool}
    (h : t.lock.entries.filter (fun x => q x.id) = s.lock.entries.filter (fun x => q x.id))
    (hs : ∀ x ∈ s.lock.entries, q x.id = false → x.isDeferred = false)
    (ht : ∀ x ∈ t.lock.entries, q x.id = false → x.isDeferred = false) : t.siblings r = s.siblings r := by
  have key : ∀ u : State, (∀ x ∈ u.lock.entries, q x.id = false → x.isDeferred = false) →
      u.siblings r = (u.lock.entries.filter (fun x => q x.id)).filter
        (fun x => decide (x.resource = r) && x.isDeferred) := by
    intro u hu
    rw [List.filter_filter]
    refine List.filter_congr (fun x hx => ?_)
    cases hq : q x.id with
    | true => rw [Bool.and_true]
    | false => rw [hu x hx hq, Bool.and_false, Bool.false_and]
  rw [key t ht, h, ← key s hs]

theorem LockEntry.Apart.symm {x y : LockEntry} (h : x.Apart y) : y.Apart x :=
  ⟨h.1.symm, fun i hy hx => h.2 i hx hy⟩

/-- R12, R13: entries have places and slots of their own. -/
theorem apart_of_named {s : State} (hn : s.PendingSlotsAreNamed) : s.lock.entries.Pairwise LockEntry.Apart := by
  obtain ⟨hslots, -, hids, -⟩ := hn
  refine (List.pairwise_map.1 hids).and ((List.pairwise_filterMap.1 hslots.of_append_left).imp ?_)
  exact fun h i hx hy => h i hx i hy rfl

/-- The tickets that the DEFERRED entries of a list ask of a holder entry that is none of them. -/
theorem countP_asks {own : StationNo} {r : Resource} {id : Nat} {l : List LockEntry}
    (h : ∀ x ∈ l, x.isDeferred = true → x.id ≠ id) :
    l.countP (fun y => LockEntry.Asks own r id y && !!y.isDeferred)
      = (l.filter (fun x => decide (x.resource = r) && x.isDeferred)).countP LockEntry.asksTicket := by
  rw [List.countP_filter]
  refine List.countP_congr (fun x hx => ?_)
  cases hd : x.isDeferred with
  | false => simp
  | true =>
    have hne := h x hx hd
    cases hst : x.state with
    | deferred k sl p d =>
      simp [LockEntry.Asks, LockEntry.asksTicket, LockEntry.Moved, LockEntry.claimant, hst, hne, and_comm]
    | _ => simp [LockEntry.isDeferred, hst] at hd

/-- The siblings, placed in turn under a holder entry that is none of them, as the statements say it. -/
theorem PlacedInTurn.entriesPlacedUnder {s u t : State} {h : LockEntry}
    (hp : PlacedInTurn u t h (s.siblings h.resource)) (hconfig : u.config = s.config)
    (hh : ∀ x ∈ s.lock.entries, x.isDeferred = true → x.id ≠ h.id) :
    EntriesPlacedUnder s t h (fun y => !y.isDeferred) := by
  have hroom : u.roomUnder h = s.roomUnder h := by simp only [State.roomUnder, State.spanLimit, hconfig]
  refine ⟨?_, fun l₁ y l₂ hsplit hyr _ hy => ?_⟩
  · rw [hp.holder, hroom, State.TicketsFor, countP_asks hh]
    rfl
  · have hyd : y.isDeferred = true := by simpa using hy
    have hbefore := countP_asks (own := s.own) (r := h.resource) (l := l₁)
      (fun x hx => hh x (hsplit ▸ List.mem_append_left _ hx))
    have hsiblings : s.siblings h.resource
        = l₁.filter (fun x => decide (x.resource = h.resource) && x.isDeferred) ++ y ::
          l₂.filter (fun x => decide (x.resource = h.resource) && x.isDeferred) := by
      rw [State.siblings, hsplit, List.filter_append, List.filter_cons_of_pos (by simp [hyr, hyd])]
    cases hst : y.state with
    | deferred k sl p d =>
      have hplaced := hp.placed _ y _ ⟨y.id, y.resource, k, sl, p, d⟩ hsiblings (by simp [LockEntry.claimant, hst])
      rw [← hbefore] at hplaced
      unfold PlacedAs at hplaced
      simp only [hroom, State.own, State.probeInterval, hconfig] at hplaced
      have hmoved : y.Moved s.own = some (k, sl, p, d) := by simp [LockEntry.Moved, hst]
      refine ⟨fun hnone => absurd (hmoved.symm.trans hnone) nofun, fun k' sl' p' d' hsome => ?_⟩
      cases hmoved.symm.trans hsome
      exact hplaced
    | _ => simp [LockEntry.isDeferred, hst] at hyd

/-! ### The entry whose timer expires -/

/-- A claim in retry pending that wants no frame, and the like of its DEFERRED siblings. -/
structure RetryDue (s : State) (e : LockEntry) (c : Context) (sl : SlotIx) (p : WaitPolicy) (d : Option Timer)
    (n : Timer) : Prop where
  mem      : e ∈ s.lock.entries
  unique   : s.UniqueIds
  state    : e.state = .claiming c sl p d (some n)
  wants    : s.lock.wants = []
  frames   : ∀ f ∈ s.queue.frames, f.owner ≠ .lock (.entry e.id)
  siblings : ∀ x ∈ s.lock.entries, x.resource = e.resource → x.isDeferred = true →
    s.PendingSlotsAreNamed ∧ ∀ f ∈ s.queue.frames, f.owner ≠ .lock (.entry x.id)

/-- The entry with its timer absent, and the state with it so. -/
def LockEntry.timerGone (e : LockEntry) (c : Context) (sl : SlotIx) (p : WaitPolicy) (d : Option Timer) : LockEntry :=
  { e with state := .claiming c sl p d none }

def State.timerGone (s : State) (e : LockEntry) (c : Context) (sl : SlotIx) (p : WaitPolicy) (d : Option Timer) :
    State :=
  s.setEntry e.id (.claiming c sl p d none)

theorem setEntry_setEntry (s : State) (id : Nat) (st st' : EntryState) :
    (s.setEntry id st).setEntry id st' = s.setEntry id st' := by
  have h : (s.setEntry id st).lock.entries.map (fun x => if x.id = id then { x with state := st' } else x)
      = s.lock.entries.map (fun x => if x.id = id then { x with state := st' } else x) := by
    rw [setEntry_entries, List.map_map]
    refine List.map_congr_left (fun x _ => ?_)
    by_cases hid : x.id = id <;> simp [hid]
  exact congrArg s.withEntries h

/-- An entry of another place is untouched. -/
theorem mem_setEntry_of_ne {s : State} {id : Nat} {st : EntryState} {x : LockEntry} (hx : x ∈ s.lock.entries)
    (hid : x.id ≠ id) : x ∈ (s.setEntry id st).lock.entries :=
  List.mem_map.2 ⟨x, hx, if_neg hid⟩

/-- R14: a want is its owner's alone. -/
theorem raiseWant_wantsNothing {s : State} {o o' : Owner} (h : s.WantsNothing o') (hne : o ≠ o') :
    (s.raiseWant o).WantsNothing o' := by
  obtain ⟨hwants, hframes⟩ := h
  unfold State.raiseWant
  split
  · exact ⟨hwants, hframes⟩
  · split
    · refine ⟨hwants, fun f hf => ?_⟩
      obtain hf | hf := List.mem_append.1 hf
      · exact hframes f hf
      · rw [List.mem_singleton.1 hf]
        exact fun h => hne (FrameOwner.lock.inj h)
    · refine ⟨fun h => ?_, hframes⟩
      obtain h | h := List.mem_append.1 h
      · exact hwants h
      · exact hne (List.mem_singleton.1 h).symm

section
variable {s : State} {e : LockEntry} {c : Context} {sl : SlotIx} {p : WaitPolicy} {d : Option Timer} {n : Timer}
variable (hr : RetryDue s e c sl p d n)
include hr

theorem exec_claimRetryExpiry {i : SlotIx} (he : s.entryAt i = some e) :
    exec (.claimRetryExpiry i) s = .next (s.expireClaimRetry e) := by
  have hretry : e.claimRetry.isSome = true := by simp [LockEntry.claimRetry, hr.state]
  simp [exec, execClaimRetryExpiry, he, hretry]

/-- A DEFERRED sibling wants no frame. -/
theorem wantsNothing_sibling {y : LockEntry} (hy : y ∈ s.lock.entries) (hyr : y.resource = e.resource)
    (hyd : y.isDeferred = true) : s.WantsNothing (.entry y.id) := by
  refine ⟨?_, (hr.siblings y hy hyr hyd).2⟩
  rw [hr.wants]
  exact List.not_mem_nil

/-- R36: an entry that is left in retry pending keeps its siblings waiting. -/
theorem expireClaimRetry_retries {x : LockEntry}
    (hx : ((s.timerGone e c sl p d).reevaluate e.id).entry e.id = some x) (hretry : x.claimRetry.isSome = true) :
    s.expireClaimRetry e = (s.timerGone e c sl p d).reevaluate e.id := by
  rw [State.timerGone] at *
  simp [State.expireClaimRetry, hr.state, hx, hretry]

/-- R36, R28: else they follow. -/
theorem expireClaimRetry_follows
    (h : ∀ x, ((s.timerGone e c sl p d).reevaluate e.id).entry e.id = some x → x.claimRetry = none) :
    s.expireClaimRetry e = ((s.timerGone e c sl p d).reevaluate e.id).reevaluateDeferred e.resource := by
  rw [State.timerGone] at *
  simp only [State.expireClaimRetry, hr.state]
  split
  · rename_i x hx
    rw [h x hx]
    rfl
  · rfl

theorem timerGone_unique : (s.timerGone e c sl p d).UniqueIds := uniqueIds_setEntry hr.unique

theorem entry_timerGone : (s.timerGone e c sl p d).entry e.id = some (e.timerGone c sl p d) :=
  entry_setEntry_self _ (entry_of_mem hr.unique hr.mem)

theorem mem_timerGone : e.timerGone c sl p d ∈ (s.timerGone e c sl p d).lock.entries :=
  mem_of_entry (entry_timerGone hr)

theorem wantsNothing_retryDue : s.WantsNothing (.entry e.id) := by
  refine ⟨?_, hr.frames⟩
  rw [hr.wants]
  exact List.not_mem_nil

theorem isHolder_retryDue : e.isHolder = false := by simp [LockEntry.isHolder, hr.state]

/-- The claim is restated as one that holds nothing. -/
theorem holderOf_retryDue {st : EntryState}
    (hst : ∀ x : LockEntry, ({ x with state := st } : LockEntry).isHolder = false) (r : Resource) :
    (s.setEntry e.id st).holderOf r = s.holderOf r := by
  refine (holderOf_setEntry r (fun x hx hid => ?_)).trans ?_
  · rw [hst, hr.unique x hx e hr.mem hid, isHolder_retryDue hr]
  · cases hh : s.holderOf r with
    | none => rfl
    | some h =>
      obtain ⟨hmem, -, hholder⟩ := holderOf_some hh
      rw [Option.map_some, if_neg]
      intro hid
      rw [hr.unique h hmem e hr.mem hid, isHolder_retryDue hr] at hholder
      exact nomatch hholder

theorem holderOf_timerGone (r : Resource) : (s.timerGone e c sl p d).holderOf r = s.holderOf r :=
  holderOf_retryDue hr (fun _ => rfl) r

theorem reevaluate_timerGone : (s.timerGone e c sl p d).reevaluate e.id
    = (s.timerGone e c sl p d).evaluate ⟨e.id, e.resource, c, sl, p, d⟩ := by
  have hn := wantsNothing_retryDue hr
  exact reevaluate_unwanted (y := e.timerGone c sl p d) (entry_timerGone hr) rfl hn

/-- A DEFERRED entry of the resource is a sibling that was there. -/
theorem sibling_of_timerGone {x : LockEntry} (hx : x ∈ (s.timerGone e c sl p d).lock.entries)
    (hd : x.isDeferred = true) : x ∈ s.lock.entries ∧ x.id ≠ e.id := by
  have hne : x.id ≠ e.id := by
    intro hid
    rw [timerGone_unique hr x hx _ (mem_timerGone hr) hid] at hd
    exact nomatch hd
  obtain hs | ⟨y, -, hid, rfl⟩ := mem_setEntry hx
  · exact ⟨hs, hne⟩
  · exact absurd hid hne

/-! ### Without a holder entry (R27, R29) -/

/-- R27: DEFERRED behind another claim in flight, as its siblings stay. -/
theorem retry_defers (hh : s.holderOf e.resource = none)
    (hc : ∃ x ∈ s.lock.entries, x.resource = e.resource ∧ x.isClaiming = true ∧ x.id ≠ e.id) :
    ∃ u, u.lock = (s.setEntry e.id (.deferred c sl p d)).lock ∧ u.queue = s.queue ∧
      StaysBehind u (s.expireClaimRetry e) := by
  obtain ⟨x, hx, hxr, hclaims, hne⟩ := hc
  let u := (s.setEntry e.id (.deferred c sl p d)).setSlotStation sl none
  have hflight : (s.timerGone e c sl p d).claimInFlight e.resource e.id = true :=
    claimInFlight_iff.2 ⟨x, mem_setEntry_of_ne hx hne, hxr, hclaims, hne⟩
  have hu : (s.timerGone e c sl p d).reevaluate e.id = u := by
    rw [reevaluate_timerGone hr, evaluate_defers ((holderOf_timerGone hr _).trans hh) hflight,
      putEntry_present _ _ (mem_timerGone hr) rfl]
    exact congrArg (State.setSlotStation · sl none) (setEntry_setEntry _ _ _ _)
  have hentry : u.entry e.id = some { e with state := .deferred c sl p d } :=
    entry_setEntry_self _ (entry_of_mem hr.unique hr.mem)
  have hholder : u.holderOf e.resource = none := (holderOf_retryDue hr (fun _ => rfl) _).trans hh
  have hfollows := expireClaimRetry_follows hr (fun x hx => by
    rw [hu, hentry] at hx
    cases hx
    rfl)
  refine ⟨u, rfl, rfl, ?_⟩
  rw [hfollows, hu]
  refine reevaluateDeferred_behind (uniqueIds_setEntry hr.unique) hholder (mem_setEntry_of_ne hx hne) hxr hclaims
    (fun y hy hyr hyd => ?_)
  obtain hy | ⟨z, -, hid, rfl⟩ := mem_setEntry hy
  · exact wantsNothing_sibling hr hy hyr hyd
  · have hn := wantsNothing_retryDue hr
    exact hid ▸ hn

/-- R29: CLAIMING with its CLAIM wanted, which its siblings stay behind. -/
theorem retry_claims (hh : s.holderOf e.resource = none)
    (hc : ∀ x ∈ s.lock.entries, x.resource = e.resource → x.isClaiming = true → x = e) :
    StaysBehind (((s.timerGone e c sl p d).setSlotStation sl none).raiseWant (.entry e.id))
      (s.expireClaimRetry e) := by
  let v := (s.timerGone e c sl p d).setSlotStation sl none
  have hflight : (s.timerGone e c sl p d).claimInFlight e.resource e.id = false := by
    rw [Bool.eq_false_iff, ne_eq, claimInFlight_iff]
    rintro ⟨x, hx, hxr, hclaims, hne⟩
    obtain hs | ⟨y, -, hid, rfl⟩ := mem_setEntry hx
    · exact hne (congrArg LockEntry.id (hc x hs hxr hclaims))
    · exact hne hid
  have hu : (s.timerGone e c sl p d).reevaluate e.id = v.raiseWant (.entry e.id) := by
    rw [reevaluate_timerGone hr, evaluate_claims ((holderOf_timerGone hr _).trans hh) hflight,
      putEntry_present _ _ (mem_timerGone hr) rfl]
    exact congrArg (fun w : State => (w.setSlotStation sl none).raiseWant (.entry e.id)) (setEntry_setEntry _ _ _ _)
  have hentry : (v.raiseWant (.entry e.id)).entry e.id = some (e.timerGone c sl p d) := by
    unfold State.entry
    rw [raiseWant_entries]
    exact entry_timerGone hr
  have hfollows := expireClaimRetry_follows hr (fun x hx => by
    rw [hu, hentry] at hx
    cases hx
    rfl)
  rw [hfollows, hu]
  have hentries : (v.raiseWant (.entry e.id)).lock.entries = (s.timerGone e c sl p d).lock.entries :=
    raiseWant_entries _ _
  refine reevaluateDeferred_behind (x := e.timerGone c sl p d) ?_ ?_ ?_ rfl rfl (fun y hy hyr hyd => ?_)
  · unfold State.UniqueIds
    rw [hentries]
    exact timerGone_unique hr
  · unfold State.holderOf
    rw [hentries]
    exact (holderOf_timerGone hr _).trans hh
  · rw [hentries]
    exact mem_timerGone hr
  · rw [hentries] at hy
    obtain ⟨hys, hne⟩ := sibling_of_timerGone hr hy hyd
    refine raiseWant_wantsNothing ?_ (fun h => hne (Owner.entry.inj h).symm)
    exact wantsNothing_sibling hr hys hyr hyd

/-! ### Under a holder entry (R24, R25, R26, R28) -/

section
variable {h : LockEntry} (hh : s.holderOf e.resource = some h)
include hh

theorem retry_places : PlacesOne (s.timerGone e c sl p d) ((s.timerGone e c sl p d).reevaluate e.id) h
    ((s.timerGone e c sl p d).holderAfter h p) (e.timerGone c sl p d) ⟨e.id, e.resource, c, sl, p, d⟩ := by
  have hn := wantsNothing_retryDue hr
  exact places (y := e.timerGone c sl p d) (timerGone_unique hr) ((holderOf_timerGone hr _).trans hh)
    (mem_timerGone hr) rfl hn

/-- R25: at the span limit the entry is in retry pending again. -/
theorem retry_full (hp : p ≠ .nowait) (hfull : s.roomUnder h = 0) :
    s.expireClaimRetry e = (s.timerGone e c sl p d).reevaluate e.id := by
  obtain ⟨-, -, hretries⟩ := (retry_places hr hh).placed
  exact expireClaimRetry_retries hr (hretries hp (Nat.le_of_eq hfull)).1 rfl

/-- R24, R26: else it is gone or waits, and its siblings follow. -/
theorem retry_follows (hrow : p = .nowait ∨ 0 < s.roomUnder h) :
    s.expireClaimRetry e = ((s.timerGone e c sl p d).reevaluate e.id).reevaluateDeferred e.resource := by
  obtain ⟨hbusy, hwaits, -⟩ := (retry_places hr hh).placed
  refine expireClaimRetry_follows hr (fun x hx => ?_)
  by_cases hp : p = .nowait
  · obtain ⟨hgone, -⟩ := hbusy hp
    exact nomatch hx.symm.trans hgone
  · obtain ⟨hwait, -⟩ := hwaits hp (hrow.resolve_left hp)
    cases Option.some.inj (hx.symm.trans hwait)
    rfl

/-- Where its siblings follow, the entry is not DEFERRED then. -/
theorem retried_not_deferred {x : LockEntry}
    (hx : x ∈ ((s.timerGone e c sl p d).reevaluate e.id).lock.entries) (hid : x.id = e.id) :
    x.isDeferred = false := by
  have hplaces := retry_places hr hh
  have hentry := entry_of_mem hplaces.unique hx
  rw [hid] at hentry
  obtain ⟨hbusy, hwaits, hretries⟩ := hplaces.placed
  by_cases hp : p = .nowait
  · exact nomatch hentry.symm.trans (hbusy hp).1
  · obtain hroom | hroom := Nat.eq_zero_or_pos ((s.timerGone e c sl p d).roomUnder h)
    · cases Option.some.inj (hentry.symm.trans (hretries hp (Nat.le_of_eq hroom)).1)
      rfl
    · cases Option.some.inj (hentry.symm.trans (hwaits hp hroom).1)
      rfl

/-- The siblings are those that there were. -/
theorem siblings_retried :
    ((s.timerGone e c sl p d).reevaluate e.id).siblings e.resource = s.siblings e.resource := by
  have hplaces := retry_places hr hh
  obtain ⟨hmem, -, hholder⟩ := holderOf_some hh
  obtain ⟨hid, -, hholder'⟩ := holderAfter_facts (s := s.timerGone e c sl p d) hholder p
  obtain ⟨hmem', -, -⟩ := holderOf_some hplaces.holder
  let q : Nat → Bool := fun n => decide (n ≠ h.id) && decide (n ≠ e.id)
  have hothers := (hplaces.others q (by simp [q]) (by simp [q, LockEntry.timerGone])).trans
    (filter_setEntry (s := s) (id := e.id) (q := q) (by simp [q]))
  have hcases : ∀ n, q n = false → n = h.id ∨ n = e.id := fun n hn => by
    simpa [q, imp_iff_not_or, or_comm] using hn
  refine siblings_eq_of_filter (q := q) hothers (fun x hx hq => ?_) (fun x hx hq => ?_)
  · obtain hxh | hxe := hcases _ hq
    · rw [hr.unique x hx h hmem hxh]
      exact not_deferred_of_holder hholder
    · rw [hr.unique x hx e hr.mem hxe, LockEntry.isDeferred, hr.state]
  · obtain hxh | hxe := hcases _ hq
    · rw [hplaces.unique x hx _ hmem' (hxh.trans hid.symm)]
      exact not_deferred_of_holder hholder'
    · exact retried_not_deferred hr hh hx hxe

omit hh in
theorem apart_siblings : (s.siblings e.resource).Pairwise LockEntry.Apart := by
  cases hs : s.siblings e.resource with
  | nil => exact .nil
  | cons y l =>
    have hy : y ∈ s.siblings e.resource := hs ▸ List.mem_cons_self
    obtain ⟨hmem, hyr, hyd⟩ := mem_siblings.1 hy
    rw [← hs]
    exact (apart_of_named (hr.siblings y hmem hyr hyd).1).sublist List.filter_sublist

omit hh in
theorem apart_sibling {y : LockEntry} (hy : y ∈ s.siblings e.resource) : e.Apart y := by
  obtain ⟨hmem, hyr, hyd⟩ := mem_siblings.1 hy
  have hsymm : Std.Symm LockEntry.Apart := ⟨fun _ _ h => h.symm⟩
  refine (apart_of_named (hr.siblings y hmem hyr hyd).1).forall hr.mem hmem ?_
  rintro rfl
  simp [LockEntry.isDeferred, hr.state] at hyd

theorem inTurn_retried : InTurn ((s.timerGone e c sl p d).reevaluate e.id)
    ((s.timerGone e c sl p d).holderAfter h p) (s.siblings e.resource) := by
  have hplaces := retry_places hr hh
  obtain ⟨-, hres, hholder⟩ := holderOf_some hh
  obtain ⟨-, hres', -⟩ := holderAfter_facts (s := s.timerGone e c sl p d) hholder p
  refine ⟨hplaces.unique, hres'.symm ▸ hplaces.holder, fun y hy => ?_, apart_siblings hr⟩
  obtain ⟨hmem, hyr, hyd⟩ := mem_siblings.1 hy
  rw [← siblings_retried hr hh] at hy
  refine ⟨(mem_siblings.1 hy).1, hyr.trans (hres'.trans hres).symm, ?_, ?_⟩
  · cases hst : y.state with
    | deferred k sl p d => exact ⟨⟨y.id, y.resource, k, sl, p, d⟩, by simp [LockEntry.claimant, hst]⟩
    | _ => simp [LockEntry.isDeferred, hst] at hyd
  · have hn := wantsNothing_sibling hr hmem hyr hyd
    unfold State.WantsNothing
    rw [hplaces.wants, hplaces.queue]
    exact hn

/-- R24, R26, R28: the siblings are placed after the entry. -/
theorem retry_siblings (hrow : p = .nowait ∨ 0 < s.roomUnder h) :
    PlacedInTurn ((s.timerGone e c sl p d).reevaluate e.id) (s.expireClaimRetry e)
      ((s.timerGone e c sl p d).holderAfter h p) (s.siblings e.resource) := by
  have hplaced := foldl_inTurn _ _ _ (inTurn_retried hr hh)
  rw [retry_follows hr hh hrow]
  change PlacedInTurn _ ((((s.timerGone e c sl p d).reevaluate e.id).siblings e.resource).foldl
    (fun u y => u.reevaluate y.id) _) _ _
  rw [siblings_retried hr hh]
  exact hplaced

/-- R28: as the statement says it. -/
theorem retry_entriesPlacedUnder (hrow : p = .nowait ∨ 0 < s.roomUnder h) :
    EntriesPlacedUnder s (s.expireClaimRetry e) (s.holderAfter h p) (fun y => !y.isDeferred) := by
  obtain ⟨hmem, hres, hholder⟩ := holderOf_some hh
  obtain ⟨hid, hres', -⟩ := holderAfter_facts (s := s) hholder p
  have hsiblings : PlacedInTurn ((s.timerGone e c sl p d).reevaluate e.id) (s.expireClaimRetry e) (s.holderAfter h p)
      (s.siblings (s.holderAfter h p).resource) := by
    rw [hres', hres]
    exact retry_siblings hr hh hrow
  refine hsiblings.entriesPlacedUnder (retry_places hr hh).config (fun x hx hd hxh => ?_)
  rw [hr.unique x hx h hmem (hxh.trans hid), not_deferred_of_holder hholder] at hd
  exact nomatch hd

/-- R24 to R26: what becomes of the entry. -/
theorem retry_placed : PlacedAs s (s.expireClaimRetry e) h e ⟨e.id, e.resource, c, sl, p, d⟩ 0 ∧
    (s.expireClaimRetry e).queue = s.queue := by
  have hplaces := retry_places hr hh
  obtain ⟨hmem, -, hholder⟩ := holderOf_some hh
  by_cases hrow : p = .nowait ∨ 0 < s.roomUnder h
  · have hsiblings := retry_siblings hr hh hrow
    obtain ⟨hid, -, -⟩ := holderAfter_facts (s := s.timerGone e c sl p d) hholder p
    have heh : e.id ≠ h.id := fun hid => by
      rw [← hr.unique e hr.mem h hmem hid, isHolder_retryDue hr] at hholder
      exact nomatch hholder
    have hslot : e.slot = some sl := by simp [LockEntry.slot, LockEntry.claimant, hr.state]
    refine ⟨hplaces.placed.stands ?_ ?_, hsiblings.queue.trans hplaces.queue⟩
    · exact hsiblings.others _ (hid ▸ heh) (fun y hy => (apart_sibling hr hy).1.symm)
    · exact hsiblings.slots _ (fun y hy => (apart_sibling hr hy).2 _ hslot)
  · obtain ⟨hp, hfull⟩ := not_or.1 hrow
    rw [retry_full hr hh hp (Nat.eq_zero_of_not_pos hfull)]
    exact ⟨hplaces.placed, hplaces.queue⟩

/-- R25: the other entries stand where the entry is in retry pending again. -/
theorem retry_full_keeps (hp : p ≠ .nowait) (hfull : s.roomUnder h = 0) {x : LockEntry} (hx : x ∈ s.lock.entries)
    (hid : x.id ≠ e.id) : x ∈ (s.expireClaimRetry e).lock.entries := by
  have hplaces := retry_places hr hh
  obtain ⟨hmem, -, -⟩ := holderOf_some hh
  have hroom : (s.timerGone e c sl p d).roomUnder h = 0 := hfull
  have hafter : (s.timerGone e c sl p d).holderAfter h p = h := by
    rw [State.holderAfter, if_neg fun hasks => Nat.ne_of_gt hasks.2 hroom]
  rw [retry_full hr hh hp hfull]
  by_cases hxh : x.id = h.id
  · obtain rfl := hr.unique x hx h hmem hxh
    have hholder := hplaces.holder
    rw [hafter] at hholder
    exact (holderOf_some hholder).1
  · exact mem_of_entry ((hplaces.entry hxh hid).trans
      (entry_of_mem (timerGone_unique hr) (mem_setEntry_of_ne hx hid)))

end

/-! ### The statement's rows without a holder entry -/

/-- R27 to R29: the other entries stand. -/
theorem retry_keeps (hh : s.holderOf e.resource = none) {x : LockEntry} (hx : x ∈ s.lock.entries)
    (hid : x.id ≠ e.id) : x ∈ (s.expireClaimRetry e).lock.entries := by
  by_cases hc : ∃ y ∈ s.lock.entries, y.resource = e.resource ∧ y.isClaiming = true ∧ y.id ≠ e.id
  · obtain ⟨u, hlock, -, hbehind⟩ := retry_defers hr hh hc
    rw [hbehind.lock, hlock]
    exact mem_setEntry_of_ne hx hid
  · rw [(retry_claims hr hh (fun y hy hyr hyc => ?_)).lock, raiseWant_entries]
    · exact mem_setEntry_of_ne hx hid
    · by_contra hye
      exact hc ⟨y, hy, hyr, hyc, fun hid => hye (hr.unique y hy e hr.mem hid)⟩

/-- R29: what becomes of the entry. -/
theorem retry_claims_row (hh : s.holderOf e.resource = none)
    (hc : ∀ x ∈ s.lock.entries, x.resource = e.resource → x.isClaiming = true → x = e) :
    (s.expireClaimRetry e).entry e.id = some (e.timerGone c sl p d) ∧
      WantsFrame s (s.expireClaimRetry e) (.entry e.id) .claim ∧
      ((s.expireClaimRetry e).slot sl).result.station = none := by
  let v := (s.timerGone e c sl p d).setSlotStation sl none
  obtain ⟨hlock, hqueue, hstation⟩ := retry_claims hr hh hc
  have hkind : v.wantedKind (.entry e.id) = .claim := wantedKind_entry (entry_timerGone hr) rfl
  refine ⟨?_, ?_, hstation sl ?_⟩
  · unfold State.entry
    rw [hlock, raiseWant_entries]
    exact entry_timerGone hr
  · have hwants := raiseWant_wantsFrame hkind
    unfold WantsFrame at hwants ⊢
    rw [hlock, hqueue]
    exact hwants
  · unfold State.slot
    rw [raiseWant_ring]
    have hslot := slot_setSlotStation (s := s.timerGone e c sl p d) (i := sl) (x := none) sl
    rw [if_pos rfl] at hslot
    exact congrArg (fun x : Slot => x.result.station) hslot

/-- R27: what becomes of the entry. -/
theorem retry_defers_row (hh : s.holderOf e.resource = none)
    (hc : ∃ x ∈ s.lock.entries, x.resource = e.resource ∧ x.isClaiming = true ∧ x.id ≠ e.id) :
    (s.expireClaimRetry e).entry e.id = some { e with state := .deferred c sl p d } ∧
      (s.expireClaimRetry e).queue = s.queue := by
  obtain ⟨u, hlock, hqueue, hbehind⟩ := retry_defers hr hh hc
  refine ⟨?_, hbehind.queue.trans hqueue⟩
  unfold State.entry
  rw [hbehind.lock, hlock]
  exact entry_setEntry_self _ (entry_of_mem hr.unique hr.mem)

end

/-- Settles O38: the entry is placed by the row of step 7 that it finds, and its siblings in turn after it. -/
theorem claimRetryExpiryEvaluatesAgain : Obligations.ClaimRetryExpiryEvaluatesAgain := by
  intro i s e c sl p d n he hu hst hwants hframes hsiblings
  have hr : RetryDue s e c sl p d n := ⟨List.mem_of_find?_eq_some he, hu, hst, hwants, hframes, hsiblings⟩
  have room_pos : ∀ h : LockEntry, h.span.toNat < s.spanLimit → 0 < s.roomUnder h := fun h => Nat.sub_pos_of_lt
  have room_zero : ∀ h : LockEntry, s.spanLimit ≤ h.span.toNat → s.roomUnder h = 0 :=
    fun h => Nat.sub_eq_zero_of_le
  refine ⟨_, exec_claimRetryExpiry hr he, fun x hx hid hh => retry_keeps hr hh hx hid,
    fun h hh => ⟨fun ⟨hp, hspan⟩ => ?_, fun hp => ?_, fun ⟨hp, hspan⟩ x hx hid => ?_⟩,
    retry_claims_row hr, retry_defers_row hr, fun h hh hp hspan => ?_, fun h hh hp hspan => ?_, fun h hh hp => ?_⟩
  · have hroom := room_pos h hspan
    have hplaced := retry_entriesPlacedUnder hr hh (.inr hroom)
    rw [State.holderAfter, if_pos ⟨hp, hroom⟩] at hplaced
    exact hplaced
  · have hplaced := retry_entriesPlacedUnder hr hh (.inl hp)
    rw [State.holderAfter, if_neg fun hasks => hasks.1 hp] at hplaced
    exact hplaced
  · exact retry_full_keeps hr hh hp (room_zero h hspan) hx hid
  · obtain ⟨⟨-, hwaits, -⟩, hqueue⟩ := retry_placed hr hh
    obtain ⟨hentry, hstation⟩ := hwaits hp (room_pos h hspan)
    rw [BitVec.add_zero] at hentry
    exact ⟨hentry, hstation, hqueue⟩
  · obtain ⟨⟨-, -, hretries⟩, hqueue⟩ := retry_placed hr hh
    exact ⟨(hretries hp (Nat.le_of_eq (room_zero h hspan))).1, hqueue⟩
  · obtain ⟨⟨hbusy, -, -⟩, -⟩ := retry_placed hr hh
    obtain ⟨hgone, hdone, hresult⟩ := hbusy hp
    rw [Nat.zero_min, BitVec.add_zero] at hresult
    exact ⟨hgone, hdone, hresult⟩

end Sys2Proof.Machine
end

section
/-! PROOFS. The probe and grant retry timers (R59, R69, R70), and the local answer to a QUERY (R49, R156). -/

namespace Sys2Proof.Machine

open Sys2Proof

/-! ### The timers -/

section
variable {s : State} {e : LockEntry}

theorem wantedKind_handing {id : Nat} {v i o : Ticket} {g : Option Timer} (he : s.entry id = some e)
    (hst : e.state = .handing v i o g) : s.wantedKind (.entry id) = .grant := by
  simp [State.wantedKind, he, hst]

/-- R70: an immediate probe of a waiter. -/
theorem immediateProbe_waiting {c : Context} {sl : SlotIx} {g : Ticket} {h : StationNo} {ep : Option Epoch}
    {d pr : Option Timer} (hst : e.state = .waiting c sl g h ep d pr) :
    s.immediateProbe e = (s.setEntry e.id (.waiting c sl g h ep d none)).raiseWant (.entry e.id) := by
  simp [State.immediateProbe, hst]

theorem exec_probeTimerExpiry {i : SlotIx} (he : s.entryAt i = some e) (hp : e.probe.isSome = true) :
    exec (.probeTimerExpiry i) s = .next (s.immediateProbe e) := by
  simp [exec, execProbeTimerExpiry, he, hp]

theorem exec_grantRetryExpiry {r : Resource} {v j o : Ticket} {n : Timer} (he : s.holderOf r = some e)
    (hst : e.state = .handing v j o (some n)) : exec (.grantRetryExpiry r) s
      = .next ((s.setEntry e.id (.handing v j o none)).raiseWant (.entry e.id)) := by
  simp [exec, execGrantRetryExpiry, he, LockEntry.grantRetry, State.expireGrantRetry, hst]

end

/-- Settles O37, a clause for each timer that runs and each that does not. -/
theorem probeAndGrantRetryExpiriesWantTheirFrames : Obligations.ProbeAndGrantRetryExpiriesWantTheirFrames := by
  refine ⟨fun i s e c sl g h ep d n hat he hst => ?_, fun i s hnone => ?_,
    fun r s e v j o n hat he hst => ?_, fun r s hnone => ?_⟩
  · have hruns : e.probe.isSome = true := by simp [LockEntry.probe, hst]
    have hwants := raiseWant_wantsFrame (wantedKind_entry (entry_setEntry_self (.waiting c sl g h ep d none) he) rfl)
    refine ⟨_, (exec_probeTimerExpiry hat hruns).trans (congrArg _ (immediateProbe_waiting hst)),
      raiseWant_entries _ _, hwants, raiseWant_queries _ _, raiseWant_ring _ _, raiseWant_notices _ _,
      member_of_beyondLock (raiseWant_beyondLock _ _), link_of_beyondLock (raiseWant_beyondLock _ _)⟩
  · cases hat : s.entryAt i with
    | none => simp [exec, execProbeTimerExpiry, hat]
    | some e => simp [exec, execProbeTimerExpiry, hat, hnone e hat]
  · have hwants := raiseWant_wantsFrame (wantedKind_handing (entry_setEntry_self (.handing v j o none) he) rfl)
    refine ⟨_, exec_grantRetryExpiry hat hst, raiseWant_entries _ _, hwants, raiseWant_queries _ _, raiseWant_ring _ _,
      raiseWant_notices _ _,
      member_of_beyondLock (raiseWant_beyondLock _ _), link_of_beyondLock (raiseWant_beyondLock _ _)⟩
  · cases hat : s.holderOf r with
    | none => simp [exec, execGrantRetryExpiry, hat]
    | some e => simp [exec, execGrantRetryExpiry, hat, hnone e hat]

/-! ### A QUERY -/

/-- R26, R48: the context byte of an entry, as the statements say it. -/
theorem contextByte_of_context (h : LockEntry) :
    h.contextByte = match h.context with | some k => BitVec.ofNat 8 k.val | none => 0xFF := by
  unfold LockEntry.contextByte
  cases h.context with
  | none => rfl
  | some k => exact contextByte_eq k

section
variable (s : State) (id : Nat) (i : SlotIx) {r : Resource}

theorem queryRequest_offline (hm : s.member.station ≠ .member) :
    s.queryRequest id i r = s.completeBare i .offline := by
  simp [State.queryRequest, hm]

variable (hm : s.member.station = .member)
include hm

/-- R49: a QUERY under a holder entry of this station. -/
theorem queryRequest_answered {h : LockEntry} (hh : s.holderOf r = some h) : s.queryRequest id i r
    = s.complete i .answered (s.heldResult .answered none h.contextByte h.span) := by
  simp [State.queryRequest, hm, hh]

/-- R49: a QUERY that is sent. -/
theorem queryRequest_sent (hh : s.holderOf r = none) : s.queryRequest id i r
    = (s.withQueries (s.lock.queries ++ [⟨id, i, r, false⟩])).raiseWant (.query id) := by
  simp [State.queryRequest, hm, hh]

end

section
variable {s : State} {r : Resource}

/-- The slot at CURRENT stays PENDING after a taking that leaves the ring. -/
theorem advance_pending {u : State} (hring : u.ring = s.atTaking.ring) :
    u.advance = { u with ring := s.RingPending none } := by
  unfold State.advance
  rw [hring]
  rfl

end

/-- Settles O34: the three rows of a QUERY. -/
theorem queryIsAnsweredLocallyOrSent : Obligations.QueryIsAnsweredLocallyOrSent := by
  intro s r h
  let u := s.atTaking.withQueries (s.lock.queries ++ [⟨s.lock.takings, s.ring.current, r, false⟩])
  refine ⟨fun hm => ?_, fun hm e he => ?_, fun hm hh hwants hframes => ?_⟩
  · exact completesAtOnce h (queryRequest_offline s.atTaking _ _ hm) rfl
  · have hanswered : CompletesAtOnce s .answered
        ⟨none, none, some s.own, some e.contextByte, some ((e.issue - e.serve - 1).setWidth 8)⟩ :=
      completesAtOnce h (queryRequest_answered s.atTaking _ _ hm he) rfl
    rw [contextByte_of_context] at hanswered
    exact hanswered
  · have hsent : exec .taking s = .next (u.advance.raiseWant (.query s.lock.takings)) := by
      rw [exec_taking h, ← advance_raiseWant]
      exact congrArg (fun x : State => Host.Outcome.next x.advance) (queryRequest_sent s.atTaking _ _ hm hh)
    have hadvance : u.advance = { u with ring := s.RingPending none } := advance_pending rfl
    obtain ⟨-, hwant⟩ := raiseWant_wantsFrame (s := u.advance) (o := .query s.lock.takings) (k := .query) rfl
    have hnot : .query s.lock.takings ∉ s.lock.wants := by simpa using hwants
    refine ⟨_, hsent, raiseWant_entries _ _, raiseWant_queries _ _, ?_, raiseWant_notices _ _, hwant hnot hframes⟩
    rw [raiseWant_ring, hadvance]

end Sys2Proof.Machine
end

section
/-! PROOFS. The RELEASEs that pass no lock on (R50, R51). -/

namespace Sys2Proof.Machine

open Sys2Proof

section
variable {s : State} {i : SlotIx} {c : Context} {r : Resource}

theorem release_none (he : s.entryOf c r = none) : s.release i c r = s.completeBare i .notHolder := by
  simp [State.release, he]

section
variable {e : LockEntry} (he : s.entryOf c r = some e)
include he

/-- R50: an entry that still waits holds nothing. -/
theorem release_waits (hslot : e.slot.isSome = true) : s.release i c r = s.completeBare i .notHolder := by
  rw [slot_eq_claim] at hslot
  cases hst : e.state <;> simp [State.release, he, hst, EntryState.claim] at hslot ⊢

/-- R51: one acquisition of several. -/
theorem release_counts {k : Context} {n : Byte} {v j : Ticket} {w : Bool} (hst : e.state = .holding k n v j w)
    (hn : 1 < n.toNat) : s.release i c r
      = (s.setEntry e.id (.holding k (n - 1) v j w)).complete i .released (.counted .released (n - 1)) := by
  simp [State.release, he, hst, hn]

theorem release_lost {k : Context} {n : Byte} (hst : e.state = .lost k n) :
    s.release i c r = (s.freeEntry e.id).complete i .lost (.counted .lost n) := by
  simp [State.release, he, hst]

/-- R52: the last acquisition. -/
theorem release_last {k : Context} {v j : Ticket} {w : Bool} (hst : e.state = .holding k 1 v j w) :
    s.release i c r = (s.complete i .released (.counted .released 0)).releaseLock e := by
  simp [State.release, he, hst]

end

/-- R1: an entry that has no frame is freed: its want goes with it. -/
theorem freeEntry_unframed {id : Nat} (hf : s.hasFrame (.entry id) = false) :
    s.freeEntry id = (s.dropEntry id).withWants (s.lock.wants.filter (fun o => decide (o ≠ .entry id))) := by
  have hnone : s.queue.frames.find? (fun f => decide (f.owner = .lock (.entry id))) = none := by
    simpa [State.hasFrame] using hf
  have hnone' : ((s.dropEntry id).withWants
      (s.lock.wants.filter (fun o => decide (o ≠ .entry id)))).queue.frames.find?
        (fun f => decide (f.owner = .lock (.entry id))) = none := hnone
  unfold State.freeEntry State.withdrawOwner
  dsimp only
  split
  · rename_i f hsome
    exact nomatch hnone'.symm.trans hsome
  · rfl

/-- A taken RELEASE that completes after a change of the lock engine alone. -/
theorem taking_release {x : LockEngine} {k : Code} {a : SlotResult} (h : s.TakesRequest (.release c r))
    (hr : s.atTaking.release s.ring.current c r = (s.atTaking.withLock x).complete s.ring.current k a) :
    exec .taking s = .next { s with
      lock := x
      ring := s.RingDone { a with code := some k }
      notices := s.NotesDone k } := by
  rw [exec_taking h]
  refine congrArg _ ((congrArg State.advance hr).trans ?_)
  exact advance_complete (s := s) (u := s.atTaking.withLock x) k a rfl rfl h.1

end

/-- Settles O32, a clause for each state of the entry. -/
theorem releaseThatKeepsOrFindsNoLock : Obligations.ReleaseThatKeepsOrFindsNoLock := by
  intro s c r h
  refine ⟨fun he => ?_, fun e he => ⟨fun hslot => ?_, fun n v i w hst hn => ?_, fun n hst hf => ?_⟩⟩
  · exact completesAtOnce h (release_none (s := s.atTaking) he) rfl
  · exact completesAtOnce h (release_waits (s := s.atTaking) he hslot) rfl
  · exact taking_release h (release_counts (s := s.atTaking) he hst hn)
  · have hfree := freeEntry_unframed (s := s.atTaking) hf
    refine taking_release (k := .lost) (a := .counted .lost n) h ((release_lost (s := s.atTaking) he hst).trans ?_)
    exact congrArg (State.complete · s.ring.current .lost (.counted .lost n)) hfree

end Sys2Proof.Machine
end

section
/-! PROOFS. The answers of a holder entry (R42 to R48). -/

namespace Sys2Proof.Machine

open Sys2Proof

section
variable {s : State} {f : HeardFrame} {h : LockEntry} {r : Resource} {a : Option (BitVec 28)}

theorem setAnswer_eq (c : Option Nat) : s.setAnswer f a c = { s with link := s.Drives f a c } := rfl

theorem exec_answerStart (hl : s.link.state = .listeningAnswer f) (hd : f.demanded = false) :
    exec .answerStart s = .next (s.answerDemand f) := by
  simp [exec, execAnswerStart, hl, hd]

/-- R45: whether a probe's ticket is in queue, as the statements say it. -/
theorem inQueue_iff {v i k : Ticket} :
    inQueue v i k = true ↔ 1 ≤ (k - v).toNat ∧ (k - v).toNat < (i - v).toNat := by
  simp [inQueue]

section
variable (hh : s.holderOf r = some h)
include hh

theorem answerDemand_claim {c : Context} {p : Option Ticket} {w : Bool} (hc : f.content = .claim r c p w) :
    s.answerDemand f = s.answerClaim f h p w := by
  simp [State.answerDemand, hc, hh]

theorem answerDemand_query (hc : f.content = .query r) : s.answerDemand f
    = s.setAnswer f (s.ownAnswer .holder (h.contextByte ++ h.span.setWidth 8)) none := by
  simp [State.answerDemand, hc, hh]

/-- R42: a station that holds the resource takes no GRANT of it. -/
theorem answerDemand_grant {o i : Ticket} (hc : f.content = .grant r o i) :
    s.answerDemand f = s.setAnswer f none none := by
  simp [State.answerDemand, hc, hh]

end

/-- R43, R48: without a holder entry a CLAIM or QUERY draws no answer. -/
theorem answerDemand_silent (hc : (∃ c p w, f.content = .claim r c p w) ∨ f.content = .query r)
    (hh : s.holderOf r = none) : s.answerDemand f = s.setAnswer f none none := by
  obtain ⟨c, p, w, hc⟩ | hc := hc <;> simp [State.answerDemand, hc, hh]

/-! ### A CLAIM at a holder entry -/

theorem answerClaim_nowait : s.answerClaim f h none true = s.setAnswer f (s.ownAnswer .busy 0) none := rfl

theorem answerClaim_held (hroom : h.span.toNat < s.spanLimit) :
    s.answerClaim f h none false = (s.issueTicket h).setAnswer f (s.ownAnswer .held h.issue) none := by
  simp [State.answerClaim, hroom]

theorem answerClaim_full (hfull : s.spanLimit ≤ h.span.toNat) :
    s.answerClaim f h none false = s.setAnswer f (s.ownAnswer .full 0) none := by
  simp [State.answerClaim, Nat.not_lt.2 hfull]

theorem answerProbe_queued {k : Ticket} (w : Bool) (hq : inQueue h.serve h.issue k = true) :
    s.answerClaim f h (some k) w = s.setAnswer f (s.ownAnswer .held k) none := by
  simp [State.answerClaim, hq]

theorem answerProbe_requeued {k : Ticket} (w : Bool) (hq : inQueue h.serve h.issue k ≠ true)
    (hroom : h.span.toNat < s.spanLimit) : s.answerClaim f h (some k) w
      = (s.issueTicket h).setAnswer f (s.ownAnswer .requeued h.issue) none := by
  simp [State.answerClaim, hq, hroom]

theorem answerProbe_full {k : Ticket} (w : Bool) (hq : inQueue h.serve h.issue k ≠ true)
    (hfull : s.spanLimit ≤ h.span.toNat) :
    s.answerClaim f h (some k) w = s.setAnswer f (s.ownAnswer .full 0) none := by
  simp [State.answerClaim, hq, Nat.not_lt.2 hfull]

variable (hl : s.link.state = .listeningAnswer f) (hd : f.demanded = false)
include hl hd

theorem answersPlainly {k : AnswerCode} {x : BitVec 16}
    (ha : s.answerDemand f = s.setAnswer f (s.ownAnswer k x) none) : AnswersPlainly s f k x := by
  unfold AnswersPlainly
  rw [exec_answerStart hl hd, ha]
  rfl

theorem answersAndIssues {k : AnswerCode} (hholder : h.isHolder = true)
    (ha : s.answerDemand f = (s.issueTicket h).setAnswer f (s.ownAnswer k h.issue) none) :
    AnswersAndIssues s f h k := by
  unfold AnswersAndIssues
  rw [exec_answerStart hl hd, ha, issueTicket_eq hholder]
  rfl

end

/-- Settles O48, a clause for each frame: a NOWAIT and another fresh CLAIM, a probe, a QUERY, and a GRANT. -/
theorem holderAnswersClaimsProbesAndQueries : Obligations.HolderAnswersClaimsProbesAndQueries := by
  intro s f hl hd
  refine ⟨fun h r c hc hh => ?_, fun h r c hc hh => ⟨fun hroom => ?_, fun hfull => ?_⟩,
    fun h r c k w hc hh => ⟨fun hq => ?_, fun hq => ⟨fun hroom => ?_, fun hfull => ?_⟩⟩,
    fun h r hc hh => ?_, fun r hc hh => ?_, fun h r o i hc hh => ?_⟩
  · exact answersPlainly hl hd ((answerDemand_claim hh hc).trans answerClaim_nowait)
  · exact answersAndIssues hl hd (holderOf_some hh).2.2 ((answerDemand_claim hh hc).trans (answerClaim_held hroom))
  · exact answersPlainly hl hd ((answerDemand_claim hh hc).trans (answerClaim_full hfull))
  · exact answersPlainly hl hd ((answerDemand_claim hh hc).trans (answerProbe_queued w (inQueue_iff.2 hq)))
  · exact answersAndIssues hl hd (holderOf_some hh).2.2
      ((answerDemand_claim hh hc).trans (answerProbe_requeued w (mt inQueue_iff.1 hq) hroom))
  · exact answersPlainly hl hd
      ((answerDemand_claim hh hc).trans (answerProbe_full w (mt inQueue_iff.1 hq) hfull))
  · have hanswers := answersPlainly hl hd (answerDemand_query hh hc)
    rw [contextByte_of_context] at hanswers
    exact hanswers
  · rw [exec_answerStart hl hd, answerDemand_silent hc hh]
    rfl
  · rw [exec_answerStart hl hd, answerDemand_grant hh hc]
    rfl

end Sys2Proof.Machine
end

section
/-! PROOFS. The end of an own lock-engine frame's answer field (R15, R101, R102, R135), and the outcomes of a QUERY
(R49). -/

namespace Sys2Proof.Machine

open Sys2Proof

/-! ### The state in which an outcome is told -/

/-- R101, R102, R111: an own lock-engine frame has been answered: the own timers of a MEMBER restart, and the line is
idle. -/
def State.answeredAt (s : State) (z : LineAtEnd) : State :=
  (if s.member.station = .member then s.startOwnTimers else s).linkIdle z

/-- R135: and the frame of an age has left the queue, the oldest want taking its place. -/
def State.atOutcome (s : State) (age : Nat) (z : LineAtEnd) : State :=
  ((s.answeredAt z).withFrames (s.FramesWithout age)).admitWant

section
variable (s : State) (age : Nat) (z : LineAtEnd)

theorem answeredAt_eq :
    s.answeredAt z = { s with member := (s.answeredAt z).member, link := (s.answeredAt z).link } := by
  unfold State.answeredAt; split <;> rfl

@[simp] theorem answeredAt_lock : (s.answeredAt z).lock = s.lock := by rw [answeredAt_eq]
@[simp] theorem answeredAt_queue : (s.answeredAt z).queue = s.queue := by rw [answeredAt_eq]
@[simp] theorem answeredAt_config : (s.answeredAt z).config = s.config := by rw [answeredAt_eq]

theorem answeredAt_timers : OwnTimersRestart s (s.answeredAt z) := by
  unfold OwnTimersRestart State.answeredAt; split <;> rfl

theorem atOutcome_beyondLock : (s.atOutcome age z).beyondLock = (s.answeredAt z).beyondLock :=
  admitWant_beyondLock _

theorem atOutcome_timers : OwnTimersRestart s (s.atOutcome age z) :=
  (member_of_beyondLock (atOutcome_beyondLock s age z)).trans (answeredAt_timers s z)

@[simp] theorem atOutcome_config : (s.atOutcome age z).config = s.config :=
  (config_of_shell (shell_of_beyondLock (atOutcome_beyondLock s age z))).trans (answeredAt_config s z)

@[simp] theorem atOutcome_entries : (s.atOutcome age z).lock.entries = s.lock.entries :=
  (admitWant_entries _).trans (congrArg LockEngine.entries (answeredAt_lock s z))

end

theorem admitWant_queries (s : State) : s.admitWant.lock.queries = s.lock.queries := by
  unfold State.admitWant; split
  · rfl
  · split <;> rfl

/-- R135: the oldest want is admitted at a freed place. -/
theorem admitWant_places {s : State} {o : Owner} {rest : List Owner} (hw : s.lock.wants = o :: rest)
    (hroom : s.lockFrames < Config.lockPlaces) : s.admitWant = (s.withWants rest).placeLock o := by
  unfold State.admitWant
  rw [hw]
  exact if_pos hroom

section
variable {s : State} {age : Nat} {z : LineAtEnd}

@[simp] theorem atOutcome_queries : (s.atOutcome age z).lock.queries = s.lock.queries :=
  (admitWant_queries _).trans (congrArg LockEngine.queries (answeredAt_lock s z))

/-- R135: with no want waiting the place stays free. -/
theorem atOutcome_quiet (hw : s.lock.wants = []) :
    (s.atOutcome age z).lock.wants = [] ∧ (s.atOutcome age z).queue = s.QueueWithout age := by
  have hwants : ((s.answeredAt z).withFrames (s.FramesWithout age)).lock.wants = [] :=
    (congrArg LockEngine.wants (answeredAt_lock s z)).trans hw
  unfold State.atOutcome
  rw [admitWant_none hwants]
  refine ⟨hwants, ?_⟩
  unfold State.withFrames
  rw [answeredAt_queue]
  rfl

theorem wantedKind_of_wantsKind {u : State} {o : Owner} {k : FrameKind} (hk : s.WantsKind o k)
    (hu : u.lock.entries = s.lock.entries) : u.wantedKind o = k := by
  cases o with
  | query id => exact hk.symm
  | entry id =>
    obtain ⟨e, he, rfl⟩ := hk
    have he' : u.entry id = some e := by unfold State.entry; rw [hu]; exact he
    cases hst : e.state <;> simp [State.wantedKind, he', hst]

/-- R15, R135: of six lock-engine frames the one that leaves gives its place to the oldest want. -/
theorem atOutcome_admits {o : Owner} {rest : List Owner} {k : FrameKind} (hw : s.lock.wants = o :: rest)
    (hsix : s.SixLockFrames age) (hk : s.WantsKind o k) :
    (s.atOutcome age z).lock.wants = rest ∧ (s.atOutcome age z).queue = s.QueueAdmits age o k := by
  let u := (s.answeredAt z).withFrames (s.FramesWithout age)
  have hwants : u.lock.wants = o :: rest := (congrArg LockEngine.wants (answeredAt_lock s z)).trans hw
  have hroom : u.lockFrames < Config.lockPlaces := Nat.lt_of_le_of_lt (Nat.le_of_eq hsix.2) (by decide)
  have hentries : u.lock.entries = s.lock.entries := by rw [← answeredAt_lock s z]; rfl
  have hkind : (u.withWants rest).wantedKind o = k :=
    
    wantedKind_of_wantsKind hk hentries
  have hage : u.queue.nextAge = s.queue.nextAge := by rw [← answeredAt_queue s z]; rfl
  have hadmit : s.atOutcome age z = (u.withWants rest).placeLock o := admitWant_places hwants hroom
  rw [hadmit, State.placeLock, hkind]
  refine ⟨rfl, ?_⟩
  unfold State.QueueAdmits
  rw [← hage]
  rfl

end

/-! ### The outcome is told to the frame's owner -/

/-- R98: a lock-engine frame is no DEPART. -/
theorem departsOther_of_isLock {f : FrameRecord} (hf : f.kind.isLock = true) (own : StationNo) :
    f.departsOther own = false := by
  by_contra h
  obtain ⟨x, hx, -⟩ := departsOther_iff.1 (Bool.not_eq_false _ ▸ h)
  rw [(departNamed_eq_some.1 hx).1] at hf
  exact nomatch hf

/-- R127, R135: a lock-engine frame leaves, and the oldest want takes its place. -/
theorem leaveQueue_lock {s : State} {f : FrameRecord} (hf : f.kind.isLock = true) :
    s.leaveQueue f = (s.withFrames (s.FramesWithout f.age)).admitWant := by
  unfold State.leaveQueue State.removeFrame
  rw [departsOther_of_isLock hf, hf]
  rfl

/-- R101, R102: of the membership unit an own lock-engine frame restarts the own timers. -/
theorem ownAccepted_lock {s : State} {c : FrameContent} (hc : c.kind.isLock = true) :
    s.ownAccepted c = if s.member.station = .member then s.startOwnTimers else s := by
  cases c with
  | grant r o i => rfl
  | claim r k p w => rfl
  | query r => rfl
  | _ => exact nomatch hc

/-- R122, R136: the outcome of an own lock-engine frame, once the membership unit has been told and a freed place is
filled. -/
theorem exec_answerEnd_own {s : State} {o : OwnFrame} {f : FrameRecord} {line : AnswerLine}
    (hl : s.link.state = .sendingAnswer o) (hc : o.content.kind.isLock = true) (hf : s.frameAt o.age = some f)
    (hk : f.kind.isLock = true) : exec (.answerEnd line) s
      = .next ((s.atOutcome o.age line.atEnd).accepted f o.content (decodeAnswer o.content.kind line.field)) := by
  have htold : (s.ownAccepted o.content).linkIdle line.atEnd = s.answeredAt line.atEnd :=
    congrArg (State.linkIdle · line.atEnd) (ownAccepted_lock hc)
  have hfound : (s.answeredAt line.atEnd).frameAt o.age = some f := by
    unfold State.frameAt
    rw [answeredAt_queue]
    exact hf
  have hleaves : (s.answeredAt line.atEnd).leaveQueue f = s.atOutcome o.age line.atEnd := by
    rw [leaveQueue_lock hk, (frameAt_some hf).2]
    unfold State.atOutcome State.FramesWithout
    rw [answeredAt_queue]
  simp only [exec, execAnswerEnd, hl, State.ownFrameAccepted, htold, State.reportAccepted, hfound, hleaves]

/-! ### A QUERY -/

section
variable {s : State} {id : Nat} {q : PendingQuery} (hq : s.query id = some q)
include hq

theorem queryEnded_unowned : s.queryEnded id .none = (s.freeQuery id).completeBare q.slot .unowned := by
  simp [State.queryEnded, hq]

theorem queryEnded_answered {st : StationNo} {v : BitVec 16} (hv : s.validHolder st v = true) :
    s.queryEnded id (.code .holder st v) = (s.freeQuery id).complete q.slot .answered
      ⟨some .answered, none, some st, some (v.extractLsb' 8 8), some (v.extractLsb' 0 8)⟩ := by
  simp [State.queryEnded, hq, hv]

theorem queryEnded_damaged {a : Answer} (hnone : a ≠ .none)
    (hv : ∀ st v, a = .code .holder st v → s.validHolder st v = false) :
    s.queryEnded id a = (s.freeQuery id).completeBare q.slot .damaged := by
  cases a with
  | none => exact absurd rfl hnone
  | damaged => simp [State.queryEnded, hq]
  | code k st v =>
    cases k with
    | holder => simp [State.queryEnded, hq, hv st v rfl]
    | _ => simp [State.queryEnded, hq]

/-- R49: every answer ends the query. -/
theorem queryEnded_completes (a : Answer) :
    ∃ c r, s.queryEnded id a = (s.freeQuery id).complete q.slot c r := by
  by_cases hnone : a = .none
  · subst hnone
    exact ⟨_, _, queryEnded_unowned hq⟩
  · by_cases hv : ∀ st v, a = .code .holder st v → s.validHolder st v = false
    · exact ⟨_, _, queryEnded_damaged hq hnone hv⟩
    · simp only [not_forall, Bool.not_eq_false] at hv
      obtain ⟨st, v, rfl, hvalid⟩ := hv
      exact ⟨_, _, queryEnded_answered hq hvalid⟩

end

section
variable (v : BitVec 16)

/-- The context byte of a HOLDER's value. -/
theorem toNat_high : (v.extractLsb' 8 8).toNat = v.toNat / 256 := by
  have hlt := v.isLt
  rw [BitVec.extractLsb'_toNat, Nat.shiftRight_eq_div_pow, Nat.mod_eq_of_lt (by omega)]

/-- The span byte of a HOLDER's value. -/
theorem toNat_low : (v.extractLsb' 0 8).toNat = v.toNat % 256 := by
  rw [BitVec.extractLsb'_toNat, Nat.shiftRight_zero]

theorem high_eq : v.extractLsb' 8 8 = BitVec.ofNat 8 (v.toNat / 256) := by
  rw [← toNat_high, BitVec.ofNat_toNat, BitVec.setWidth_eq]

theorem low_eq : v.extractLsb' 0 8 = BitVec.ofNat 8 (v.toNat % 256) := by
  rw [← toNat_low, BitVec.ofNat_toNat, BitVec.setWidth_eq]

end

/-- R49: what a valid HOLDER says. -/
theorem validHolder_iff {s : State} {st : StationNo} {v : BitVec 16} : s.validHolder st v = true ↔
    s.OtherStation st ∧ (v.toNat / 256 ≤ 7 ∨ v.toNat / 256 = 255) ∧ v.toNat % 256 ≤ s.spanLimit := by
  have hff : v.extractLsb' 8 8 = 0xFF ↔ v.toNat / 256 = 255 := by
    rw [← toNat_high, ← BitVec.toNat_inj]
    rfl
  simp only [State.validHolder, State.validPeer, State.OtherStation, Bool.and_eq_true, Bool.or_eq_true,
    decide_eq_true_eq, toNat_high, toNat_low, hff, and_assoc]

section
variable {s : State} {id : Nat}

@[simp] theorem freeQuery_entries : (s.freeQuery id).lock.entries = s.lock.entries := withdrawOwner_entries _ _

/-- R15: a query that wants no frame is discarded: it leaves the list and nothing else changes. -/
theorem freeQuery_unwanted (hn : s.WantsNothing (.query id)) : s.freeQuery id = s.dropQuery id :=
  withdrawOwner_none (s := s.dropQuery id) hn.1 hn.2

/-- The frame of an owner is gone once it has left; what takes its place is another's. -/
theorem wantsNothing_atOutcome_quiet {o : Owner} {age : Nat} {z : LineAtEnd} (hw : s.lock.wants = [])
    (ho : ∀ g ∈ s.queue.frames, g.owner = .lock o → g.age = age) : (s.atOutcome age z).WantsNothing o := by
  obtain ⟨hwants, hqueue⟩ := atOutcome_quiet (age := age) (z := z) hw
  refine ⟨by rw [hwants]; exact List.not_mem_nil, fun g hg hgo => ?_⟩
  rw [hqueue] at hg
  obtain ⟨hmem, hage⟩ := List.mem_filter.1 hg
  exact of_decide_eq_true hage (ho g hmem hgo)

theorem wantsNothing_atOutcome_admits {o w : Owner} {rest : List Owner} {k : FrameKind} {age : Nat} {z : LineAtEnd}
    (hw : s.lock.wants = w :: rest) (hsix : s.SixLockFrames age) (hk : s.WantsKind w k) (ho : o ∉ s.lock.wants)
    (hage : ∀ g ∈ s.queue.frames, g.owner = .lock o → g.age = age) : (s.atOutcome age z).WantsNothing o := by
  obtain ⟨hwants, hqueue⟩ := atOutcome_admits (z := z) hw hsix hk
  rw [hw] at ho
  refine ⟨by rw [hwants]; exact fun h => ho (List.mem_cons_of_mem w h), fun g hg hgo => ?_⟩
  rw [hqueue] at hg
  obtain hg | hg := List.mem_append.1 hg
  · obtain ⟨hmem, hne⟩ := List.mem_filter.1 hg
    exact of_decide_eq_true hne (hage g hmem hgo)
  · rw [List.mem_singleton.1 hg] at hgo
    exact ho (FrameOwner.lock.inj hgo ▸ List.mem_cons_self)

end

/-- Settles O53: the query completes by its answer, and leaves with nothing wanted. -/
theorem queryOutcomes : Obligations.QueryOutcomes := by
  intro s age q f line hl hf hk ho hq
  let u := s.atOutcome age line.atEnd
  have hquery : u.query q.id = some q := by unfold State.query; rw [atOutcome_queries]; exact hq
  have hexec : exec (.answerEnd line) s = .next (u.queryEnded q.id (decodeAnswer .query line.field)) := by
    rw [exec_answerEnd_own hl rfl hf (by rw [hk]; rfl)]
    simp only [State.accepted, ho]
    rfl
  have hresult : ∀ {a c r}, u.queryEnded q.id a = (u.freeQuery q.id).complete q.slot c r →
      ((u.queryEnded q.id a).slot q.slot).result = { r with code := some c } := by
    intro a c r h
    rw [h, slot_complete, if_pos rfl]
  have hvalid : ∀ {st v}, u.validHolder st v = true ↔ s.OtherStation st ∧
      (v.toNat / 256 ≤ 7 ∨ v.toNat / 256 = 255) ∧ v.toNat % 256 ≤ s.spanLimit := by
    intro st v
    rw [validHolder_iff]
    simp only [State.OtherStation, State.own, State.spanLimit, u, atOutcome_config]
  obtain ⟨c, r, hends⟩ := queryEnded_completes hquery (decodeAnswer .query line.field)
  have hquiet (hn : u.WantsNothing (.query q.id)) :
      (u.queryEnded q.id (decodeAnswer .query line.field)).lock.wants = u.lock.wants ∧
        (u.queryEnded q.id (decodeAnswer .query line.field)).queue = u.queue := by
    rw [hends, complete_lock, complete_queue, freeQuery_unwanted hn]
    exact ⟨rfl, rfl⟩
  refine ⟨_, hexec, ?_, ?_, fun hnot hage => ⟨fun hw => ?_, fun o rest k hw hsix hk => ?_⟩, ?_, ?_, ?_⟩
  · rw [hends, complete_lock, freeQuery_entries]
    exact atOutcome_entries s age line.atEnd
  · exact (member_of_beyondLock (queryEnded_beyondLock u q.id _)).trans (atOutcome_timers s age line.atEnd)
  · obtain ⟨hwants, hqueue⟩ := hquiet (wantsNothing_atOutcome_quiet hw hage)
    obtain ⟨hwants', hqueue'⟩ := atOutcome_quiet (age := age) (z := line.atEnd) hw
    exact ⟨hwants.trans hwants', hqueue.trans hqueue'⟩
  · obtain ⟨hwants, hqueue⟩ := hquiet (wantsNothing_atOutcome_admits hw hsix hk hnot hage)
    obtain ⟨hwants', hqueue'⟩ := atOutcome_admits (z := line.atEnd) hw hsix hk
    exact ⟨hwants.trans hwants', hqueue.trans hqueue'⟩
  · rw [hends, complete_lock, freeQuery_queries]
    exact fun p hp => of_decide_eq_true (List.mem_filter.1 hp).2
  · rw [hends, slot_complete, if_pos rfl]
  · cases decodeAnswer .query line.field with
    | none => exact hresult (queryEnded_unowned hquery)
    | damaged => exact hresult (queryEnded_damaged (a := .damaged) hquery nofun nofun)
    | code k st v =>
      cases k with
      | holder =>
        refine ⟨fun hholds => ?_, fun hnot => ?_⟩
        · rw [← high_eq, ← low_eq]
          exact hresult (queryEnded_answered hquery (hvalid.2 hholds))
        · refine hresult (queryEnded_damaged (a := .code .holder st v) hquery nofun ?_)
          rintro _ _ ⟨⟩
          exact Bool.eq_false_iff.2 (mt hvalid.1 hnot)
      | _ => refine hresult (queryEnded_damaged hquery ?_ ?_) <;> nofun

end Sys2Proof.Machine
end

section
/-! PROOFS. A GRANT answered with a damaged field, beside a local waiter that has a frame with the age of the next
frame to come. -/

namespace Sys2Proof.Machine

open Sys2Proof

/-! ### Two local waiters, the later of which has a queued frame -/

/-- The HANDING entry, whose GRANT offers ticket 1 and carries issue 3. -/
def handsOn : LockEntry := ⟨0, 0, .handing 0 3 1 none, []⟩

def elderWaiter : LockEntry := ⟨1, 0, .waiting 1 1 1 0 none none none, []⟩

def youngerWaiter : LockEntry := ⟨2, 0, .waiting 2 2 2 0 none none none, []⟩

/-- The GRANT, in its answer field. -/
def ownGrant : FrameRecord := ⟨.grant, .lock (.entry 0), 0, 0, none, false⟩

/-- The GRANT in its answer field, the stray frame of the younger waiter queued behind it. No run from reset comes
here: a local waiter has no frame (R68), and the ages in the queue lie below the next one (`State.QueuesFit`), neither
of which the statement asks. -/
def grantBesideStray : State :=
  { State.reset with
    lock  := ⟨[handsOn, elderWaiter, youngerWaiter], [], [], 3⟩
    link  := ⟨.sendingAnswer ⟨0, .grant 0 1 3⟩, 0, 0, .recessive⟩
    queue := ⟨[ownGrant, strayFrame], 1⟩ }

/-- The answer field all zeros, whose check is wrong. -/
def damagedLine : AnswerLine := ⟨0, .released 0⟩

theorem grantBesideStray_uniqueIds : grantBesideStray.UniqueIds := by unfold State.UniqueIds; decide

theorem grantBesideStray_entries : ∀ x ∈ grantBesideStray.lock.entries, x.resource = handsOn.resource →
    x = handsOn ∨ grantBesideStray.WaitsHere handsOn.resource x ∨ x.RetriesClaim handsOn.resource := by
  intro x hx _
  obtain rfl | hx := List.mem_cons.1 hx
  · exact .inl rfl
  · obtain rfl | hx := List.mem_cons.1 hx
    · exact .inr (.inl ⟨rfl, 1, 1, 1, none, none, none, rfl⟩)
    · exact .inr (.inl (List.mem_singleton.1 hx ▸ ⟨rfl, 2, 2, 2, none, none, none, rfl⟩))

/-- No entry of the resource is in retry pending. -/
theorem grantBesideStray_retries : ∀ y ∈ grantBesideStray.lock.entries, ¬ y.RetriesClaim handsOn.resource := by
  rintro y hy ⟨-, c, sl, p, d, n, hst⟩
  have hclaims : ∀ z ∈ grantBesideStray.lock.entries, z.isClaiming = false := by decide
  have hy := hclaims y hy
  rw [LockEntry.isClaiming, hst] at hy
  exact nomatch hy

/-- Refutes O52 in its damaged outcome, on a state that no run reaches. The elder waiter claims afresh with a frame of
the age at which the younger one's stray frame is then withdrawn, both with it: it is left with neither a want nor a
frame. -/
theorem not_grantOutcomes : ¬ Obligations.GrantOutcomes := by
  intro h
  have hanswer : decodeAnswer .grant damagedLine.field = .damaged := by decide
  have hempty : EmptiesQueue (.answerEnd damagedLine) grantBesideStray = true := by decide +kernel
  obtain ⟨t, ht, -, -, -, houtcome⟩ := h grantBesideStray 0 handsOn 0 3 3 1 none ownGrant damagedLine rfl rfl rfl rfl
    List.mem_cons_self grantBesideStray_uniqueIds rfl grantBesideStray_entries (by decide)
  rw [hanswer] at houtcome
  obtain ⟨-, hwaiters⟩ := houtcome
  obtain ⟨-, hclaims⟩ := hwaiters [handsOn] elderWaiter [youngerWaiter] 1 1 1 none none none rfl rfl rfl
  obtain ⟨-, hserved⟩ := hclaims (by
    rintro y hy ⟨-, c, sl, k, ep, d, pr, hst⟩
    rw [List.mem_singleton.1 hy] at hst
    exact nomatch hst) grantBesideStray_retries
  simp only [EmptiesQueue, ht, Bool.and_eq_true, List.isEmpty_iff] at hempty
  obtain ⟨hwants, hframes⟩ := hempty
  rw [hwants, hframes] at hserved
  obtain hw | ⟨f, hf, -⟩ := hserved
  · exact nomatch hw
  · exact nomatch hf

end Sys2Proof.Machine
end

section
/-! PROOFS. What an evaluation under a holder entry leaves as it was, whatever frames its entries have (R4, R23 to R26,
R133, R134): the entries, slots and frames on the link that are not its own. -/

namespace Sys2Proof.Machine

open Sys2Proof

/-! ### What is left as it was -/

/-- An entry is as it was, but for the tickets that a holder entry has issued. -/
structure LockEntry.Keeps (x y : LockEntry) : Prop where
  id       : y.id = x.id
  resource : y.resource = x.resource
  holder   : y.isHolder = x.isHolder
  other    : x.isHolder = false → y = x
  holding  : ∀ c n v i w, x.state = .holding c n v i w → ∃ i' w', y.state = .holding c n v i' w'

/-- Of the frames of s, those on the link are among the frames given, a marked one as marked; and these were frames of s
before. -/
structure LinkFramesStay (s : State) (frames : List FrameRecord) : Prop where
  stays : ∀ f ∈ s.queue.frames, s.onLink f = true →
    ∃ g ∈ frames, g.owner = f.owner ∧ g.age = f.age ∧ (f.withdrawn = true → g.withdrawn = true)
  came  : ∀ g ∈ frames, ∃ f ∈ s.queue.frames, f.owner = g.owner ∧ f.age = g.age

/-- With no want waiting, nothing but what belongs to the entries of a list has changed from s to t, the tickets of
holder entries and the frames off the link apart. -/
structure Spares (s t : State) (l : List LockEntry) : Prop where
  beyond : t.beyondLock = s.beyondLock
  unique : t.UniqueIds
  wants  : t.lock.wants = []
  came   : ∀ x ∈ t.lock.entries, ∃ y ∈ s.lock.entries,
    y.id = x.id ∧ y.resource = x.resource ∧ ∀ i, x.slot = some i → y.slot = some i
  stays  : ∀ x ∈ s.lock.entries, (∀ z ∈ l, z.id ≠ x.id) → ∃ y ∈ t.lock.entries, x.Keeps y
  slots  : ∀ i, (∀ z ∈ l, z.slot ≠ some i) → t.slot i = s.slot i
  frames : LinkFramesStay s t.queue.frames

theorem LockEntry.Keeps.refl (x : LockEntry) : x.Keeps x :=
  ⟨rfl, rfl, rfl, fun _ => rfl, fun _ _ _ i w h => ⟨i, w, h⟩⟩

theorem LockEntry.Keeps.trans {x y z : LockEntry} (h : x.Keeps y) (h' : y.Keeps z) : x.Keeps z := by
  refine ⟨h'.id.trans h.id, h'.resource.trans h.resource, h'.holder.trans h.holder, fun hx => ?_,
    fun c n v i w hst => ?_⟩
  · exact (h'.other (h.holder.trans hx)).trans (h.other hx)
  · obtain ⟨i', w', hst'⟩ := h.holding c n v i w hst
    exact h'.holding c n v i' w' hst'

theorem LockEntry.keeps_issued {h : LockEntry} (hh : h.isHolder = true) : h.Keeps h.issued := by
  refine ⟨rfl, rfl, (issued_facts hh).1.trans hh.symm, fun hno => absurd (hh.symm.trans hno) nofun,
    fun c n v i w hst => ⟨i + 1, w || decide (i - v - 1 = 0), ?_⟩⟩
  simp [LockEntry.issued, LockEntry.Issued, hst]

theorem LinkFramesStay.refl (s : State) : LinkFramesStay s s.queue.frames :=
  ⟨fun f hf _ => ⟨f, hf, rfl, rfl, id⟩, fun g hg => ⟨g, hg, rfl, rfl⟩⟩

/-- Whether a frame is on the link is a matter of its age. -/
theorem onLink_congr {s t : State} {f g : FrameRecord} (hl : t.link = s.link) (ha : g.age = f.age) :
    t.onLink g = s.onLink f := by
  unfold State.onLink
  rw [hl, ha]

section
variable {s t u : State} {l l' : List LockEntry}

theorem ownerOnLink_iff {o : Owner} :
    s.ownerOnLink o = true ↔ ∃ f ∈ s.queue.frames, f.owner = .lock o ∧ s.onLink f = true := by
  simp [State.ownerOnLink]

theorem LinkFramesStay.trans {frames : List FrameRecord} (h : LinkFramesStay s t.queue.frames)
    (hl : t.link = s.link) (h' : LinkFramesStay t frames) : LinkFramesStay s frames := by
  refine ⟨fun f hf hlink => ?_, fun g hg => ?_⟩
  · obtain ⟨g, hg, hgo, hga, hgw⟩ := h.stays f hf hlink
    obtain ⟨k, hk, hko, hka, hkw⟩ := h'.stays g hg ((onLink_congr hl hga).trans hlink)
    exact ⟨k, hk, hko.trans hgo, hka.trans hga, fun hw => hkw (hgw hw)⟩
  · obtain ⟨k, hk, hko, hka⟩ := h'.came g hg
    obtain ⟨f, hf, hfo, hfa⟩ := h.came k hk
    exact ⟨f, hf, hfo.trans hko, hfa.trans hka⟩

/-- A frame that was on the link is there still. -/
theorem LinkFramesStay.ownerOnLink (h : LinkFramesStay s t.queue.frames) (hl : t.link = s.link) {o : Owner}
    (ho : s.ownerOnLink o = true) : t.ownerOnLink o = true := by
  obtain ⟨f, hf, hfo, hlink⟩ := ownerOnLink_iff.1 ho
  obtain ⟨g, hg, hgo, hga, -⟩ := h.stays f hf hlink
  exact ownerOnLink_iff.2 ⟨g, hg, hgo.trans hfo, (onLink_congr hl hga).trans hlink⟩

/-- No owner has got another frame. -/
theorem LinkFramesStay.oneFrame (h : LinkFramesStay s t.queue.frames) {o : Owner} (ho : s.OneFrame o) :
    t.OneFrame o := by
  intro f hf g hg hfo hgo
  obtain ⟨f', hf', hfo', hfa⟩ := h.came f hf
  obtain ⟨g', hg', hgo', hga⟩ := h.came g hg
  exact hfa.symm.trans ((ho f' hf' g' hg' (hfo'.trans hfo) (hgo'.trans hgo)).trans hga)

theorem Spares.refl (hu : s.UniqueIds) (hw : s.lock.wants = []) : Spares s s l :=
  ⟨rfl, hu, hw, fun x hx => ⟨x, hx, rfl, rfl, fun _ h => h⟩, fun x hx _ => ⟨x, hx, .refl x⟩, fun _ _ => rfl, .refl s⟩

theorem Spares.trans (h : Spares s t l) (h' : Spares t u l) : Spares s u l := by
  refine ⟨h'.beyond.trans h.beyond, h'.unique, h'.wants, fun x hx => ?_, fun x hx hid => ?_,
    fun i hi => (h'.slots i hi).trans (h.slots i hi), h.frames.trans (link_of_beyondLock h.beyond) h'.frames⟩
  · obtain ⟨y, hy, hyid, hyr, hys⟩ := h'.came x hx
    obtain ⟨z, hz, hzid, hzr, hzs⟩ := h.came y hy
    exact ⟨z, hz, hzid.trans hyid, hzr.trans hyr, fun i hi => hzs i (hys i hi)⟩
  · obtain ⟨y, hy, hxy⟩ := h.stays x hx hid
    obtain ⟨z, hz, hyz⟩ := h'.stays y hy (fun z hz => hxy.id ▸ hid z hz)
    exact ⟨z, hz, hxy.trans hyz⟩

/-- A list may be widened to one that has its places and the slots that it names. -/
theorem Spares.widen (h : Spares s t l)
    (hl : ∀ z ∈ l, ∃ z' ∈ l', z'.id = z.id ∧ ∀ i, z.slot = some i → z'.slot = some i) : Spares s t l' := by
  refine ⟨h.beyond, h.unique, h.wants, h.came, fun x hx hid => h.stays x hx fun z hz => ?_,
    fun i hi => h.slots i fun z hz hzi => ?_, h.frames⟩
  · obtain ⟨z', hz', hsame, -⟩ := hl z hz
    exact hsame ▸ hid z' hz'
  · obtain ⟨z', hz', -, hslot⟩ := hl z hz
    exact hi z' hz' (hslot i hzi)

theorem Spares.mono (h : Spares s t l) (hl : l ⊆ l') : Spares s t l' :=
  h.widen fun z hz => ⟨z, hl hz, rfl, fun _ h => h⟩

/-- An entry that holds nothing and is none of the list's stays as it is. -/
theorem Spares.mem (h : Spares s t l) {x : LockEntry} (hx : x ∈ s.lock.entries) (hno : x.isHolder = false)
    (hid : ∀ z ∈ l, z.id ≠ x.id) : x ∈ t.lock.entries := by
  obtain ⟨y, hy, hxy⟩ := h.stays x hx hid
  exact hxy.other hno ▸ hy

end

/-! ### One change of one block -/

section
variable {s t : State} {l : List LockEntry} (hu : s.UniqueIds) (hw : s.lock.wants = [])
include hu hw

/-- Slots that the list's entries name, and notices. -/
theorem Spares.of_slots (hlock : t.lock = s.lock) (hqueue : t.queue = s.queue) (hb : t.beyondLock = s.beyondLock)
    (hslots : ∀ i, (∀ z ∈ l, z.slot ≠ some i) → t.slot i = s.slot i) : Spares s t l := by
  have hrefl := Spares.refl (l := l) hu hw
  refine ⟨hb, ?_, by rw [hlock]; exact hw, ?_, ?_, hslots, by rw [hqueue]; exact .refl s⟩
  · unfold State.UniqueIds
    rw [hlock]
    exact hu
  · rw [hlock]
    exact hrefl.came
  · rw [hlock]
    exact hrefl.stays

theorem Spares.of_complete {z : LockEntry} (hz : z ∈ l) {i : SlotIx} (hi : z.slot = some i) (c : Code)
    (r : SlotResult) : Spares s (s.complete i c r) l :=
  .of_slots hu hw (complete_lock _ _ _) (complete_queue _ _ _) (complete_beyondLock _ _ _ _) fun j hj => by
    rw [slot_complete, if_neg (by rintro rfl; exact hj z hz hi)]

theorem Spares.of_setSlotStation {z : LockEntry} (hz : z ∈ l) {i : SlotIx} (hi : z.slot = some i)
    (x : Option StationNo) : Spares s (s.setSlotStation i x) l :=
  .of_slots hu hw rfl rfl rfl fun j hj => by
    rw [slot_setSlotStation, if_neg (by rintro rfl; exact hj z hz hi)]

theorem Spares.of_frames {frames : List FrameRecord} (h : LinkFramesStay s frames) :
    Spares s (s.withFrames frames) l :=
  ⟨rfl, hu, hw, (Spares.refl (l := l) hu hw).came, (Spares.refl (l := l) hu hw).stays, fun _ _ => rfl, h⟩

theorem Spares.of_dropEntry {z : LockEntry} (hz : z ∈ l) : Spares s (s.dropEntry z.id) l :=
  ⟨rfl, uniqueIds_dropEntry hu, hw, fun x hx => ⟨x, List.mem_of_mem_filter hx, rfl, rfl, fun _ h => h⟩,
    fun x hx hid => ⟨x, List.mem_filter.2 ⟨hx, decide_eq_true (hid z hz).symm⟩, .refl x⟩, fun _ _ => rfl, .refl s⟩

/-- An entry is restated, and names the slot that it named before or none. -/
theorem Spares.of_setEntry {z : LockEntry} (hz : z ∈ l) {st : EntryState}
    (hst : ∀ x ∈ s.lock.entries, x.id = z.id → ∀ i, ({ x with state := st } : LockEntry).slot = some i →
      x.slot = some i) : Spares s (s.setEntry z.id st) l := by
  refine ⟨rfl, uniqueIds_setEntry hu, hw, fun x hx => ?_,
    fun x hx hid => ⟨x, mem_setEntry_of_ne hx (hid z hz).symm, .refl x⟩, fun _ _ => rfl, .refl s⟩
  obtain ⟨y, hy, rfl⟩ := List.mem_map.1 hx
  refine ⟨y, hy, ?_⟩
  split
  · rename_i hid
    exact ⟨rfl, rfl, hst y hy hid⟩
  · exact ⟨rfl, rfl, fun _ h => h⟩

/-- R47: a holder entry issues a ticket. -/
theorem Spares.of_issueTicket {h : LockEntry} (hh : h.isHolder = true) (hmem : h ∈ s.lock.entries) :
    Spares s (s.issueTicket h) l := by
  rw [issueTicket_eq hh]
  refine ⟨rfl, uniqueIds_setEntry (s := s) hu, hw, fun x hx => ?_, fun x hx _ => ?_, fun _ _ => rfl, .refl s⟩
  · obtain ⟨y, hy, rfl⟩ := List.mem_map.1 hx
    refine ⟨y, hy, ?_⟩
    split
    · rename_i hid
      refine ⟨rfl, rfl, fun i hi => ?_⟩
      rw [hu y hy h hmem hid] at hi
      have hnone : h.issued.slot = none := (facts_of_holder (issued_facts hh).1).1
      exact nomatch hnone.symm.trans hi
    · exact ⟨rfl, rfl, fun _ h => h⟩
  · refine ⟨_, List.mem_map.2 ⟨x, hx, rfl⟩, ?_⟩
    split
    · rename_i hid
      rw [hu x hx h hmem hid]
      exact LockEntry.keeps_issued hh
    · exact .refl x

omit hu in
theorem withWants_filter_nil (q : Owner → Bool) : s.withWants (s.lock.wants.filter q) = s := by
  have hnil : s.lock.wants.filter q = s.lock.wants := by rw [hw]; rfl
  rw [hnil]
  rfl

omit hu in
/-- R15, R133, R134: with no want waiting, a withdrawal removes frames off the link or marks those on it. -/
theorem withdrawOwner_quiet (o : Owner) :
    ∃ frames, s.withdrawOwner o = s.withFrames frames ∧ LinkFramesStay s frames := by
  unfold State.withdrawOwner
  simp only [withWants_filter_nil hw]
  split
  · rename_i f _
    unfold State.withdrawFrame
    split
    · refine ⟨_, rfl, fun g hg _ => ?_, fun g hg => ?_⟩
      · refine ⟨_, List.mem_map.2 ⟨g, hg, rfl⟩, ?_⟩
        split
        · exact ⟨rfl, rfl, fun _ => rfl⟩
        · exact ⟨rfl, rfl, id⟩
      · obtain ⟨k, hk, rfl⟩ := List.mem_map.1 hg
        refine ⟨k, hk, ?_⟩
        split <;> exact ⟨rfl, rfl⟩
    · rename_i hoff
      refine ⟨_, removeFrame_none f hw, fun g hg hon => ?_, fun g hg => ⟨g, List.mem_of_mem_filter hg, rfl, rfl⟩⟩
      refine ⟨g, List.mem_filter.2 ⟨hg, decide_eq_true fun hage => hoff ?_⟩, rfl, rfl, id⟩
      exact (onLink_congr rfl hage.symm).trans hon
  · exact ⟨s.queue.frames, rfl, .refl s⟩

end

/-! ### An evaluation under a holder entry -/

section
variable {s : State} {h : LockEntry} {e : LockEntry} {c : Claimant} {l : List LockEntry}

/-- R1: a claim is freed. -/
theorem Spares.of_freeEntry (hu : s.UniqueIds) (hw : s.lock.wants = []) (hz : e ∈ l) :
    Spares s (s.freeEntry e.id) l := by
  obtain ⟨frames, hframes, hstay⟩ := withdrawOwner_quiet (s := s.dropEntry e.id) hw (.entry e.id)
  have hdrop := Spares.of_dropEntry (s := s) hu hw hz
  unfold State.freeEntry
  rw [hframes]
  exact hdrop.trans (.of_frames hdrop.unique hdrop.wants hstay)

/-- A claim restated as a claim names its slot still. -/
theorem slot_restated (hu : s.UniqueIds) (he : e ∈ s.lock.entries) (hc : e.claimant = some c) {st : EntryState}
    (hst : st.claim = some (c.context, c.slot)) : ∀ x ∈ s.lock.entries, x.id = e.id →
      ∀ i, ({ x with state := st } : LockEntry).slot = some i → x.slot = some i := by
  intro x hx hid i hi
  rw [hu x hx e he hid, slot_of_claimant hc]
  rw [slot_eq_claim, hst] at hi
  exact hi

/-- R23 to R26: step 7 under a holder entry, of an entry that is there. -/
theorem Spares.of_evaluate (hu : s.UniqueIds) (hw : s.lock.wants = []) (he : e ∈ s.lock.entries) (hl : e ∈ l)
    (hc : e.claimant = some c) (hh : s.holderOf e.resource = some h) : Spares s (s.evaluate c) l := by
  obtain ⟨-, hid, hr⟩ := claim_of_claimant hc
  obtain ⟨hmem, -, hholder⟩ := holderOf_some hh
  have hslot := slot_of_claimant hc
  have hput : ∀ (st : EntryState) (x : Option StationNo), st.claim = some (c.context, c.slot) →
      Spares s ((s.putEntry c st).setSlotStation c.slot x) l := by
    intro st x hst
    rw [putEntry_present c st he hid.symm, hid]
    have hset := Spares.of_setEntry hu hw hl (slot_restated hu he hc hst)
    exact hset.trans (.of_setSlotStation hset.unique hset.wants hl hslot x)
  by_cases hp : c.policy = .nowait
  · rw [evaluate_busy (hr ▸ hh) hp, hid]
    have hfree := Spares.of_freeEntry hu hw hl
    exact hfree.trans (.of_complete hfree.unique hfree.wants hl hslot _ _)
  · by_cases hroom : h.span.toNat < s.spanLimit
    · rw [evaluate_ticket (hr ▸ hh) hp hroom]
      have hwaits := hput (.waiting c.context c.slot h.issue s.own none c.deadline none) (some s.own) rfl
      refine hwaits.trans (.of_issueTicket hwaits.unique hwaits.wants hholder ?_)
      rw [putEntry_present c _ he hid.symm, hid]
      exact mem_setEntry_of_ne hmem (holder_id_ne hu hh he hc)
    · rw [evaluate_full (hr ▸ hh) hp (Nat.not_lt.1 hroom)]
      exact hput (.claiming c.context c.slot c.policy c.deadline (some s.probeInterval)) none rfl

/-- R4, R23 to R26: an entry is evaluated again, or its CLAIM on the link is marked. -/
theorem Spares.of_reevaluate (hu : s.UniqueIds) (hw : s.lock.wants = []) (he : e ∈ s.lock.entries) (hl : e ∈ l)
    (hh : s.holderOf e.resource = some h) : Spares s (s.reevaluate e.id) l := by
  have hentry := entry_of_mem hu he
  cases hc : e.claimant with
  | none =>
    have hsame : s.reevaluate e.id = s := by simp [State.reevaluate, hentry, hc]
    rw [hsame]
    exact .refl hu hw
  | some c =>
    obtain ⟨frames, hframes, hstay⟩ := withdrawOwner_quiet hw (.entry e.id)
    have hwithdraws := Spares.of_frames (l := l) hu hw hstay
    simp only [State.reevaluate, hentry, hc, hframes]
    split
    · exact hwithdraws
    · exact hwithdraws.trans (.of_evaluate (s := s.withFrames frames) hu hw he hl hc hh)

end

/-! ### Entries evaluated in turn -/

/-- The entries of a list are evaluated again, in their order. -/
def State.evaluateInTurn (s : State) (l : List LockEntry) : State := l.foldl (fun u z => u.reevaluate z.id) s

theorem evaluateInTurn_append (s : State) (l l' : List LockEntry) :
    s.evaluateInTurn (l ++ l') = (s.evaluateInTurn l).evaluateInTurn l' := List.foldl_append

/-- Resource r has a holder entry that is none of a list's. -/
def HeldBeside (s : State) (r : Resource) (l : List LockEntry) : Prop :=
  ∃ x ∈ s.lock.entries, x.resource = r ∧ x.isHolder = true ∧ ∀ z ∈ l, z.id ≠ x.id

/-- The entries of s with the places of a list's entries are of resource r and name their slots or none. -/
def StandsFor (s : State) (r : Resource) (l : List LockEntry) : Prop :=
  ∀ z ∈ l, ∀ x ∈ s.lock.entries, x.id = z.id → x.resource = r ∧ ∀ i, x.slot = some i → z.slot = some i

section
variable {s t : State} {r : Resource} {l : List LockEntry}

theorem Spares.standsFor {l' : List LockEntry} (h : Spares s t l') (hl : StandsFor s r l) : StandsFor t r l := by
  intro z hz x hx hid
  obtain ⟨y, hy, hyid, hyr, hys⟩ := h.came x hx
  obtain ⟨hr, hslot⟩ := hl z hz y hy (hyid.trans hid)
  exact ⟨hyr.symm.trans hr, fun i hi => hslot i (hys i hi)⟩

/-- A holder entry that is none of the list's stays the resource's, with the tickets it issues. -/
theorem Spares.heldBeside (h : Spares s t l) (hh : HeldBeside s r l) : HeldBeside t r l := by
  obtain ⟨x, hx, hr, hholder, hid⟩ := hh
  obtain ⟨y, hy, hxy⟩ := h.stays x hx hid
  exact ⟨y, hy, hxy.resource.trans hr, hxy.holder.trans hholder, fun z hz => hxy.id ▸ hid z hz⟩

theorem HeldBeside.mono {l' : List LockEntry} (h : HeldBeside s r l) (hl : l' ⊆ l) : HeldBeside s r l' := by
  obtain ⟨x, hx, hr, hholder, hid⟩ := h
  exact ⟨x, hx, hr, hholder, fun z hz => hid z (hl hz)⟩

theorem StandsFor.mono {l' : List LockEntry} (h : StandsFor s r l) (hl : l' ⊆ l) : StandsFor s r l' :=
  fun z hz => h z (hl hz)

theorem holderOf_isSome {x : LockEntry} (hx : x ∈ s.lock.entries) (hh : x.isHolder = true) :
    ∃ h, s.holderOf x.resource = some h := by
  cases hf : s.holderOf x.resource with
  | some h => exact ⟨h, rfl⟩
  | none => exact nomatch (holderOf_none hf x hx rfl).symm.trans hh

/-- The list's entries are evaluated in turn, where their resource has a holder entry that is none of them. -/
theorem Spares.of_evaluateInTurn (hu : s.UniqueIds) (hw : s.lock.wants = []) (hl : StandsFor s r l)
    (hh : HeldBeside s r l) : Spares s (s.evaluateInTurn l) l := by
  have key : ∀ l' ⊆ l, ∀ u, Spares s u l → Spares s (u.evaluateInTurn l') l := by
    intro l'
    induction l' with
    | nil => exact fun _ u hsu => hsu
    | cons z l' ih =>
      intro hsub u hsu
      refine ih (fun x hx => hsub (List.mem_cons_of_mem z hx)) _ (hsu.trans ?_)
      change Spares u (u.reevaluate z.id) l
      have hz : z ∈ l := hsub List.mem_cons_self
      cases hentry : u.entry z.id with
      | none =>
        have hsame : u.reevaluate z.id = u := by simp [State.reevaluate, hentry]
        rw [hsame]
        exact .refl hsu.unique hsu.wants
      | some e =>
        have he := mem_of_entry hentry
        have hid := id_of_entry hentry
        obtain ⟨hr, hslot⟩ := (hsu.standsFor hl) z hz e he hid
        obtain ⟨x, hx, hxr, hholder, -⟩ := hsu.heldBeside hh
        obtain ⟨h, hfound⟩ := holderOf_isSome hx hholder
        have hstep := Spares.of_reevaluate (l := [e]) hsu.unique hsu.wants he List.mem_cons_self
          (by rw [hr, ← hxr]; exact hfound)
        rw [hid] at hstep
        refine hstep.widen fun y hy => ⟨z, hz, ?_⟩
        rw [List.mem_singleton.1 hy]
        exact ⟨hid.symm, hslot⟩
  exact key l (fun _ h => h) s (.refl hu hw)

end

/-! ### A CLAIM on the link (R133, R134) -/

section
variable {s : State} {e : LockEntry} {c : Claimant}

/-- R4, R134: an entry whose frames are on the link stays, and they are marked. -/
theorem reevaluate_marks (hu : s.UniqueIds) (hw : s.lock.wants = []) (he : e ∈ s.lock.entries)
    (hc : e.claimant = some c) (hlink : s.ownerOnLink (.entry e.id) = true) (hone : s.OneFrame (.entry e.id)) :
    e ∈ (s.reevaluate e.id).lock.entries ∧ ∃ g ∈ (s.reevaluate e.id).queue.frames,
      g.owner = .lock (.entry e.id) ∧ (s.reevaluate e.id).onLink g = true ∧ g.withdrawn = true := by
  have hwithdraws : s.reevaluate e.id = s.withdrawOwner (.entry e.id) := by
    simp [State.reevaluate, entry_of_mem hu he, hc, hlink]
  obtain ⟨k, hk, hko, hkl⟩ := ownerOnLink_iff.1 hlink
  rw [hwithdraws, withdrawOwner_entries]
  refine ⟨he, ?_⟩
  unfold State.withdrawOwner
  simp only [withWants_filter_nil hw]
  split
  · rename_i f hf
    have hfo : f.owner = .lock (.entry e.id) := by
      simpa using List.find?_some hf
    have hage := hone f (List.mem_of_find?_eq_some hf) k hk hfo hko
    have hfl : s.onLink f = true := (onLink_congr rfl hage).trans hkl
    rw [State.withdrawFrame, if_pos hfl]
    exact ⟨_, List.mem_map.2 ⟨k, hk, if_pos hage.symm⟩, hko, hkl, rfl⟩
  · rename_i hf
    have hnot := List.find?_eq_none.1 hf k hk
    exact absurd (decide_eq_true hko) hnot

/-- R4, R134: of entries evaluated in turn, one whose frames are on the link stays, and they are marked. -/
theorem evaluateInTurn_marks {r : Resource} {l : List LockEntry} (hu : s.UniqueIds) (hw : s.lock.wants = [])
    (hl : StandsFor s r l) (hh : HeldBeside s r l) (hids : l.Pairwise (fun x z => x.id ≠ z.id)) (hel : e ∈ l)
    (he : e ∈ s.lock.entries) (hc : e.claimant = some c) (hlink : s.ownerOnLink (.entry e.id) = true)
    (hone : s.OneFrame (.entry e.id)) : e ∈ (s.evaluateInTurn l).lock.entries ∧
      ∃ g ∈ (s.evaluateInTurn l).queue.frames,
        g.owner = .lock (.entry e.id) ∧ s.onLink g = true ∧ g.withdrawn = true := by
  obtain ⟨l₁, l₂, rfl⟩ := List.append_of_mem hel
  have hno := isHolder_of_claimant hc
  obtain ⟨-, hrest, hbefore⟩ := List.pairwise_append.1 hids
  obtain ⟨hafter, -⟩ := List.pairwise_cons.1 hrest
  have hturn : ∀ l' ⊆ l₁ ++ e :: l₂, Spares s (s.evaluateInTurn l') l' := fun l' hsub =>
    .of_evaluateInTurn hu hw (hl.mono hsub) (hh.mono hsub)
  have hfirst := hturn l₁ (List.subset_append_left _ _)
  have hnext := hturn (l₁ ++ [e]) (by simp)
  rw [evaluateInTurn_append] at hnext
  obtain ⟨hmem, g, hg, hgo, hgl, hgw⟩ := reevaluate_marks hfirst.unique hfirst.wants
    (hfirst.mem he hno fun z hz => hbefore z hz e List.mem_cons_self) hc
    (hfirst.frames.ownerOnLink (link_of_beyondLock hfirst.beyond) hlink) (hfirst.frames.oneFrame hone)
  have hsub : l₂ ⊆ l₁ ++ e :: l₂ := fun z hz => List.mem_append_right _ (List.mem_cons_of_mem e hz)
  have hheld := (hnext.mono (l' := l₁ ++ e :: l₂) (by simp)).heldBeside hh
  have hlast := Spares.of_evaluateInTurn hnext.unique hnext.wants ((hnext.standsFor hl).mono hsub) (hheld.mono hsub)
  obtain ⟨k, hk, hko, hka, hkw⟩ := hlast.frames.stays g hg hgl
  rw [evaluateInTurn_append]
  refine ⟨hlast.mem hmem hno fun z hz => (hafter z hz).symm, k, hk, hko.trans hgo, ?_, hkw hgw⟩
  exact (onLink_congr (link_of_beyondLock hnext.beyond).symm hka).trans hgl

end

end Sys2Proof.Machine
end

section
/-! PROOFS. The RELEASE of the last acquisition (R52 to R54): freed, handed to a local waiter, or HANDING. -/

namespace Sys2Proof.Machine

open Sys2Proof

/-! ### Notices that are told, and completions -/

section
variable {s t : State} {told : Bool} {b : NoticeBody}

theorem tell_eq : s.Tell told b = { s with notices := (s.Tell told b).notices } := by
  unfold State.Tell
  split
  · exact enterNotice_eq s b
  · rfl

@[simp] theorem tell_lock : (s.Tell told b).lock = s.lock := by rw [tell_eq]
@[simp] theorem tell_queue : (s.Tell told b).queue = s.queue := by rw [tell_eq]
@[simp] theorem tell_ring : (s.Tell told b).ring = s.ring := by rw [tell_eq]
@[simp] theorem tell_beyondLock : (s.Tell told b).beyondLock = s.beyondLock := by rw [tell_eq]; rfl

theorem tell_notices_congr (h : s.notices = t.notices) : (s.Tell told b).notices = (t.Tell told b).notices := by
  unfold State.Tell
  split
  · exact enterNotice_notices_congr b h
  · exact h

@[simp] theorem tell_slot (j : SlotIx) : (s.Tell told b).slot j = s.slot j := by
  unfold State.slot
  rw [tell_ring]

theorem complete_notices {i : SlotIx} {c : Code} {r : SlotResult} :
    (s.complete i c r).notices = (s.Tell (s.slot i).notify (.completed i c)).notices := by
  rw [complete_eq]
  unfold State.Tell
  cases (s.slot i).notify <;> rfl

/-- A completion does not ask for the lock engine. -/
theorem complete_withLock (s : State) (i : SlotIx) (c : Code) (r : SlotResult) (x : LockEngine) :
    (s.complete i c r).withLock x = (s.withLock x).complete i c r := by
  rw [complete_eq, complete_eq, enterNotice_notices_congr (s := s.withLock x) (t := s) (.completed i c) rfl]
  rfl

end

/-! ### The RELEASE completes first -/

/-- The state after the RELEASE at CURRENT has completed RELEASED with count 0. -/
def State.released (s : State) : State := s.atTaking.complete s.ring.current .released (.counted .released 0)

section
variable {s : State}

@[simp] theorem released_lock : s.released.lock = s.atTaking.lock := complete_lock _ _ _
@[simp] theorem released_entries : s.released.lock.entries = s.lock.entries := by rw [released_lock]; rfl
@[simp] theorem released_queue : s.released.queue = s.queue := complete_queue _ _ _
theorem released_beyondLock : s.released.beyondLock = s.beyondLock := complete_beyondLock _ _ _ _
@[simp] theorem released_link : s.released.link = s.link := link_of_beyondLock released_beyondLock
@[simp] theorem released_own : s.released.own = s.own := own_of_shell (shell_of_beyondLock released_beyondLock)

theorem released_slot (j : SlotIx) : s.released.slot j = if j = s.ring.current then
    (s.slot s.ring.current).Completed ⟨some .released, some 0, none, none, none⟩ else s.slot j := by
  have htaken : ∀ k, s.atTaking.slot k = if k = s.ring.current then
      { s.slot s.ring.current with state := .pending, result := .absent } else s.slot k :=
    fun k => slot_setSlot s s.ring.current k _
  rw [State.released, slot_complete, htaken j, htaken s.ring.current, if_pos rfl]
  split <;> rfl

theorem released_notices :
    s.released.notices = (s.Tell (s.slot s.ring.current).notify (.completed s.ring.current .released)).notices := by
  have hslot : s.atTaking.slot s.ring.current
      = { s.slot s.ring.current with state := .pending, result := .absent } := slot_setSlot_self (s := s) _ _
  rw [State.released, complete_notices, hslot]
  exact tell_notices_congr rfl

/-- The taking of a RELEASE that then changes the lock engine alone. -/
theorem advance_released (hstalled : s.ring.stalled = false) (x : LockEngine) :
    (s.released.withLock x).advance = { s with
      lock := x
      ring := s.RingDone ⟨some .released, some 0, none, none, none⟩
      notices := s.NotesDone .released } := by
  rw [State.released, complete_withLock]
  exact advance_complete (s := s) (u := s.atTaking.withLock x) .released (.counted .released 0) rfl rfl hstalled

end

/-- The RELEASE at CURRENT is the last one of entry e, which has neither a want nor a frame; and no want waits. -/
structure LastRelease (s : State) (c : Context) (r : Resource) (e : LockEntry) (v i : Ticket) (w : Bool) : Prop where
  takes : s.TakesRequest (.release c r)
  found : s.entryOf c r = some e
  state : e.state = .holding c 1 v i w
  frame : s.hasFrame (.entry e.id) = false
  wants : s.lock.wants = []

section
variable {s : State} {c : Context} {r : Resource} {e : LockEntry} {v i : Ticket} {w : Bool}
variable (hr : LastRelease s c r e v i w)
include hr

theorem exec_lastRelease : exec .taking s = .next (s.released.releaseLock e).advance := by
  rw [exec_taking hr.takes]
  exact congrArg (fun u : State => Host.Outcome.next u.advance) (release_last (s := s.atTaking) hr.found hr.state)

theorem mem_lastRelease : e ∈ s.lock.entries := (entryOf_some hr.found).1

theorem resource_lastRelease : e.resource = r := by
  have hfound := List.find?_some hr.found
  simp only [Bool.and_eq_true, decide_eq_true_eq] at hfound
  exact hfound.1

theorem isHolder_lastRelease : e.isHolder = true := by simp [LockEntry.isHolder, hr.state]

theorem tickets_lastRelease : e.serve = v ∧ e.issue = i ∧ e.span = i - v - 1 := by
  simp [LockEntry.span, LockEntry.serve, LockEntry.issue, hr.state, spanOf]

theorem wants_released : s.released.lock.wants = [] := by rw [released_lock]; exact hr.wants

/-- R1: the entry has nothing to withdraw. -/
theorem freeEntry_released : s.released.freeEntry e.id = s.released.dropEntry e.id := by
  refine freeEntry_unwanted ?_ ?_
  · rw [wants_released hr]
    exact List.not_mem_nil
  · rw [released_queue]
    simpa [State.hasFrame] using hr.frame

/-- R52: at span 0 the entry is freed. -/
theorem lastRelease_frees (hspan : i - v - 1 = 0) : exec .taking s = .next { s with
    lock := { s.lock with
      takings := s.lock.takings + 1
      entries := s.lock.entries.filter (fun x => decide (x.id ≠ e.id)) }
    ring := s.RingDone ⟨some .released, some 0, none, none, none⟩
    notices := s.NotesDone .released } := by
  obtain ⟨-, -, hzero⟩ := tickets_lastRelease hr
  have hfrees : s.released.releaseLock e = s.released.dropEntry e.id := by
    rw [State.releaseLock, if_pos (hzero.trans hspan), freeEntry_released hr]
  rw [exec_lastRelease hr, hfrees]
  unfold State.dropEntry State.withEntries
  rw [released_lock, advance_released hr.takes.1]
  rfl

end

/-! ### Local waiters (R52) -/

section
variable {s t : State} {r : Resource} {k : Ticket}

/-- R4, R52: the sender of the GRANT that is taken and in its answer field. -/
theorem grantTaken_eq_some {x : StationNo} : s.grantTaken r = some x ↔
    ∃ f o j, s.link.state = .listeningAnswer f ∧ f.content = .grant r o j ∧ f.committed ≠ none ∧ x = f.sender := by
  constructor
  · intro h
    unfold State.grantTaken at h
    split at h
    · rename_i f hl
      split at h
      · rename_i r' o j hc
        split at h
        · rename_i htaken
          obtain ⟨rfl, hcommitted⟩ := htaken
          exact ⟨f, o, j, hl, hc, Option.isSome_iff_ne_none.1 hcommitted, (Option.some.inj h).symm⟩
        · exact nomatch h
      · exact nomatch h
    · exact nomatch h
  · rintro ⟨f, o, j, hl, hc, hcommitted, rfl⟩
    simp [State.grantTaken, hl, hc, Option.isSome_iff_ne_none.2 hcommitted]

/-- R52: the waiter that gets the lock is the first entry that counts as a local waiter with its ticket. -/
theorem localWaiter_eq_find : ∃ p : LockEntry → Bool, s.localWaiter r k = s.lock.entries.find? p ∧
    ∀ e, p e = true ↔ s.CountsAsLocal r k e := by
  refine ⟨_, rfl, fun e => ?_⟩
  unfold State.CountsAsLocal
  simp only [Bool.and_eq_true, decide_eq_true_eq, and_congr_right_iff]
  rintro rfl
  cases hst : e.state with
  | waiting c sl t h ep d pr =>
    simp only [Bool.and_eq_true, Bool.or_eq_true, decide_eq_true_eq]
    constructor
    · rintro ⟨rfl, hown | hgrant⟩
      · exact ⟨c, sl, h, ep, d, pr, rfl, .inl hown⟩
      · cases htaken : s.grantTaken e.resource with
        | none => exact nomatch htaken ▸ hgrant
        | some x =>
          obtain ⟨f, o, j, hl, hc, hcommitted, rfl⟩ := grantTaken_eq_some.1 htaken
          rw [htaken] at hgrant
          simp only [State.liveWaiter, hst, Bool.and_eq_true, decide_eq_true_eq] at hgrant
          exact ⟨c, sl, h, ep, d, pr, rfl, .inr ⟨f, o, j, hl, hc, hcommitted, hgrant.1, hgrant.2⟩⟩
    · rintro ⟨_, _, _, _, _, _, ⟨⟩, hown | ⟨f, o, j, hl, hc, hcommitted, hh, hep⟩⟩
      · exact ⟨rfl, .inl hown⟩
      · have htaken : s.grantTaken e.resource = some f.sender :=
          grantTaken_eq_some.2 ⟨f, o, j, hl, hc, hcommitted, rfl⟩
        refine ⟨rfl, .inr ?_⟩
        rw [htaken]
        simp [State.liveWaiter, hst, hh, hep]
  | _ =>
    refine iff_of_false nofun ?_
    rintro ⟨_, _, _, _, _, _, ⟨⟩, -⟩

theorem countsAsLocal_of_localWaiter {x : LockEntry} (h : s.localWaiter r k = some x) : s.CountsAsLocal r k x := by
  obtain ⟨p, hfind, hp⟩ := localWaiter_eq_find (s := s) (r := r) (k := k)
  exact (hp x).1 (List.find?_some (hfind.symm.trans h))

theorem localWaiter_none (h : ∀ x ∈ s.lock.entries, ¬ s.CountsAsLocal r k x) : s.localWaiter r k = none := by
  obtain ⟨p, hfind, hp⟩ := localWaiter_eq_find (s := s) (r := r) (k := k)
  rw [hfind, List.find?_eq_none]
  exact fun x hx hpx => h x hx ((hp x).1 hpx)

theorem localWaiter_first {l₁ l₂ : List LockEntry} {x : LockEntry} (hsplit : s.lock.entries = l₁ ++ x :: l₂)
    (hbefore : ∀ y ∈ l₁, ¬ s.CountsAsLocal r k y) (hx : s.CountsAsLocal r k x) : s.localWaiter r k = some x := by
  obtain ⟨p, hfind, hp⟩ := localWaiter_eq_find (s := s) (r := r) (k := k)
  rw [hfind, hsplit, List.find?_eq_some_iff_append]
  refine ⟨(hp x).2 hx, l₁, l₂, rfl, fun y hy => ?_⟩
  rw [Bool.not_eq_true', Bool.eq_false_iff]
  exact fun hpy => hbefore y hy ((hp y).1 hpy)

/-- Whether an entry counts as a local waiter is a matter of what lies beyond the lock engine. -/
theorem countsAsLocal_congr (hb : t.beyondLock = s.beyondLock) {x : LockEntry} :
    t.CountsAsLocal r k x ↔ s.CountsAsLocal r k x := by
  simp only [State.CountsAsLocal, own_of_shell (shell_of_beyondLock hb), link_of_beyondLock hb, State.record,
    member_of_beyondLock hb]

theorem grantTaken_congr (hb : t.beyondLock = s.beyondLock) : t.grantTaken r = s.grantTaken r := by
  simp only [State.grantTaken, link_of_beyondLock hb]

end

/-! ### HANDING (R54) -/

section
variable {s : State} {c : Context} {r : Resource} {e : LockEntry} {v i : Ticket} {w : Bool}
variable (hr : LastRelease s c r e v i w)
include hr

/-- R52, R54: with no local waiter of the next ticket it is offered to the others. -/
theorem lastRelease_hands (hspan : i - v - 1 ≠ 0) (hnone : ∀ x ∈ s.lock.entries, ¬ s.CountsAsLocal r (v + 1) x) :
    exec .taking s = .next ((({ s with
      lock := { s.lock with
        takings := s.lock.takings + 1
        entries := s.EntriesWith e.id (.handing v i (v + 1) none) }
      ring := s.RingDone ⟨some .released, some 0, none, none, none⟩
      notices := s.NotesDone .released } : State)).raiseWant (.entry e.id)) := by
  obtain ⟨hserve, hissue, hspan'⟩ := tickets_lastRelease hr
  have hlocal : s.released.localWaiter e.resource (e.serve + 1) = none := by
    refine localWaiter_none fun x hx => ?_
    rw [countsAsLocal_congr released_beyondLock, resource_lastRelease hr, hserve]
    rw [released_entries] at hx
    exact hnone x hx
  have hhands : s.released.releaseLock e
      = (s.released.setEntry e.id (.handing v i (v + 1) none)).raiseWant (.entry e.id) := by
    rw [State.releaseLock, if_neg (hspan' ▸ hspan), hlocal, hserve, hissue]
  rw [exec_lastRelease hr, hhands, advance_raiseWant]
  unfold State.setEntry State.withEntries
  rw [released_lock, advance_released hr.takes.1]
  rfl

end

end Sys2Proof.Machine
end

section
/-! PROOFS. The local handoff (R53): the waiter of ticket serve + 1 holds, and the other entries of the resource are
evaluated again under it (R4). -/

namespace Sys2Proof.Machine

open Sys2Proof

/-! ### A waiter that enters HOLDING -/

/-- The state of an entry of context c that has entered HOLDING with serve v and issue i (R5, R7). -/
def heldAs (c : Context) (v i : Ticket) : EntryState := .holding c 1 v i (decide (spanOf v i ≠ 0))

/-- R5, R12, R47: with no want waiting, the entry holds, its frame is withdrawn, its slot completes GRANTED, and a span
above 0 produces WANTED. -/
theorem enterHolding_quiet {s : State} {x : LockEntry} {c : Claimant} (hw : s.lock.wants = [])
    (hc : x.claimant = some c) (v i : Ticket) : ∃ frames, LinkFramesStay s frames ∧ s.enterHolding x v i
      = ((((s.setEntry x.id (heldAs c.context v i)).withFrames frames).complete c.slot .granted
          (s.heldResult .granted (some 1) (contextByte c.context) (spanOf v i))).Tell (decide (spanOf v i ≠ 0))
        (.wanted x.resource c.context (spanOf v i))) := by
  obtain ⟨frames, hframes, hstay⟩ :=
    withdrawOwner_quiet (s := s.setEntry x.id (heldAs c.context v i)) hw (.entry x.id)
  refine ⟨frames, ⟨hstay.stays, hstay.came⟩, ?_⟩
  have hframes : (s.setEntry x.id (.holding c.context 1 v i (decide (spanOf v i ≠ 0)))).withdrawOwner (.entry x.id)
      = (s.setEntry x.id (heldAs c.context v i)).withFrames frames := hframes
  simp only [State.enterHolding, hc, hframes, State.Tell]
  by_cases hspan : spanOf v i = 0 <;> simp [hspan]

theorem claimant_of_waiting {x : LockEntry} {k : Context} {sl : SlotIx} {t : Ticket} {h : StationNo}
    {ep : Option Epoch} {g pr : Option Timer} (hst : x.state = .waiting k sl t h ep g pr) :
    x.claimant = some ⟨x.id, x.resource, k, sl, waitingPolicy g, g⟩ := by
  simp [LockEntry.claimant, hst]

/-! ### The entries that a holder entry is to place -/

/-- The entries of a resource that look toward a remote station, and the DEFERRED ones (R4). -/
def State.elsewhere (s : State) (r : Resource) : List LockEntry :=
  s.lock.entries.filter (fun e => decide (e.resource = r) && e.looksElsewhere s.own)

theorem mem_elsewhere {s : State} {r : Resource} {x : LockEntry} :
    x ∈ s.elsewhere r ↔ x ∈ s.lock.entries ∧ x.resource = r ∧ x.looksElsewhere s.own = true := by
  simp [State.elsewhere]

/-- R4: where no GRANT was taken, no ticket is kept. -/
theorem placeOthers_none (s : State) (r : Resource) :
    s.placeOthers r none = s.evaluateInTurn (s.elsewhere r) := by
  have hkept : ∀ h : LockEntry, s.keepsTicket none h = fun _ => false := fun h => rfl
  unfold State.placeOthers
  dsimp only
  split
  · rfl
  · simp [hkept, State.elsewhere, State.evaluateInTurn]

section
variable {own : StationNo} {x : LockEntry}

theorem claimant_of_looksElsewhere (h : x.looksElsewhere own = true) : ∃ c, x.claimant = some c := by
  cases hst : x.state <;> simp [LockEntry.looksElsewhere, LockEntry.claimant, hst] at h ⊢

theorem looksElsewhere_of_unmoved (h : x.Unmoved own) : x.looksElsewhere own = false := by
  cases hst : x.state with
  | claiming c sl p d rt =>
    simp only [LockEntry.Unmoved, hst] at h
    simpa [LockEntry.looksElsewhere, hst, Option.isSome_iff_ne_none] using h
  | waiting c sl t y ep d pr =>
    simp only [LockEntry.Unmoved, hst] at h
    simpa [LockEntry.looksElsewhere, hst] using h
  | deferred c sl p d => simp [LockEntry.Unmoved, hst] at h
  | _ => simp [LockEntry.looksElsewhere, hst]

theorem looksElsewhere_of_moved (h : (x.Moved own).isSome = true) : x.looksElsewhere own = true := by
  cases hst : x.state with
  | claiming c sl p d rt =>
    cases rt with
    | none => simp [LockEntry.looksElsewhere, hst]
    | some n => simp [LockEntry.Moved, hst] at h
  | waiting c sl t y ep d pr =>
    by_cases hy : y = own
    · simp [LockEntry.Moved, hst, hy] at h
    · simp [LockEntry.looksElsewhere, hst, hy]
  | deferred c sl p d => simp [LockEntry.looksElsewhere, hst]
  | _ => simp [LockEntry.Moved, hst] at h

end

/-! ### The handoff -/

/-- The RELEASE at CURRENT is the last one of entry e, and x, which waits in context k for slot sl, gets the lock. -/
structure HandsTo (s : State) (c : Context) (r : Resource) (e : LockEntry) (v i : Ticket) (w : Bool) (x : LockEntry)
    (k : Context) (sl : SlotIx) (h : StationNo) (ep : Option Epoch) (g pr : Option Timer) : Prop where
  last   : LastRelease s c r e v i w
  span   : i - v - 1 ≠ 0
  waiter : s.released.localWaiter r (v + 1) = some x
  state  : x.state = .waiting k sl (v + 1) h ep g pr
  named  : s.PendingSlotsAreNamed

/-- The state after x has entered HOLDING in the place of e. -/
def State.handed (s : State) (e x : LockEntry) (v i : Ticket) : State :=
  (s.released.dropEntry e.id).enterHolding x (v + 1) i

/-- The entries that are evaluated again then: none while the GRANT of e is in its answer field (R4, log 9). -/
def State.placedAfter (s : State) (e x : LockEntry) (v i : Ticket) : List LockEntry :=
  if (s.released.grantTaken e.resource).isSome then [] else (s.handed e x v i).elsewhere e.resource

/-- The state after they have been. -/
def State.handedOn (s : State) (e x : LockEntry) (v i : Ticket) : State :=
  (s.handed e x v i).evaluateInTurn (s.placedAfter e x v i)

theorem placedAfter_sublist {s : State} {e x : LockEntry} {v i : Ticket} :
    (s.placedAfter e x v i).Sublist (s.handed e x v i).lock.entries := by
  unfold State.placedAfter
  split
  · exact List.nil_sublist _
  · exact List.filter_sublist

theorem entry_exists {s : State} {e : LockEntry} (he : e ∈ s.lock.entries) : ∃ e', s.entry e.id = some e' := by
  cases hf : s.entry e.id with
  | some e' => exact ⟨e', rfl⟩
  | none => exact absurd (decide_eq_true rfl) (List.find?_eq_none.1 hf e he)

theorem uniqueIds_of_named {s : State} (hn : s.PendingSlotsAreNamed) : s.UniqueIds := by
  obtain ⟨-, -, hids, -⟩ := hn
  exact fun x hx y hy hid => List.inj_on_of_nodup_map hids hx hy hid

/-- R12: no two entries name one slot. -/
theorem id_eq_of_slot {s : State} (hn : s.PendingSlotsAreNamed) {x y : LockEntry} (hx : x ∈ s.lock.entries)
    (hy : y ∈ s.lock.entries) {i : SlotIx} (hxi : x.slot = some i) (hyi : y.slot = some i) : x = y := by
  by_contra hne
  have hsymm : Std.Symm LockEntry.Apart := ⟨fun _ _ h => h.symm⟩
  exact ((apart_of_named hn).forall hx hy hne).2 i hxi hyi

/-- R141: a slot that is named is PENDING, and so is not the one that is taken. -/
theorem slot_ne_current {s : State} {q : Request} (hn : s.PendingSlotsAreNamed) (ht : s.TakesRequest q)
    {x : LockEntry} (hx : x ∈ s.lock.entries) : x.slot ≠ some s.ring.current := by
  intro hslot
  obtain ⟨-, hpending, -⟩ := hn
  obtain ⟨-, -, hfilled, -⟩ := ht
  have hnamed : s.ring.current ∈ s.namedSlots :=
    List.mem_append_left _ (List.mem_filterMap.2 ⟨x, hx, hslot⟩)
  exact nomatch hfilled.symm.trans ((hpending _).2 hnamed)

section
variable {s : State} {c : Context} {r : Resource} {e : LockEntry} {v i : Ticket} {w : Bool} {x : LockEntry}
  {k : Context} {sl : SlotIx} {h : StationNo} {ep : Option Epoch} {g pr : Option Timer}
variable (hh : HandsTo s c r e v i w x k sl h ep g pr)
include hh

theorem mem_handsTo : x ∈ s.lock.entries := by
  obtain ⟨hmem, -, -⟩ := localWaiter_some hh.waiter
  rwa [released_entries] at hmem

theorem resource_handsTo : x.resource = r := (localWaiter_some hh.waiter).2.1

theorem claimant_handsTo : x.claimant = some ⟨x.id, x.resource, k, sl, waitingPolicy g, g⟩ :=
  claimant_of_waiting hh.state

theorem id_ne_handsTo : x.id ≠ e.id := by
  intro hid
  have hsame := uniqueIds_of_named hh.named x (mem_handsTo hh) e (mem_lastRelease hh.last) hid
  have hholder := isHolder_lastRelease hh.last
  rw [← hsame, isHolder_of_claimant (claimant_handsTo hh)] at hholder
  exact nomatch hholder

/-- R53: the RELEASE hands the lock on. -/
theorem exec_handsTo : exec .taking s = .next (s.handedOn e x v i).advance := by
  obtain ⟨hserve, hissue, hspan⟩ := tickets_lastRelease hh.last
  have hwaiter : s.released.localWaiter e.resource (e.serve + 1) = some x := by
    rw [resource_lastRelease hh.last, hserve]
    exact hh.waiter
  have hhands : s.released.releaseLock e = s.handedOn e x v i := by
    rw [State.releaseLock, if_neg (hspan ▸ hh.span), hwaiter]
    simp only [State.handoff, freeEntry_released hh.last, hserve, hissue]
    unfold State.handedOn State.placedAfter
    split
    · rfl
    · exact placeOthers_none _ _
  rw [exec_lastRelease hh.last, hhands]

theorem uniqueIds_released : s.released.UniqueIds := by
  unfold State.UniqueIds
  rw [released_entries]
  exact uniqueIds_of_named hh.named

/-- R53: what the waiter's entry into HOLDING has done. -/
theorem handed_eq : ∃ frames, LinkFramesStay s.released frames ∧ s.handed e x v i
    = (((((s.released.dropEntry e.id).setEntry x.id (heldAs k (v + 1) i)).withFrames frames).complete sl .granted
          (s.released.heldResult .granted (some 1) (contextByte k) (spanOf (v + 1) i))).Tell
        (decide (spanOf (v + 1) i ≠ 0)) (.wanted r k (spanOf (v + 1) i))) := by
  obtain ⟨frames, hstay, heq⟩ := enterHolding_quiet (s := s.released.dropEntry e.id) (wants_released hh.last)
    (claimant_handsTo hh) (v + 1) i
  refine ⟨frames, ⟨hstay.stays, hstay.came⟩, ?_⟩
  rw [resource_handsTo hh] at heq
  exact heq

theorem handed_entries : (s.handed e x v i).lock.entries
    = ((s.released.dropEntry e.id).setEntry x.id (heldAs k (v + 1) i)).lock.entries := by
  obtain ⟨frames, -, heq⟩ := handed_eq hh
  rw [heq, tell_lock, complete_lock]
  rfl

/-- Only the two entries, their slots and frames off the link have changed. -/
theorem handed_spares : Spares s.released (s.handed e x v i) [e, x] := by
  obtain ⟨frames, hstay, heq⟩ := handed_eq hh
  have hx : x ∈ [e, x] := List.mem_cons_of_mem e List.mem_cons_self
  have hslot : x.slot = some sl := slot_of_claimant (claimant_handsTo hh)
  have hdrop := Spares.of_dropEntry (l := [e, x]) (uniqueIds_released hh) (wants_released hh.last) List.mem_cons_self
  have hset := hdrop.trans (.of_setEntry hdrop.unique hdrop.wants hx (st := heldAs k (v + 1) i)
    (fun _ _ _ _ hi => nomatch hi))
  have hframes := hset.trans (.of_frames (frames := frames) hset.unique hset.wants ⟨hstay.stays, hstay.came⟩)
  have hdone := hframes.trans (.of_complete hframes.unique hframes.wants hx hslot .granted
    (s.released.heldResult .granted (some 1) (contextByte k) (spanOf (v + 1) i)))
  rw [heq]
  exact hdone.trans (.of_slots hdone.unique hdone.wants tell_lock tell_queue tell_beyondLock fun j _ => tell_slot j)

theorem handed_own : (s.handed e x v i).own = s.own :=
  (own_of_shell (shell_of_beyondLock (handed_spares hh).beyond)).trans released_own

/-- The entries after the waiter has got the lock: itself, and those that were there, but e. -/
theorem mem_handed {z : LockEntry} : z ∈ (s.handed e x v i).lock.entries →
    z.id ≠ e.id ∧ (z = { x with state := heldAs k (v + 1) i } ∨ (z ∈ s.lock.entries ∧ z.id ≠ x.id)) := by
  rw [handed_entries hh]
  intro hz
  obtain ⟨y, hy, rfl⟩ := List.mem_map.1 hz
  obtain ⟨hy, hye⟩ := List.mem_filter.1 hy
  rw [released_entries] at hy
  split
  · rename_i hid
    rw [uniqueIds_of_named hh.named y hy x (mem_handsTo hh) hid]
    have hne := id_ne_handsTo hh
    exact ⟨hne, .inl rfl⟩
  · rename_i hid
    exact ⟨of_decide_eq_true hye, .inr ⟨hy, hid⟩⟩

/-- R53: the waiter holds, with the issue as it was. -/
theorem handed_entry : (s.handed e x v i).entry x.id = some { x with state := heldAs k (v + 1) i } := by
  have hx : x ∈ (s.released.dropEntry e.id).lock.entries := by
    refine List.mem_filter.2 ⟨?_, decide_eq_true (id_ne_handsTo hh)⟩
    rw [released_entries]
    exact mem_handsTo hh
  unfold State.entry
  rw [handed_entries hh]
  exact entry_setEntry_self _ (entry_of_mem (uniqueIds_dropEntry (uniqueIds_released hh)) hx)

/-- R12, R153: its slot completes with the remaining span. -/
theorem handed_slot : ((s.handed e x v i).slot sl).state = .done ∧ ((s.handed e x v i).slot sl).result
    = ⟨some .granted, some 1, some s.own, some (BitVec.ofNat 8 k.val), some ((i - (v + 1) - 1).setWidth 8)⟩ := by
  obtain ⟨frames, -, heq⟩ := handed_eq hh
  rw [heq, tell_slot, slot_complete, if_pos rfl]
  refine ⟨rfl, ?_⟩
  simp only [State.heldResult, released_own, contextByte_eq]
  rfl

/-- R53: the notices, in their order. -/
theorem handed_notices : (s.handed e x v i).notices
    = (((s.Tell (s.slot s.ring.current).notify (.completed s.ring.current .released)).Tell
        (s.slot sl).notify (.completed sl .granted)).Tell (decide (i - (v + 1) - 1 ≠ 0))
          (.wanted r k (i - (v + 1) - 1))).notices := by
  obtain ⟨frames, -, heq⟩ := handed_eq hh
  have hne : sl ≠ s.ring.current := by
    rintro rfl
    exact slot_ne_current hh.named hh.last.takes (mem_handsTo hh) (slot_of_claimant (claimant_handsTo hh))
  have hslot : (((s.released.dropEntry e.id).setEntry x.id (heldAs k (v + 1) i)).withFrames frames).slot sl
      = s.slot sl := (released_slot sl).trans (if_neg hne)
  rw [heq]
  refine tell_notices_congr ?_
  rw [complete_notices, hslot]
  exact tell_notices_congr released_notices

/-! ### The entries evaluated again -/

theorem mem_placedAfter {z : LockEntry} (hz : z ∈ s.placedAfter e x v i) :
    z ∈ (s.handed e x v i).lock.entries ∧ z.resource = r ∧ z.looksElsewhere s.own = true := by
  unfold State.placedAfter at hz
  split at hz
  · exact nomatch hz
  · rw [← handed_own hh, ← resource_lastRelease hh.last]
    exact mem_elsewhere.1 hz

theorem standsFor_placedAfter : StandsFor (s.handed e x v i) r (s.placedAfter e x v i) := by
  intro z hz y hy hid
  obtain ⟨hmem, hr, -⟩ := mem_placedAfter hh hz
  rw [(handed_spares hh).unique y hy z hmem hid]
  exact ⟨hr, fun _ hi => hi⟩

/-- The new holder entry is none of them. -/
theorem id_ne_placedAfter {z : LockEntry} (hz : z ∈ s.placedAfter e x v i) : z.id ≠ x.id := by
  intro hid
  obtain ⟨hmem, -, hlooks⟩ := mem_placedAfter hh hz
  rw [(handed_spares hh).unique z hmem _ (mem_of_entry (handed_entry hh)) hid] at hlooks
  exact nomatch hlooks

theorem heldBeside_handed : HeldBeside (s.handed e x v i) r (s.placedAfter e x v i) := by
  have hr := resource_handsTo hh
  exact ⟨_, mem_of_entry (handed_entry hh), hr, rfl, fun z hz => id_ne_placedAfter hh hz⟩

theorem handedOn_spares : Spares (s.handed e x v i) (s.handedOn e x v i) (s.placedAfter e x v i) :=
  .of_evaluateInTurn (handed_spares hh).unique (handed_spares hh).wants (standsFor_placedAfter hh)
    (heldBeside_handed hh)

/-- R4: with no other entry of the resource to move, the handoff ends there. -/
theorem handedOn_unmoved (hunmoved : ∀ y ∈ s.lock.entries, y.resource = r → y = x ∨ y = e ∨ y.Unmoved s.own) :
    s.handedOn e x v i = s.handed e x v i := by
  have hnil : s.placedAfter e x v i = [] := by
    refine List.eq_nil_iff_forall_not_mem.2 fun z hz => ?_
    obtain ⟨hmem, hr, hlooks⟩ := mem_placedAfter hh hz
    obtain ⟨hne, rfl | ⟨hzs, hzx⟩⟩ := mem_handed hh hmem
    · exact nomatch hlooks
    · obtain rfl | rfl | hstays := hunmoved z hzs hr
      · exact hzx rfl
      · exact hne rfl
      · exact nomatch (looksElsewhere_of_unmoved hstays).symm.trans hlooks
  rw [State.handedOn, hnil]
  rfl

/-- R53: x holds, whatever tickets it has issued. -/
theorem handedOn_entry : ∃ y, (s.handedOn e x v i).entry x.id = some y ∧ y.resource = x.resource ∧
    ∃ i' w', y.state = .holding k 1 (v + 1) i' w' := by
  obtain ⟨z, hz, hkeeps⟩ := (handedOn_spares hh).stays _ (mem_of_entry (handed_entry hh))
    (fun z hz => id_ne_placedAfter hh hz)
  refine ⟨z, ?_, hkeeps.resource, hkeeps.holding _ _ _ _ _ rfl⟩
  have hfound := entry_of_mem (handedOn_spares hh).unique hz
  rw [hkeeps.id] at hfound
  exact hfound

theorem handedOn_gone : (s.handedOn e x v i).entry e.id = none := by
  cases hfound : (s.handedOn e x v i).entry e.id with
  | none => rfl
  | some y =>
    obtain ⟨z, hz, hid, -, -⟩ := (handedOn_spares hh).came y (mem_of_entry hfound)
    exact absurd (hid.trans (id_of_entry hfound)) (mem_handed hh hz).1

/-- A slot that no entry evaluated again names. -/
theorem handedOn_slot {j : SlotIx} (hj : ∀ y ∈ s.lock.entries, y.id ≠ x.id → y.slot ≠ some j) :
    (s.handedOn e x v i).slot j = (s.handed e x v i).slot j := by
  refine (handedOn_spares hh).slots j fun z hz => ?_
  obtain ⟨hmem, -, hlooks⟩ := mem_placedAfter hh hz
  obtain ⟨-, rfl | ⟨hzs, hzx⟩⟩ := mem_handed hh hmem
  · exact nomatch hlooks
  · exact hj z hzs hzx

theorem handedOn_waiterSlot : (s.handedOn e x v i).slot sl = (s.handed e x v i).slot sl := by
  refine handedOn_slot hh fun y hy hne hslot => hne ?_
  rw [id_eq_of_slot hh.named hy (mem_handsTo hh) hslot (slot_of_claimant (claimant_handsTo hh))]

theorem handedOn_currentSlot : (s.handedOn e x v i).slot s.ring.current
    = (s.slot s.ring.current).Completed ⟨some .released, some 0, none, none, none⟩ := by
  have hnamed : ∀ y ∈ s.lock.entries, y.slot ≠ some s.ring.current :=
    fun y hy => slot_ne_current hh.named hh.last.takes hy
  rw [handedOn_slot hh fun y hy _ => hnamed y hy, (handed_spares hh).slots, released_slot, if_pos rfl]
  intro z hz
  obtain rfl | hz := List.mem_cons.1 hz
  · exact hnamed z (mem_lastRelease hh.last)
  · rw [List.mem_singleton.1 hz]
    exact hnamed x (mem_handsTo hh)

/-! ### A CLAIM on the link behind the handoff -/

theorem handed_nodup : ((s.handed e x v i).lock.entries.map LockEntry.id).Nodup := by
  obtain ⟨-, -, hids, -⟩ := hh.named
  have hsame : (LockEntry.id ∘ fun z : LockEntry => if z.id = x.id then { z with state := heldAs k (v + 1) i } else z)
      = LockEntry.id := by
    funext z
    simp only [Function.comp_apply]
    split <;> rfl
  rw [handed_entries hh, setEntry_entries, List.map_map, hsame, dropEntry_entries, released_entries]
  exact hids.sublist (List.filter_sublist.map _)

/-- While an own frame is on the link no GRANT of another is in its answer field; so the waiter waits here. -/
theorem waitsHere_of_onLink {f : FrameRecord} (hlink : s.onLink f = true) :
    s.grantTaken r = none ∧ h = s.own := by
  have hage : s.link.state.ownAge = some f.age := of_decide_eq_true hlink
  have hnone : s.grantTaken r = none := by
    cases htaken : s.grantTaken r with
    | none => rfl
    | some y =>
      obtain ⟨f', -, -, hl, -⟩ := grantTaken_eq_some.1 htaken
      rw [hl] at hage
      exact nomatch hage
  refine ⟨hnone, ?_⟩
  obtain ⟨-, _, _, _, _, _, _, hst, hlocal⟩ :=
    (countsAsLocal_congr released_beyondLock).1 (countsAsLocal_of_localWaiter hh.waiter)
  cases hh.state.symm.trans hst
  obtain hown | ⟨f', o, j, hl, hc, hcommitted, -⟩ := hlocal
  · exact hown
  · exact nomatch hnone.symm.trans (grantTaken_eq_some.2 ⟨f', o, j, hl, hc, hcommitted, rfl⟩)

/-- R4, R133, R134: an entry that is to be placed while its CLAIM is on the link stays, and the CLAIM is marked. -/
theorem handedOn_marks {y : LockEntry} (hy : y ∈ s.lock.entries) (hyr : y.resource = r)
    (hmoved : (y.Moved s.own).isSome = true) (hlink : s.ownerOnLink (.entry y.id) = true)
    (hone : s.OneFrame (.entry y.id)) : y ∈ (s.handedOn e x v i).lock.entries ∧
      ∃ f ∈ (s.handedOn e x v i).queue.frames, f.owner = .lock (.entry y.id) ∧ s.onLink f = true ∧
        f.withdrawn = true := by
  have hlooks := looksElsewhere_of_moved hmoved
  obtain ⟨q, hq⟩ := claimant_of_looksElsewhere hlooks
  have hno := isHolder_of_claimant hq
  obtain ⟨f, -, -, hf⟩ := ownerOnLink_iff.1 hlink
  obtain ⟨hnone, hown⟩ := waitsHere_of_onLink hh hf
  have hsame := uniqueIds_of_named hh.named
  have hapart : ∀ z ∈ [e, x], z.id ≠ y.id := by
    intro z hz hid
    obtain rfl | hz := List.mem_cons.1 hz
    · rw [← hsame z (mem_lastRelease hh.last) y hy hid, isHolder_lastRelease hh.last] at hno
      exact nomatch hno
    · rw [List.mem_singleton.1 hz] at hid
      rw [← hsame x (mem_handsTo hh) y hy hid] at hmoved
      simp [LockEntry.Moved, hh.state, hown] at hmoved
  have hspares := handed_spares hh
  have hyh : y ∈ (s.handed e x v i).lock.entries := hspares.mem (by rw [released_entries]; exact hy) hno hapart
  have hplaced : y ∈ s.placedAfter e x v i := by
    unfold State.placedAfter
    rw [grantTaken_congr released_beyondLock, resource_lastRelease hh.last, hnone]
    exact mem_elsewhere.2 ⟨hyh, hyr, (handed_own hh).symm ▸ hlooks⟩
  have hids : (s.placedAfter e x v i).Pairwise (fun z z' => z.id ≠ z'.id) :=
    (List.pairwise_map.1 (handed_nodup hh)).sublist placedAfter_sublist
  have hreleased : s.released.ownerOnLink (.entry y.id) = true := by
    unfold State.ownerOnLink State.onLink
    rw [released_queue, released_link]
    exact hlink
  have hone' : s.released.OneFrame (.entry y.id) := by
    unfold State.OneFrame
    rw [released_queue]
    exact hone
  have hsamelink := link_of_beyondLock hspares.beyond
  obtain ⟨hmem, g, hg, hgo, hgl, hgw⟩ := evaluateInTurn_marks hspares.unique hspares.wants (standsFor_placedAfter hh)
    (heldBeside_handed hh) hids hplaced hyh hq (hspares.frames.ownerOnLink hsamelink hreleased)
    (hspares.frames.oneFrame hone')
  exact ⟨hmem, g, hg, hgo, (onLink_congr (hsamelink.trans released_link).symm rfl).trans hgl, hgw⟩

end

/-- Settles O33, a clause for each of the three ends of the lock. -/
theorem releaseOfTheLastAcquisition : Obligations.ReleaseOfTheLastAcquisition := by
  intro s c r e v i w htakes hfound hst hframe hwants
  have hr : LastRelease s c r e v i w := ⟨htakes, hfound, hst, hframe, hwants⟩
  refine ⟨lastRelease_frees hr, fun hspan hnone => ?_,
    fun hspan l₁ x l₂ k sl h ep g pr hsplit hbefore hx hxst hnamed => ?_⟩
  · let u : State := { s with
      lock := { s.lock with
        takings := s.lock.takings + 1
        entries := s.EntriesWith e.id (.handing v i (v + 1) none) }
      ring := s.RingDone ⟨some .released, some 0, none, none, none⟩
      notices := s.NotesDone .released }
    obtain ⟨e', he'⟩ := entry_exists (mem_lastRelease hr)
    have hkind : u.wantedKind (.entry e.id) = .grant := by
      have hentry := entry_setEntry (s := s) e.id e.id (.handing v i (v + 1) none)
      rw [he', Option.map_some, if_pos rfl] at hentry
      exact wantedKind_handing hentry rfl
    obtain ⟨-, hwant⟩ := raiseWant_wantsFrame hkind
    have hnot : .entry e.id ∉ s.lock.wants := by rw [hwants]; exact List.not_mem_nil
    obtain ⟨hroom, hfull⟩ := hwant hnot (by simpa [State.hasFrame] using hframe)
    refine ⟨_, lastRelease_hands hr hspan hnone, raiseWant_entries _ _, raiseWant_ring _ _, raiseWant_notices _ _,
      fun h => (hroom h).2, fun h => (hfull h).1.trans ?_⟩
    exact congrArg (fun wants : List Owner => wants ++ [.entry e.id]) hwants
  · have hwaiter : s.released.localWaiter r (v + 1) = some x :=
      localWaiter_first (released_entries.trans hsplit)
        (fun y hy => mt (countsAsLocal_congr released_beyondLock).1 (hbefore y hy))
        ((countsAsLocal_congr released_beyondLock).2 hx)
    have hh : HandsTo s c r e v i w x k sl h ep g pr := ⟨hr, hspan, hwaiter, hxst, hnamed⟩
    obtain ⟨hdone, hresult⟩ := handed_slot hh
    rw [← handedOn_waiterSlot hh] at hdone hresult
    have hcurrent := handedOn_currentSlot hh
    refine ⟨_, exec_handsTo hh, handedOn_entry hh, handedOn_gone hh, hdone, hresult, ?_, ?_, fun hunmoved => ?_,
      fun y hy hyr hmoved hlink hone => handedOn_marks hh hy hyr hmoved hlink hone⟩
    · exact congrArg (fun z : Slot => z.state) hcurrent
    · exact congrArg (fun z : Slot => z.result) hcurrent
    · rw [handedOn_unmoved hh hunmoved]
      exact ⟨handed_entry hh, handed_notices hh⟩

end Sys2Proof.Machine
end

section
/-! PROOFS. A GRANT that is taken by a waiter whose probe shares its age with a frame that is no lock-engine frame. -/

namespace Sys2Proof.Machine

open Sys2Proof

/-! ### A probe beside a BEACON of the same owner and age -/

/-- The waiter that takes the GRANT: it waits for ticket 5 at station 9, under station 9's current epoch. -/
def takesGrant : LockEntry := ⟨0, 0, .waiting 1 0 5 9 (some 0) none none, []⟩

/-- A BEACON under the waiter's name, with the age of its probe. No run from reset comes here: a membership frame is the
membership unit's, and two frames have different ages (`State.QueuesFit`), neither of which the statement asks. -/
def strayBeacon : FrameRecord := ⟨.beacon, .lock (.entry 0), 0, 0, none, false⟩

def queuedProbe : FrameRecord := ⟨.claim, .lock (.entry 0), 0, 0, none, false⟩

/-- The five other lock-engine frames. -/
def fiveQueries : List FrameRecord :=
  (List.range 5).map (fun n => ⟨.query, .lock (.query n), n + 1, 0, none, false⟩)

/-- Station 9's GRANT of ticket 5 at its answer start, the stray BEACON queued before the probe, and a want waiting. -/
def grantBesideBeacon : State :=
  { State.reset with
    config := { ConfigRecord.reset with spanLimit := 4 }
    lock   := ⟨[takesGrant], [], [.query 6], 1⟩
    link   := ⟨.listeningAnswer ⟨9, .grant 0 5 6, false, none, none⟩, 0, 0, .recessive⟩
    queue  := ⟨strayBeacon :: queuedProbe :: fiveQueries, 6⟩ }

theorem grantBesideBeacon_taker :
    grantBesideBeacon.lock.entries.find? (grantBesideBeacon.MayTake 9 0 5) = some takesGrant := by decide

theorem grantBesideBeacon_oneFrame : grantBesideBeacon.OneFrame (.entry takesGrant.id) := by
  unfold State.OneFrame; decide

/-- Of the six lock-engine frames one has the age of the probe. -/
theorem grantBesideBeacon_sixLockFrames : grantBesideBeacon.SixLockFrames queuedProbe.age := by
  unfold State.SixLockFrames; decide

/-- The first frame of the waiter that is found is the BEACON: it leaves, and the probe of its age with it, but no
lock-engine place is taken to be freed. -/
theorem grantBesideBeacon_want_waits {t : State} (ht : exec .answerStart grantBesideBeacon = .next t) :
    t.lock.wants = [.query 6] := by
  have hwants : (match exec .answerStart grantBesideBeacon with
      | .next t => decide (t.lock.wants = [.query 6])
      | _ => false) = true := by decide +kernel
  rw [ht] at hwants
  exact of_decide_eq_true hwants

/-- Refutes O49 in its last part, on a state that no run reaches: the want does not take the place that the probe
frees. -/
theorem not_grantIsTakenByTheWaiterItOffers : ¬ Obligations.GrantIsTakenByTheWaiterItOffers := by
  intro h
  obtain ⟨htakes, -⟩ := h grantBesideBeacon ⟨9, .grant 0 5 6, false, none, none⟩ 0 5 6 rfl rfl rfl rfl
  obtain ⟨t, ht, -, -, -, -, -, -, -, -, -, hprobe⟩ := htakes takesGrant 1 0 5 9 (some 0) none none (by decide)
    (by decide) grantBesideBeacon_taker rfl
  obtain ⟨-, hadmits⟩ := hprobe queuedProbe (by decide) rfl rfl grantBesideBeacon_oneFrame (by decide)
  obtain ⟨hnone, -⟩ := hadmits (.query 6) [] .query rfl grantBesideBeacon_sixLockFrames rfl
  exact nomatch hnone.symm.trans (grantBesideBeacon_want_waits ht)

end Sys2Proof.Machine
end

section
/-! PROOFS. What an evaluation from step 7 leaves as it was in every state: the pending QUERYs, and the slots that no
entry names (R12, R23 to R29). -/

namespace Sys2Proof.Machine

open Sys2Proof

/-! ### The pending QUERYs and the ring -/

section
variable (s : State)

@[simp] theorem admitWant_ring : s.admitWant.ring = s.ring := by
  unfold State.admitWant; split
  · rfl
  · split <;> rfl

@[simp] theorem removeFrame_ring (f : FrameRecord) : (s.removeFrame f).ring = s.ring := by
  unfold State.removeFrame; dsimp only; split
  · exact admitWant_ring _
  · rfl

@[simp] theorem withdrawOwner_ring (o : Owner) : (s.withdrawOwner o).ring = s.ring := by
  unfold State.withdrawOwner State.withdrawFrame; dsimp only; split
  · split
    · rfl
    · exact removeFrame_ring _ _
  · rfl

@[simp] theorem freeEntry_ring (id : Nat) : (s.freeEntry id).ring = s.ring := withdrawOwner_ring _ _

@[simp] theorem freeEntry_queries (id : Nat) : (s.freeEntry id).lock.queries = s.lock.queries :=
  withdrawOwner_queries _ _

@[simp] theorem issueTicket_ring (h : LockEntry) : (s.issueTicket h).ring = s.ring := by
  unfold State.issueTicket; split
  · dsimp only; split
    · exact enterNotice_ring _
    · rfl
  · rfl
  · rfl

@[simp] theorem issueTicket_queries (h : LockEntry) : (s.issueTicket h).lock.queries = s.lock.queries := by
  unfold State.issueTicket; split
  · dsimp only; split
    · rw [enterNotice_lock]; rfl
    · rfl
  · rfl
  · rfl

@[simp] theorem evaluate_queries (c : Claimant) : (s.evaluate c).lock.queries = s.lock.queries := by
  unfold State.evaluate State.retryPending; split
  · split
    · simp
    · split <;> simp
  · split <;> simp

@[simp] theorem reevaluate_queries (id : Nat) : (s.reevaluate id).lock.queries = s.lock.queries := by
  unfold State.reevaluate; split
  · rfl
  · split
    · rfl
    · split <;> simp

@[simp] theorem reevaluateDeferred_queries (r : Resource) : (s.reevaluateDeferred r).lock.queries = s.lock.queries :=
  foldl_keeps (fun u : State => u.lock.queries) _ (fun _ _ => reevaluate_queries _ _) _ _

end

/-! ### A slot that no entry names (R12) -/

/-- No entry names a slot. -/
def State.NamedByNone (s : State) (i : SlotIx) : Prop := ∀ x ∈ s.lock.entries, x.slot ≠ some i

/-- A slot that no entry names stays so, and is as it was. -/
def LeavesAlone (s t : State) (i : SlotIx) : Prop := s.NamedByNone i → t.NamedByNone i ∧ t.slot i = s.slot i

section
variable {s t u : State} {i : SlotIx}

theorem slot_of_ring (h : t.ring = s.ring) : t.slot i = s.slot i := by
  unfold State.slot
  rw [h]

theorem LeavesAlone.refl (s : State) (i : SlotIx) : LeavesAlone s s i := fun h => ⟨h, rfl⟩

theorem LeavesAlone.trans (h : LeavesAlone s t i) (h' : LeavesAlone t u i) : LeavesAlone s u i := by
  intro hn
  obtain ⟨ht, hslot⟩ := h hn
  obtain ⟨hu, hslot'⟩ := h' ht
  exact ⟨hu, hslot'.trans hslot⟩

theorem LeavesAlone.of_sublist (he : t.lock.entries.Sublist s.lock.entries) (hr : t.ring = s.ring) :
    LeavesAlone s t i :=
  fun hn => ⟨fun x hx => hn x (he.subset hx), slot_of_ring hr⟩

theorem LeavesAlone.of_setSlotStation {j : SlotIx} (hj : i ≠ j) (x : Option StationNo) :
    LeavesAlone s (s.setSlotStation j x) i :=
  fun hn => ⟨hn, by rw [slot_setSlotStation, if_neg hj]⟩

theorem LeavesAlone.of_complete {j : SlotIx} (hj : i ≠ j) (c : Code) (r : SlotResult) :
    LeavesAlone s (s.complete j c r) i :=
  fun hn => ⟨by unfold State.NamedByNone; rw [complete_lock]; exact hn, by rw [slot_complete, if_neg hj]⟩

/-- An entry is restated with another slot, or with none. -/
theorem LeavesAlone.of_setEntry {id : Nat} {st : EntryState} (hst : st.claim.map Prod.snd ≠ some i) :
    LeavesAlone s (s.setEntry id st) i := by
  refine fun hn => ⟨fun x hx => ?_, rfl⟩
  obtain hx | ⟨y, -, -, rfl⟩ := mem_setEntry hx
  · exact hn x hx
  · rw [slot_eq_claim]
    exact hst

theorem LeavesAlone.of_putEntry {c : Claimant} {st : EntryState} (hst : st.claim.map Prod.snd ≠ some i) :
    LeavesAlone s (s.putEntry c st) i := by
  refine fun hn => ⟨fun x hx => ?_, slot_of_ring (putEntry_ring c st)⟩
  unfold State.putEntry at hx
  split at hx
  · exact ((LeavesAlone.of_setEntry hst) hn).1 x hx
  · obtain hx | hx := List.mem_append.1 hx
    · exact hn x hx
    · rw [List.mem_singleton.1 hx, slot_eq_claim]
      exact hst

theorem LeavesAlone.of_issueTicket {h : LockEntry} (hh : h.isHolder = true) : LeavesAlone s (s.issueTicket h) i := by
  refine fun hn => ⟨?_, slot_of_ring (issueTicket_ring s h)⟩
  have hnone : h.Issued.claim = none := by
    cases hst : h.state <;> simp [LockEntry.Issued, LockEntry.isHolder, EntryState.claim, hst] at hh ⊢
  rw [issueTicket_eq hh]
  exact (LeavesAlone.of_setEntry (s := s) (id := h.id) (by rw [hnone]; nofun) hn).1

/-- R23 to R29: step 7 touches the slot of the entry that it is for. -/
theorem LeavesAlone.of_evaluate {c : Claimant} (hc : i ≠ c.slot) : LeavesAlone s (s.evaluate c) i := by
  have hput : ∀ (st : EntryState) (x : Option StationNo), st.claim = some (c.context, c.slot) →
      LeavesAlone s ((s.putEntry c st).setSlotStation c.slot x) i := by
    intro st x hst
    refine (LeavesAlone.of_putEntry ?_).trans (.of_setSlotStation hc x)
    rw [hst]
    exact fun h => hc (Option.some.inj h).symm
  cases hh : s.holderOf c.resource with
  | some h =>
    obtain ⟨-, -, hholder⟩ := holderOf_some hh
    by_cases hp : c.policy = .nowait
    · rw [evaluate_busy hh hp]
      refine LeavesAlone.trans (.of_sublist ?_ (freeEntry_ring s c.id)) (.of_complete hc _ _)
      rw [freeEntry_entries]
      exact List.filter_sublist
    · by_cases hroom : h.span.toNat < s.spanLimit
      · rw [evaluate_ticket hh hp hroom]
        exact (hput _ _ rfl).trans (.of_issueTicket hholder)
      · rw [evaluate_full hh hp (Nat.not_lt.1 hroom)]
        exact hput _ _ rfl
  | none =>
    cases hf : s.claimInFlight c.resource c.id with
    | true =>
      rw [evaluate_defers hh hf]
      exact hput _ _ rfl
    | false =>
      rw [evaluate_claims hh hf]
      refine (hput _ _ rfl).trans (.of_sublist ?_ (raiseWant_ring _ _))
      rw [raiseWant_entries]

/-- R4, R23: an evaluation again touches the slot that its entry names. -/
theorem LeavesAlone.of_reevaluate (id : Nat) : LeavesAlone s (s.reevaluate id) i := by
  have hwithdraw : LeavesAlone s (s.withdrawOwner (.entry id)) i :=
    .of_sublist (by rw [withdrawOwner_entries]) (withdrawOwner_ring _ _)
  intro hn
  unfold State.reevaluate
  split
  · exact ⟨hn, rfl⟩
  · rename_i e he
    split
    · exact ⟨hn, rfl⟩
    · rename_i c hc
      have hslot : i ≠ c.slot := fun hi => hn e (mem_of_entry he) (hi ▸ slot_of_claimant hc)
      split
      · exact hwithdraw hn
      · exact (hwithdraw.trans (.of_evaluate hslot)) hn

theorem LeavesAlone.of_foldl {α : Type} {f : State → α → State} (h : ∀ u a, LeavesAlone u (f u a) i) (l : List α) :
    LeavesAlone s (l.foldl f s) i := by
  induction l generalizing s with
  | nil => exact .refl s i
  | cons a l ih => exact (h s a).trans ih

theorem LeavesAlone.of_reevaluateDeferred (r : Resource) : LeavesAlone s (s.reevaluateDeferred r) i :=
  .of_foldl (fun _ _ => .of_reevaluate _) _

end

/-! ### The end of a wait (R38, R40) -/

section
variable {s : State} {e : LockEntry} {c : Claimant}

/-- R38, R40: an entry that is no claim in flight is freed, and its slot completes. -/
theorem endWait_frees (hc : e.claimant = some c) (hno : e.isClaiming = false) (k : Code) :
    s.endWait e k = (s.freeEntry e.id).completeBare c.slot k := by
  simp [State.endWait, hc, hno]

/-- R28: after a claim in flight its DEFERRED siblings are evaluated again. -/
theorem endWait_claiming (hc : e.claimant = some c) (hclaims : e.isClaiming = true) (k : Code) :
    s.endWait e k = ((s.freeEntry e.id).completeBare c.slot k).reevaluateDeferred e.resource := by
  simp [State.endWait, hc, hclaims]

/-- An entry has been freed, and the slot that it alone named completes and is no entry's. -/
theorem endWait_slot (hc : e.claimant = some c)
    (halone : ∀ x ∈ s.lock.entries, x.id ≠ e.id → x.slot ≠ some c.slot) (k : Code) :
    (s.endWait e k).NamedByNone c.slot ∧ ((s.endWait e k).slot c.slot).state = .done ∧
      ((s.endWait e k).slot c.slot).result = .bare k := by
  let u := (s.freeEntry e.id).completeBare c.slot k
  have hnone : u.NamedByNone c.slot := by
    have hentries : u.lock.entries = s.lock.entries.filter (fun x => decide (x.id ≠ e.id)) :=
      (congrArg LockEngine.entries (complete_lock _ _ _)).trans (freeEntry_entries s e.id)
    intro x hx
    rw [hentries] at hx
    obtain ⟨hx, hid⟩ := List.mem_filter.1 hx
    exact halone x hx (of_decide_eq_true hid)
  have hslot := slot_complete (s.freeEntry e.id) c.slot c.slot k (.bare k)
  rw [if_pos rfl] at hslot
  have hdone : (u.slot c.slot).state = .done ∧ (u.slot c.slot).result = .bare k :=
    ⟨congrArg (fun x : Slot => x.state) hslot, congrArg (fun x : Slot => x.result) hslot⟩
  cases hclaims : e.isClaiming with
  | false =>
    rw [endWait_frees hc hclaims]
    exact ⟨hnone, hdone⟩
  | true =>
    rw [endWait_claiming hc hclaims]
    obtain ⟨hnone', hsame⟩ := LeavesAlone.of_reevaluateDeferred e.resource hnone
    rw [hsame]
    exact ⟨hnone', hdone⟩

@[simp] theorem endWait_queries (s : State) (e : LockEntry) (k : Code) :
    (s.endWait e k).lock.queries = s.lock.queries := by
  unfold State.endWait State.completeBare
  split
  · rfl
  · dsimp only
    split <;> simp

end

end Sys2Proof.Machine
end

section
/-! PROOFS. What the fence leaves (R17, R98, R104, R139): the member records, the own timers and tag, the queue and the
notices. -/

namespace Sys2Proof.Machine

open Sys2Proof

/-! ### The membership unit's withdrawals (R97, R98) -/

section
variable (s : State) (x y : StationNo)

theorem record_restartSilenceIfPresent : (s.restartSilenceIfPresent y).record x =
    if x = y ∧ (s.record x).state = .present ∧ s.link.state ≠ .off then
      { s.record x with silence := some s.presenceTimeout }
    else s.record x := by
  have hzero : s.record 0 = .reset := dif_pos rfl
  unfold State.restartSilenceIfPresent State.restartSilence
  by_cases hp : (s.record y).state = .present ∧ s.link.state ≠ .off
  · rw [if_pos hp, record_setRecord]
    by_cases hxy : x = y
    · subst hxy
      have hx : x ≠ 0 := by
        rintro rfl
        rw [hzero] at hp
        exact nomatch hp.1
      rw [if_pos ⟨rfl, hx⟩, if_pos ⟨rfl, hp⟩]
    · rw [if_neg fun h => hxy h.1, if_neg fun h => hxy h.1]
  · rw [if_neg hp, if_neg]
    rintro ⟨rfl, h⟩
    exact hp h

/-- The silence timers of a list of stations run again where they are PRESENT. -/
theorem record_restartAll (l : List StationNo) : (l.foldl State.restartSilenceIfPresent s).record x =
    if x ∈ l ∧ (s.record x).state = .present ∧ s.link.state ≠ .off then
      { s.record x with silence := some s.presenceTimeout }
    else s.record x := by
  induction l generalizing s with
  | nil => simp
  | cons y l ih =>
    have htimeout : (s.restartSilenceIfPresent y).presenceTimeout = s.presenceTimeout := by
      simp only [State.presenceTimeout, State.beaconInterval,
        config_of_shell (restartSilenceIfPresent_shell s y)]
    rw [List.foldl_cons, ih, restartSilenceIfPresent_link, htimeout, record_restartSilenceIfPresent]
    by_cases hp : (s.record x).state = .present ∧ s.link.state ≠ .off
    · by_cases hxy : x = y
      · subst hxy
        simp [hp]
      · simp [hp, hxy]
    · simp [hp]

/-- R98: a station whose DEPART is withdrawn has its silence timer run again where it is PRESENT. -/
theorem record_withdrawMembership : s.withdrawMembership.record x =
    if x ∈ s.withdrawnDeparts ∧ (s.record x).state = .present ∧ s.link.state ≠ .off then
      { s.record x with silence := some s.Timeout }
    else s.record x :=
  record_restartAll _ x s.withdrawnDeparts

/-- R104: the own timers stop; the own tag stays till the fence is done. -/
theorem withdrawMembership_timers : s.withdrawMembership.member.beaconTimer = none ∧
    s.withdrawMembership.member.fenceTimer = none := by
  have hkeeps : ∀ (u : State) z, ((u.restartSilenceIfPresent z).member.beaconTimer,
      (u.restartSilenceIfPresent z).member.fenceTimer) = (u.member.beaconTimer, u.member.fenceTimer) := by
    intro u z
    unfold State.restartSilenceIfPresent State.restartSilence State.setRecord
    split
    · split <;> rfl
    · rfl
  have htimers := foldl_keeps (fun u : State => (u.member.beaconTimer, u.member.fenceTimer)) _ hkeeps
    s.withdrawnDeparts ((s.stopOwnTimers.withDeparts []).withFrames s.framesWithoutMembership)
  exact ⟨congrArg Prod.fst htimers, congrArg Prod.snd htimers⟩

theorem withdrawMembership_notices : s.withdrawMembership.notices = s.notices := by
  refine foldl_keeps State.notices _ (fun u z => ?_) _ _
  unfold State.restartSilenceIfPresent State.restartSilence
  split
  · exact setRecord_notices _ _ _
  · rfl

end

/-! ### The fence up to its change of the station state (R104) -/

section
variable (s : State) (k : FenceCause)

theorem setRecord_timers (x : StationNo) (r : MemberRecord) :
    (s.setRecord x r).member.beaconTimer = s.member.beaconTimer ∧
      (s.setRecord x r).member.fenceTimer = s.member.fenceTimer := by
  unfold State.setRecord
  split <;> exact ⟨rfl, rfl⟩

/-- With every entry LOST no waiter is woken, so the own record is the last of it. -/
theorem fenced_eq : s.fenced k = (s.withdrawMembership.convert .fenced).endOwnRecord.enterNotice
    (.fenced k (s.withdrawMembership.convert .fenced).lostEntries) := by
  rw [State.fenced, wakeWaiters_of_lost]
  rw [State.endOwnRecord, setRecord_lock]
  exact convert_entries_lost _ _

theorem fenced_timers : (s.fenced k).member.beaconTimer = none ∧ (s.fenced k).member.fenceTimer = none := by
  rw [fenced_eq, enterNotice_member, State.endOwnRecord]
  obtain ⟨hbeacon, hfence⟩ := setRecord_timers (s.withdrawMembership.convert .fenced)
    (s.withdrawMembership.convert .fenced).own { (s.withdrawMembership.convert .fenced).record
      (s.withdrawMembership.convert .fenced).own with
        state := .absent, tag := none, epoch := ((s.withdrawMembership.convert .fenced).record
          (s.withdrawMembership.convert .fenced).own).epoch + 1 }
  rw [hbeacon, hfence, convert_member]
  exact withdrawMembership_timers s

/-- R91, R98: the records after the fence. -/
theorem fenced_record (x : StationNo) : (s.fenced k).record x =
    if x = s.own ∧ s.own ≠ 0 then
      { s.withdrawMembership.record s.own with
        state := .absent, tag := none, epoch := (s.record s.own).epoch + 1 }
    else s.withdrawMembership.record x := by
  have hown : (s.withdrawMembership.convert .fenced).own = s.own :=
    (own_of_shell (convert_shell _ _)).trans (withdrawMembership_own s)
  have hrecord : ∀ z, (s.withdrawMembership.convert .fenced).record z = s.withdrawMembership.record z := by
    intro z
    unfold State.record
    rw [convert_member]
  have hepoch : (s.withdrawMembership.record s.own).epoch = (s.record s.own).epoch := by
    rw [record_withdrawMembership]
    split <;> rfl
  rw [fenced_eq, enterNotice_record, State.endOwnRecord, record_setRecord, hown, hrecord, hrecord, hepoch]

/-- R98: the other stations' records. -/
theorem fenced_othersKept : OthersKept s (s.fenced k) := by
  intro x hx
  rw [fenced_record, if_neg fun h => hx h.1, record_withdrawMembership]
  refine ⟨?_, ?_, ?_, fun hnot => if_neg fun h => hnot h.1, fun hmem hp hl => if_pos ⟨hmem, hp, hl⟩, ?_⟩
  · split <;> rfl
  · split <;> rfl
  · split <;> rfl
  · rintro (hp | hl)
    · exact if_neg fun h => hp h.2.1
    · exact if_neg fun h => h.2.2 hl

/-- R104, R139: the frames that both the membership unit's withdrawals and the conversion leave. -/
theorem convertedFrames_withdrawMembership : s.withdrawMembership.convertedFrames = s.FramesAfterFence := by
  unfold State.convertedFrames State.FramesAfterFence
  rw [withdrawMembership_queue]
  unfold State.framesWithoutMembership
  rw [List.filterMap_filterMap]
  refine congrArg (List.filterMap · s.queue.frames) (funext fun f => ?_)
  have hlink : ∀ g, s.withdrawMembership.onLink g = s.onLink g := fun g => by
    simp only [State.onLink, withdrawMembership_link]
  have hother : f.departNamed.any (fun x => decide (x ≠ s.own)) = f.departsOther s.own := by
    unfold FrameRecord.departsOther
    cases f.departNamed <;> rfl
  rw [hother, Bool.or_assoc]
  change _ = if (f.kind.isLock || f.endsWithMembership s.own) = true then _ else _
  by_cases hends : f.endsWithMembership s.own = true
  · have hlock := isLock_of_endsWithMembership hends
    cases hon : s.onLink f <;> simp [hends, hlock]
  · rw [Bool.not_eq_true] at hends
    simp [hends, hlink]

theorem fenced_queue : (s.fenced k).queue = ⟨s.FramesAfterFence, s.queue.nextAge⟩ := by
  rw [fenced_eq, enterNotice_queue, State.endOwnRecord, setRecord_queue, convert_queue,
    convertedFrames_withdrawMembership, withdrawMembership_queue]

/-! ### The notices (R17, R104) -/

/-- A row of completions tells those whose slots ask for it. -/
theorem notices_completeBare_foldl (c : Code) (n : SlotIx → Bool) (l : List SlotIx) (s v : State)
    (hn : ∀ i, (s.slot i).notify = n i) (hv : s.notices = v.notices) :
    (l.foldl (fun u i => u.completeBare i c) s).notices
      = (l.foldl (fun u i => u.Tell (n i) (.completed i c)) v).notices := by
  induction l generalizing s v with
  | nil => exact hv
  | cons j l ih =>
    rw [List.foldl_cons, List.foldl_cons]
    refine ih _ _ (fun i => ?_) ?_
    · rw [State.completeBare, slot_complete, ← hn i]
      split
      · rename_i hij; rw [hij]
      · rfl
    · rw [State.completeBare, complete_notices, hn j]
      exact tell_notices_congr hv

theorem convert_notices (c : Code) : (s.convert c).notices = (s.TellWaiting s c).notices :=
  notices_completeBare_foldl c (fun i => (s.slot i).notify) s.waitingSlots _ s (fun _ => rfl) rfl

/-- What a conversion tells is a matter of the lock engine, the ring and the notices before it. -/
theorem tellWaiting_notices_congr {s t u v : State} {c : Code} (hlock : t.lock = s.lock) (hring : t.ring = s.ring)
    (hn : v.notices = u.notices) : (t.TellWaiting v c).notices = (s.TellWaiting u c).notices := by
  have hslots : t.waitingSlots = s.waitingSlots := by simp only [State.waitingSlots, hlock]
  have key : ∀ (l : List SlotIx) (u v : State), v.notices = u.notices →
      (l.foldl (fun w i => w.Tell (t.slot i).notify (.completed i c)) v).notices
        = (l.foldl (fun w i => w.Tell (s.slot i).notify (.completed i c)) u).notices := by
    intro l
    induction l with
    | nil => exact fun _ _ h => h
    | cons j l ih =>
      intro u v h
      refine ih _ _ ?_
      dsimp only
      rw [slot_of_ring hring]
      exact tell_notices_congr h
  unfold State.TellWaiting
  rw [hslots]
  exact key _ u v hn

theorem fenced_notices : (s.fenced k).notices = s.NoticesOfFence s k := by
  have hlost : (s.withdrawMembership.convert .fenced).lostEntries
      = (s.lock.entries.filterMap LockEntry.Converted).countP LockEntry.isLost := by
    rw [State.lostEntries, convert_lock, withdrawMembership_lock, toLost_eq_converted]
  rw [fenced_eq, hlost]
  unfold State.NoticesOfFence
  refine enterNotice_notices_congr _ ?_
  rw [State.endOwnRecord, setRecord_notices, convert_notices]
  exact tellWaiting_notices_congr (withdrawMembership_lock s) (withdrawMembership_ring s)
    (withdrawMembership_notices s)

end

end Sys2Proof.Machine
end

section
/-! PROOFS. A truncation and a loss of synchronization (R119, R124): at a listener, and at a sender after its collision
(R118). -/

namespace Sys2Proof.Machine

open Sys2Proof

/-! ### Where no own frame is on the link -/

/-- R131: without an own frame on the link none of the queue's is there. -/
theorem onLink_of_noFrame {s : State} (h : s.link.state.ownAge = none) (f : FrameRecord) : s.onLink f = false := by
  simp [State.onLink, h]

/-- A station that is not sending, outside SEEKING, and whose link is not OFF. -/
structure State.Hearing (s : State) : Prop where
  frame : s.link.state.ownAge = none
  state : s.link.state ≠ .off

section
variable {s : State} (hh : s.Hearing)
include hh

theorem linkSeeking_onLink : s.linkSeeking.onLink = s.onLink :=
  funext fun f => (onLink_of_noFrame rfl f).trans (onLink_of_noFrame hh.frame f).symm

theorem linkSeeking_framesAfterFence : s.linkSeeking.FramesAfterFence = s.FramesAfterFence := by
  unfold State.FramesAfterFence
  rw [linkSeeking_onLink hh]
  rfl

theorem linkSeeking_withdrawnDeparts : s.linkSeeking.withdrawnDeparts = s.withdrawnDeparts := by
  unfold State.withdrawnDeparts
  rw [linkSeeking_onLink hh]
  rfl

theorem convertsTo_of_linkSeeking {t : State} {c : Code} (h : ConvertsTo s.linkSeeking t c) : ConvertsTo s t c := by
  obtain ⟨hentries, hqueries, hwants, hframes, hnamed, hothers⟩ := h
  rw [linkSeeking_onLink hh] at hframes
  exact ⟨hentries, hqueries, hwants, hframes, hnamed, hothers⟩

theorem othersKept_of_linkSeeking {t : State} (h : OthersKept s.linkSeeking t) : OthersKept s t := by
  intro x hx
  obtain ⟨hstate, htag, hepoch, hout, hin, hsame⟩ := h x hx
  rw [linkSeeking_withdrawnDeparts hh] at hout hin
  refine ⟨hstate, htag, hepoch, hout, fun hmem hp _ => hin hmem hp nofun, ?_⟩
  rintro (hp | hl)
  · exact hsame (.inl hp)
  · exact absurd hl hh.state

end

theorem linkSeeking_noticesOfFence (s : State) (k : FenceCause) :
    s.linkSeeking.NoticesOfFence s.linkSeeking k = s.NoticesOfFence s k :=
  enterNotice_notices_congr _ (tellWaiting_notices_congr (s := s) (t := s.linkSeeking) rfl rfl rfl)

/-! ### A loss of synchronization fences a MEMBER (R103, R104, R124) -/

section
variable {s : State}

/-- R89: in SEEKING no JOIN is wanted. -/
theorem loseSync_member (hm : s.member.station = .member) :
    s.loseSync = s.linkSeeking.fence .sync ∧ s.loseSync = s.linkSeeking.rejoining .sync := by
  have hfence : s.linkSeeking.fence .sync = s.linkSeeking.rejoining .sync := (fence_eq _ _).trans (if_neg nofun)
  have hloses : s.loseSync = s.linkSeeking.fence .sync := if_pos hm
  exact ⟨hloses, hloses.trans hfence⟩

theorem loseSync_other (hm : s.member.station ≠ .member) :
    s.loseSync = { s with link := ⟨.seeking, 0, 0, .recessive⟩ } := if_neg hm

theorem loseSync_link (hm : s.member.station = .member) : s.loseSync.link = ⟨.seeking, 0, 0, .recessive⟩ := by
  rw [(loseSync_member hm).2, rejoining_link]
  rfl

theorem rejoining_queue (k : FenceCause) : (s.rejoining k).queue = (s.fenced k).queue := by
  rw [State.rejoining, State.withMember_queue]

theorem rejoining_notices (k : FenceCause) : (s.rejoining k).notices = (s.fenced k).notices := by
  rw [State.rejoining, State.withMember_notices]

theorem rejoining_member (k : FenceCause) : (s.rejoining k).member
    = { (s.fenced k).member with ownTag := s.member.ownTag.map nextTag, station := .joining } := by
  rw [State.rejoining, State.withMember_member]

theorem rejoining_record (k : FenceCause) (x : StationNo) : (s.rejoining k).record x = (s.fenced k).record x := by
  unfold State.record
  rw [rejoining_member]

theorem rejoining_othersKept (k : FenceCause) : OthersKept s (s.rejoining k) := by
  intro x hx
  rw [rejoining_record]
  exact fenced_othersKept s k x hx

/-- R104: the membership unit after the fence. -/
theorem loseSync_member_eq (hm : s.member.station = .member) : s.loseSync.member.station = .joining ∧
    s.loseSync.member.beaconTimer = none ∧ s.loseSync.member.fenceTimer = none ∧ s.loseSync.member.departs = [] ∧
      s.loseSync.member.ownTag = s.member.ownTag.map TagAfterFence := by
  obtain ⟨hbeacon, hfenceTimer⟩ := fenced_timers s.linkSeeking .sync
  rw [(loseSync_member hm).2, rejoining_member]
  generalize hw : s.linkSeeking.fenced .sync = w at hbeacon hfenceTimer ⊢
  have hdeparts : w.member.departs = [] := by
    rw [← hw]
    exact fenced_departs s.linkSeeking .sync
  exact ⟨rfl, hbeacon, hfenceTimer, hdeparts, rfl⟩

/-- R91: the own record becomes ABSENT. -/
theorem loseSync_ownRecord (hm : s.member.station = .member) (hown : s.own ≠ 0) :
    (s.loseSync.record s.own).state = .absent ∧ (s.loseSync.record s.own).tag = none ∧
      (s.loseSync.record s.own).epoch = (s.record s.own).epoch + 1 := by
  have hrecord := (fenced_record s.linkSeeking .sync s.own).trans (if_pos ⟨rfl, hown⟩)
  rw [(loseSync_member hm).2, rejoining_record, hrecord]
  exact ⟨rfl, rfl, rfl⟩

/-- R104: the fence at a loss of synchronization of a station that is not sending. -/
theorem loseSync_fences (hh : s.Hearing) (hm : s.member.station = .member) :
    s.loseSync.member.station = .joining ∧ ConvertsTo s s.loseSync .fenced ∧
      s.loseSync.member.beaconTimer = none ∧ s.loseSync.member.fenceTimer = none ∧ s.loseSync.member.departs = [] ∧
      s.loseSync.member.ownTag = s.member.ownTag.map TagAfterFence ∧
      (s.own ≠ 0 → (s.loseSync.record s.own).state = .absent ∧ (s.loseSync.record s.own).tag = none ∧
        (s.loseSync.record s.own).epoch = (s.record s.own).epoch + 1) ∧
      OthersKept s s.loseSync ∧ s.loseSync.queue = ⟨s.FramesAfterFence, s.queue.nextAge⟩ ∧
      s.loseSync.notices = s.NoticesOfFence s .sync := by
  obtain ⟨hstation, hbeacon, hfenceTimer, hdeparts, htag⟩ := loseSync_member_eq hm
  have hconverts : ConvertsTo s.linkSeeking s.loseSync .fenced := by
    rw [(loseSync_member hm).1]
    exact fence_convertsTo s.linkSeeking .sync
  have hothers : OthersKept s.linkSeeking s.loseSync := by
    rw [(loseSync_member hm).2]
    exact rejoining_othersKept .sync
  have hqueue : s.loseSync.queue = ⟨s.linkSeeking.FramesAfterFence, s.queue.nextAge⟩ := by
    rw [(loseSync_member hm).2, rejoining_queue]
    exact fenced_queue s.linkSeeking .sync
  rw [linkSeeking_framesAfterFence hh] at hqueue
  have hnotices : s.loseSync.notices = s.NoticesOfFence s .sync := by
    rw [(loseSync_member hm).2, rejoining_notices]
    exact (fenced_notices s.linkSeeking .sync).trans (linkSeeking_noticesOfFence s .sync)
  exact ⟨hstation, convertsTo_of_linkSeeking hh hconverts, hbeacon, hfenceTimer, hdeparts, htag,
    loseSync_ownRecord hm, othersKept_of_linkSeeking hh hothers, hqueue, hnotices⟩

/-- R17: the slots that nothing names stand. -/
theorem loseSync_slot (hm : s.member.station = .member) {i : SlotIx} (hi : ¬ s.Names i) :
    s.loseSync.slot i = s.slot i := by
  obtain ⟨-, -, -, -, -, hothers⟩ := fence_convertsTo s.linkSeeking .sync
  rw [← (loseSync_member hm).1] at hothers
  exact hothers i hi

/-- R17: in SEEKING no lock-engine frame is on the link, so none stays. -/
theorem loseSync_no_lock_frame (hm : s.member.station = .member) :
    ∀ g ∈ s.loseSync.queue.frames, g.kind.isLock = false := by
  obtain ⟨-, -, -, hframes, -⟩ := fence_convertsTo s.linkSeeking .sync
  rw [← (loseSync_member hm).1] at hframes
  have hnil : s.loseSync.queue.frames.filter (fun f => f.kind.isLock) = [] := by
    have hoff : ∀ f, s.linkSeeking.onLink f = false := onLink_of_noFrame rfl
    simpa [hoff] using hframes
  intro g hg
  simpa using List.filter_eq_nil_iff.1 hnil g hg

end

/-! ### A sender's collision comes first (R118) -/

section
variable {s : State} {o : OwnFrame} (ho : s.link.state = .arbitrating o ∨ s.link.state = .sending o)
include ho

theorem exec_collision_sender : exec .collision s = .next (s.collide o) := by
  obtain ho | ho := ho <;> simp [exec, execCollision, ho]

theorem exec_truncation_sender : exec .truncation s
    = .next (if (s.collide o).link.state = .listening then (s.collide o).truncated else s.collide o) := by
  obtain ho | ho := ho <;> simp [exec, execTruncation, ho]

theorem exec_loss_sender : exec .lossOfSynchronization s
    = .next (if (s.collide o).link.state = .listening then (s.collide o).loseSync else s.collide o) := by
  obtain ho | ho := ho <;> simp [exec, execLossOfSynchronization, State.collideAndLoseSync, ho]

end

section
variable {s : State}

theorem exec_truncation_listener (h : s.link.state = .listening ∨ (∃ v, s.link.state = .vetoSlot v) ∨
    ∃ f, s.link.state = .listeningAnswer f) : exec .truncation s = .next s.truncated := by
  obtain h | ⟨v, h⟩ | ⟨f, h⟩ := h <;> simp [exec, execTruncation, h]

theorem exec_loss_listener (h : s.link.state = .idle ∨ s.link.state = .listening ∨ s.link.state = .leading ∨
    ∃ v, s.link.state = .vetoSlot v) : exec .lossOfSynchronization s = .next s.loseSync ∧ s.Hearing := by
  obtain h | h | h | ⟨v, h⟩ := h <;>
    exact ⟨by simp [exec, execLossOfSynchronization, h], by simp [h, LinkState.ownAge], by simp [h]⟩

end

/-! ### The eighth failure of a fresh CLAIM (R35, R118) -/

/-- The CLAIM f of the fresh claim e, which names slot sl, is on its eighth attempt. -/
structure EighthClaim (s : State) (o : OwnFrame) (f : FrameRecord) (e : LockEntry) (c : Claimant) : Prop where
  found  : s.frameAt o.age = some f
  live   : f.withdrawn = false
  count  : 7 ≤ f.attempts
  kind   : f.kind = .claim
  owner  : f.owner = .lock (.entry e.id)
  entry  : s.entry e.id = some e
  claims : e.isClaiming = true
  claim  : e.claimant = some c
  named  : s.PendingSlotsAreNamed

section
variable {s : State} {o : OwnFrame} {f : FrameRecord} {e : LockEntry} {c : Claimant} (he : EighthClaim s o f e c)
include he

/-- R35: the frame has left, and the wait ends. -/
theorem collide_abandons : s.collide o = (s.stopSending.leaveQueue f).endWait e .linkFail := by
  have hcount : ¬ f.attempts + 1 < Config.attempts := Nat.not_lt.2 (Nat.succ_le_succ he.count)
  have hentry : (s.stopSending.leaveQueue f).entry e.id = some e := by
    unfold State.entry
    rw [leaveQueue_lock (by rw [he.kind]; rfl), admitWant_entries]
    exact he.entry
  have hfails : s.stopSending.reportFailed o.age = (s.stopSending.leaveQueue f).entryAbandoned e.id := by
    have hfound : s.stopSending.frameAt o.age = some f := he.found
    simp only [State.reportFailed, hfound, he.live, State.abandoned, he.owner]
    rw [if_neg (by decide), if_neg hcount]
  have hclaims := he.claims
  unfold State.collide
  rw [hfails, State.entryAbandoned, hentry]
  cases hst : e.state <;> simp [LockEntry.isClaiming, hst] at hclaims ⊢

theorem collide_beyondLock : (s.collide o).beyondLock = s.stopSending.beyondLock := by
  rw [collide_abandons he, endWait_beyondLock, leaveQueue_lock (by rw [he.kind]; rfl), admitWant_beyondLock]
  rfl

/-- The slot has completed, and nothing names it. -/
theorem collide_slot : ¬ (s.collide o).Names c.slot ∧ ((s.collide o).slot c.slot).state = .done ∧
    ((s.collide o).slot c.slot).result = .bare .linkFail := by
  obtain ⟨hslots, -⟩ := he.named
  have hmem := mem_of_entry he.entry
  have hslot := slot_of_claimant he.claim
  have hentries : (s.stopSending.leaveQueue f).lock.entries = s.lock.entries := by
    rw [leaveQueue_lock (by rw [he.kind]; rfl), admitWant_entries]
    rfl
  have hqueries : (s.stopSending.leaveQueue f).lock.queries = s.lock.queries := by
    rw [leaveQueue_lock (by rw [he.kind]; rfl), admitWant_queries]
    rfl
  obtain ⟨hnone, hdone, hresult⟩ := endWait_slot (s := s.stopSending.leaveQueue f) he.claim (fun x hx hid hxs => by
    rw [hentries] at hx
    exact hid (congrArg LockEntry.id (id_eq_of_slot he.named hx hmem hxs hslot))) .linkFail
  rw [collide_abandons he]
  refine ⟨?_, hdone, hresult⟩
  rintro (⟨x, hx, hxs⟩ | ⟨q, hq, hqs⟩)
  · exact hnone x hx hxs
  · rw [endWait_queries, hqueries] at hq
    have hentry : c.slot ∈ s.lock.entries.filterMap LockEntry.slot := List.mem_filterMap.2 ⟨e, hmem, hslot⟩
    have hquery : c.slot ∈ s.lock.queries.map PendingQuery.slot := List.mem_map.2 ⟨q, hq, hqs⟩
    exact (List.nodup_append.1 hslots).2.2 _ hentry _ hquery rfl

/-- R118, R124: the slot completes LINK_FAIL, and then a MEMBER is fenced. -/
theorem exec_loss_eighthClaim (ho : s.link.state = .arbitrating o ∨ s.link.state = .sending o)
    (hm : s.member.station = .member) : ∃ t, exec .lossOfSynchronization s = .next t ∧ t.member.station = .joining ∧
      t.link = ⟨.seeking, 0, 0, .recessive⟩ ∧ (t.slot c.slot).state = .done ∧
      (t.slot c.slot).result = ⟨some .linkFail, none, none, none, none⟩ ∧
      ∀ g ∈ t.queue.frames, g.kind.isLock = false := by
  have hbeyond := collide_beyondLock he
  have hlink : (s.collide o).link.state = .listening := congrArg Transceiver.state (link_of_beyondLock hbeyond)
  have hmember : (s.collide o).member.station = .member :=
    (congrArg MembershipUnit.station (member_of_beyondLock hbeyond)).trans hm
  have hhears : (s.collide o).Hearing := ⟨by rw [hlink]; rfl, by rw [hlink]; nofun⟩
  obtain ⟨hunnamed, hdone, hresult⟩ := collide_slot he
  obtain ⟨hjoins, -⟩ := loseSync_fences hhears hmember
  rw [← loseSync_slot hmember hunnamed] at hdone hresult
  exact ⟨_, (exec_loss_sender ho).trans (by rw [if_pos hlink]), hjoins, loseSync_link hmember, hdone, hresult,
    loseSync_no_lock_frame hmember⟩

end

/-- Settles O55: a sender's collision first, then what a listener makes of either event. -/
theorem truncationDropsAndLossOfSynchronizationFences :
    Obligations.TruncationDropsAndLossOfSynchronizationFences := by
  intro s
  refine ⟨fun o ho => ⟨s.collide o, exec_collision_sender ho, fun hlink => ?_, fun hlink => ?_, ?_⟩, fun h => ?_,
    fun f h => ?_, fun h => ?_⟩
  · rw [exec_truncation_sender ho, exec_loss_sender ho, if_pos hlink, if_pos hlink,
      exec_truncation_listener (.inl hlink), (exec_loss_listener (.inr (.inl hlink))).1]
    exact ⟨rfl, rfl⟩
  · rw [exec_truncation_sender ho, exec_loss_sender ho, if_neg hlink, if_neg hlink]
    exact ⟨rfl, rfl⟩
  · intro f id e c sl p d rt hfound hlive hcount hkind howner hentry hst hnamed hm
    obtain rfl := id_of_entry hentry
    exact exec_loss_eighthClaim (c := ⟨e.id, e.resource, c, sl, p, d⟩) ⟨hfound, hlive, hcount, hkind, howner, hentry,
      by simp [LockEntry.isClaiming, hst], by simp [LockEntry.claimant, hst], hnamed⟩ ho hm
  · exact exec_truncation_listener (h.imp_right .inl)
  · exact exec_truncation_listener (.inr (.inr ⟨f, h⟩))
  · obtain ⟨hexec, hh⟩ := exec_loss_listener h
    refine ⟨fun hm => by rw [hexec, loseSync_other hm], fun hm => ⟨_, hexec, ?_⟩⟩
    obtain ⟨hjoins, hconverts, hrest⟩ := loseSync_fences hh hm
    exact ⟨hjoins, loseSync_link hm, hconverts, hrest⟩

end Sys2Proof.Machine
end

section
/-! PROOFS. With no own frame on the link, what an evaluation under a holder entry makes of entries and slots does not
depend on the frames and the wants that there are (R4, R23 to R26): it is that of the state without them. -/

namespace Sys2Proof.Machine

open Sys2Proof

/-! ### A state without frames and wants -/

/-- The state with an empty queue and no want. -/
def State.bare (s : State) : State := (s.withQueue .reset).withWants []

section
variable (s : State)

@[simp] theorem bare_config : s.bare.config = s.config := rfl
@[simp] theorem bare_link : s.bare.link = s.link := rfl
@[simp] theorem bare_entries : s.bare.lock.entries = s.lock.entries := rfl
@[simp] theorem bare_entry (id : Nat) : s.bare.entry id = s.entry id := rfl
@[simp] theorem bare_slot (i : SlotIx) : s.bare.slot i = s.slot i := rfl
@[simp] theorem bare_holderOf (r : Resource) : s.bare.holderOf r = s.holderOf r := rfl

theorem bare_wantsNothing (o : Owner) : s.bare.WantsNothing o := ⟨List.not_mem_nil, fun _ hf => nomatch hf⟩

theorem admitWant_bare : s.admitWant.bare = s.bare := by
  unfold State.admitWant; split
  · rfl
  · split <;> rfl

/-- R15, R133 to R135: a withdrawal changes frames and wants alone. -/
theorem withdrawOwner_bare (o : Owner) : (s.withdrawOwner o).bare = s.bare := by
  have hremove : ∀ (u : State) f, (u.removeFrame f).bare = u.bare := by
    intro u f
    unfold State.removeFrame; dsimp only; split
    · exact admitWant_bare _
    · rfl
  unfold State.withdrawOwner State.withdrawFrame; dsimp only; split
  · split
    · rfl
    · exact hremove _ _
  · rfl

theorem bare_withdrawOwner (o : Owner) : s.bare.withdrawOwner o = s.bare :=
  withdrawOwner_none (bare_wantsNothing s o).1 (bare_wantsNothing s o).2

theorem freeEntry_bare (id : Nat) : (s.freeEntry id).bare = s.bare.freeEntry id := by
  have hbare : s.bare.freeEntry id = s.bare.dropEntry id :=
    freeEntry_unwanted (bare_wantsNothing s _).1 (bare_wantsNothing s _).2
  rw [hbare]
  exact withdrawOwner_bare (s.dropEntry id) (.entry id)

theorem putEntry_bare (c : Claimant) (st : EntryState) : (s.putEntry c st).bare = s.bare.putEntry c st := by
  unfold State.putEntry
  rw [bare_entries]
  split <;> rfl

theorem enterNotice_bare (b : NoticeBody) : (s.enterNotice b).bare = s.bare.enterNotice b := by
  rw [enterNotice_eq s, enterNotice_eq s.bare]
  exact congrArg (State.withNotices s.bare) (enterNotice_notices_congr (s := s) (t := s.bare) b rfl)

theorem complete_bare (i : SlotIx) (c : Code) (r : SlotResult) : (s.complete i c r).bare = s.bare.complete i c r := by
  unfold State.complete
  rw [bare_slot]
  cases (s.slot i).notify with
  | false => rfl
  | true => exact enterNotice_bare _ _

theorem issueTicket_bare {h : LockEntry} (hh : h.isHolder = true) : (s.issueTicket h).bare = s.bare.issueTicket h := by
  rw [issueTicket_eq hh, issueTicket_eq hh]
  exact congrArg (State.withNotices (s.bare.setEntry h.id h.Issued)) (notesIssued_congr rfl)

end

section
variable {s : State}

/-- R23 to R26: step 7 under a holder entry. -/
theorem evaluate_bare {c : Claimant} (hh : (s.holderOf c.resource).isSome = true) :
    (s.evaluate c).bare = s.bare.evaluate c := by
  obtain ⟨h, hh⟩ := Option.isSome_iff_exists.1 hh
  obtain ⟨-, -, hholder⟩ := holderOf_some hh
  have hbare : s.bare.holderOf c.resource = some h := hh
  by_cases hp : c.policy = .nowait
  · rw [evaluate_busy hh hp, evaluate_busy hbare hp, complete_bare, freeEntry_bare]
    rfl
  · by_cases hroom : h.span.toNat < s.spanLimit
    · rw [evaluate_ticket hh hp hroom, evaluate_ticket hbare hp hroom, issueTicket_bare _ hholder]
      exact congrArg (fun u : State => (u.setSlotStation c.slot (some s.own)).issueTicket h) (putEntry_bare _ _ _)
    · have hfull := Nat.not_lt.1 hroom
      rw [evaluate_full hh hp hfull, evaluate_full hbare hp hfull]
      exact congrArg (fun u : State => u.setSlotStation c.slot none) (putEntry_bare _ _ _)

/-- R4, R23 to R26: an entry is evaluated again under a holder entry, with nothing on the link. -/
theorem reevaluate_bare {id : Nat} (hl : s.link.state.ownAge = none)
    (hh : ∀ e, s.entry id = some e → (s.holderOf e.resource).isSome = true) :
    (s.reevaluate id).bare = s.bare.reevaluate id := by
  have hoff : ∀ u : State, u.link.state.ownAge = none → u.ownerOnLink (.entry id) = false := by
    intro u hu
    simp [State.ownerOnLink, onLink_of_noFrame hu]
  unfold State.reevaluate
  rw [bare_entry]
  cases he : s.entry id with
  | none => rfl
  | some e =>
    dsimp only
    cases hc : e.claimant with
    | none => rfl
    | some c =>
      obtain ⟨-, -, hr⟩ := claim_of_claimant hc
      have hholder : ((s.withdrawOwner (.entry id)).holderOf c.resource).isSome = true := by
        unfold State.holderOf
        rw [withdrawOwner_entries, hr]
        exact hh e he
      simp only [hoff s hl, hoff s.bare hl, Bool.false_eq_true, if_false]
      rw [evaluate_bare hholder, withdrawOwner_bare, bare_withdrawOwner]

end

/-! ### Entries placed in turn, whatever their frames -/

/-- The entries of a list may be evaluated one after the other under holder entry h, whatever their frames. -/
structure Placeable (s : State) (h : LockEntry) (l : List LockEntry) : Prop where
  unique : s.UniqueIds
  holder : s.holderOf h.resource = some h
  waits  : ∀ y ∈ l, y ∈ s.lock.entries ∧ y.resource = h.resource ∧ ∃ c, y.claimant = some c
  apart  : l.Pairwise LockEntry.Apart
  link   : s.link.state.ownAge = none

section
variable {s : State} {h : LockEntry} {l : List LockEntry}

theorem Placeable.inTurn (hp : Placeable s h l) : InTurn s.bare h l :=
  ⟨hp.unique, hp.holder, fun y hy => by
    obtain ⟨hmem, hres, hclaims⟩ := hp.waits y hy
    exact ⟨hmem, hres, hclaims, bare_wantsNothing s _⟩, hp.apart⟩

/-- One entry placed: the rest may be. -/
theorem InTurn.next {y : LockEntry} (ht : InTurn s h (y :: l)) : ∃ h', h'.id = h.id ∧ h'.resource = h.resource ∧
    InTurn (s.reevaluate y.id) h' l := by
  obtain ⟨hy, hyr, ⟨c, hc⟩, hn⟩ := ht.waits y List.mem_cons_self
  obtain ⟨-, -, hholder⟩ := holderOf_some ht.holder
  obtain ⟨hid, hres, -⟩ := holderAfter_facts (s := s) hholder c.policy
  exact ⟨_, hid, hres, ht.step (places ht.unique (hyr ▸ ht.holder) hy hc hn)⟩

/-- R4, R23 to R26: the first is evaluated as in the state without frames and wants, and the rest may be placed. -/
theorem Placeable.step {y : LockEntry} (hp : Placeable s h (y :: l)) :
    (s.reevaluate y.id).bare = s.bare.reevaluate y.id ∧
      ∃ h', h'.id = h.id ∧ h'.resource = h.resource ∧ Placeable (s.reevaluate y.id) h' l := by
  obtain ⟨h', hid, hres, hnext⟩ := hp.inTurn.next
  obtain ⟨hy, hyr, -⟩ := hp.waits y List.mem_cons_self
  have hbare : (s.reevaluate y.id).bare = s.bare.reevaluate y.id := by
    refine reevaluate_bare hp.link fun e he => ?_
    rw [hp.unique e (mem_of_entry he) y hy (id_of_entry he), hyr, hp.holder]
    rfl
  rw [← hbare] at hnext
  refine ⟨hbare, h', hid, hres, hnext.unique, hnext.holder, fun z hz => ?_, hnext.apart, ?_⟩
  · obtain ⟨hmem, hzr, hclaims, -⟩ := hnext.waits z hz
    exact ⟨hmem, hzr, hclaims⟩
  · rw [link_of_beyondLock (reevaluate_beyondLock s y.id)]
    exact hp.link

/-- The fold goes on in the state without frames and wants, and its holder entry stays the resource's. -/
theorem Placeable.evaluateInTurn (l : List LockEntry) (s : State) (h : LockEntry) (hp : Placeable s h l) :
    (s.evaluateInTurn l).bare = s.bare.evaluateInTurn l ∧ (s.evaluateInTurn l).UniqueIds ∧
      ∃ h', h'.id = h.id ∧ (s.evaluateInTurn l).holderOf h.resource = some h' := by
  induction l generalizing s h with
  | nil => exact ⟨rfl, hp.unique, h, rfl, hp.holder⟩
  | cons y l ih =>
    obtain ⟨hbare, h', hid, hres, hrest⟩ := hp.step
    obtain ⟨hfold, hunique, k, hkid, hk⟩ := ih _ h' hrest
    rw [hres] at hk
    exact ⟨hfold.trans (congrArg (State.evaluateInTurn · l) hbare), hunique, k, hkid.trans hid, hk⟩

/-- R4, R23 to R28: the entries have been placed, but for frames and wants. -/
theorem Placeable.placed (hp : Placeable s h l) : PlacedInTurn s.bare (s.evaluateInTurn l).bare h l := by
  rw [(hp.evaluateInTurn l s h).1]
  exact foldl_inTurn l s.bare h hp.inTurn

/-- R47: the holder entry has issued the tickets. -/
theorem Placeable.holderAfter (hp : Placeable s h l) : (s.evaluateInTurn l).holderOf h.resource
    = some (h.afterTickets (min (l.countP LockEntry.asksTicket) (s.roomUnder h))) := by
  obtain ⟨-, hunique, k, hid, hk⟩ := hp.evaluateInTurn l s h
  obtain ⟨hmem, -, -⟩ := holderOf_some hk
  have hplaced : (s.evaluateInTurn l).entry h.id = _ := hp.placed.holder
  have hfound := entry_of_mem hunique hmem
  rw [hid] at hfound
  rw [hk, ← hfound]
  exact hplaced

end

end Sys2Proof.Machine
end

section
/-! PROOFS. A resource settles under its holder entry (R4, R49): the other entries are placed in turn, and then the
pending QUERYs of the resource are answered. -/

namespace Sys2Proof.Machine

open Sys2Proof

/-! ### The pending QUERYs are answered (R4, R49) -/

/-- A pending QUERY is answered with a result. -/
def State.answerQuery (s : State) (r : SlotResult) (q : PendingQuery) : State :=
  (s.freeQuery q.id).complete q.slot .answered r

section
variable {s : State} {r : SlotResult}

@[simp] theorem answerQuery_entries (q : PendingQuery) : (s.answerQuery r q).lock.entries = s.lock.entries := by
  rw [State.answerQuery, complete_lock, freeQuery_entries]

theorem answerQuery_queries (q : PendingQuery) :
    (s.answerQuery r q).lock.queries = s.lock.queries.filter (fun x => decide (x.id ≠ q.id)) := by
  rw [State.answerQuery, complete_lock]
  exact withdrawOwner_queries (s.dropQuery q.id) _

theorem answerQuery_slot (q : PendingQuery) (i : SlotIx) : (s.answerQuery r q).slot i
    = if i = q.slot then { s.slot i with state := .done, result := { r with code := some .answered } }
      else s.slot i := by
  have hring : (s.freeQuery q.id).ring = s.ring := withdrawOwner_ring (s.dropQuery q.id) _
  rw [State.answerQuery, slot_complete]
  split
  · rename_i hi
    rw [slot_of_ring hring, hi]
  · exact slot_of_ring hring

/-- R4: of a list of QUERYs whose slots are distinct each is answered, and nothing else of entries, queries and slots
changes. -/
structure QueriesAnswered (s t : State) (r : SlotResult) (l : List PendingQuery) : Prop where
  entries : t.lock.entries = s.lock.entries
  queries : ∀ x ∈ t.lock.queries, x ∈ s.lock.queries ∧ ∀ q ∈ l, x.id ≠ q.id
  slots   : ∀ i, (∀ q ∈ l, q.slot ≠ i) → t.slot i = s.slot i
  results : ∀ q ∈ l, (t.slot q.slot).state = .done ∧ (t.slot q.slot).result = { r with code := some .answered }

theorem queriesAnswered (l : List PendingQuery) (s : State) (hl : (l.map PendingQuery.slot).Nodup) :
    QueriesAnswered s (l.foldl (fun u q => u.answerQuery r q) s) r l := by
  induction l generalizing s with
  | nil => exact ⟨rfl, fun x hx => ⟨hx, nofun⟩, fun _ _ => rfl, nofun⟩
  | cons q l ih =>
    obtain ⟨hq, hl⟩ := List.nodup_cons.1 hl
    obtain ⟨hentries, hqueries, hslots, hresults⟩ := ih (s.answerQuery r q) hl
    have hkept : ((l.foldl (fun u q => u.answerQuery r q) (s.answerQuery r q)).slot q.slot)
        = (s.answerQuery r q).slot q.slot :=
      hslots q.slot fun x hx hxq => hq (hxq ▸ List.mem_map.2 ⟨x, hx, rfl⟩)
    refine ⟨hentries.trans (answerQuery_entries q), fun x hx => ?_, fun i hi => ?_, fun x hx => ?_⟩
    · obtain ⟨hmem, hne⟩ := hqueries x hx
      rw [answerQuery_queries] at hmem
      obtain ⟨hmem, hxq⟩ := List.mem_filter.1 hmem
      exact ⟨hmem, List.forall_mem_cons.2 ⟨of_decide_eq_true hxq, hne⟩⟩
    · obtain ⟨hqi, hli⟩ := List.forall_mem_cons.1 hi
      exact (hslots i hli).trans ((answerQuery_slot q i).trans (if_neg hqi.symm))
    · obtain rfl | hx := List.mem_cons.1 hx
      · rw [List.foldl_cons, hkept, answerQuery_slot, if_pos rfl]
        exact ⟨rfl, rfl⟩
      · exact hresults x hx

/-- The pending QUERYs of a resource. -/
def State.queriesOf (s : State) (r : Resource) : List PendingQuery :=
  s.lock.queries.filter (fun q => decide (q.resource = r))

theorem heldResult_own {t : State} (h : t.own = s.own) (k : Code) (n : Option Byte) (b : Byte) (v : Ticket) :
    t.heldResult k n b v = s.heldResult k n b v := by
  unfold State.heldResult
  rw [h]

/-- R4: with nothing on the link every QUERY of the resource is answered by its holder entry. -/
theorem answerQueries_eq {x : Resource} {h : LockEntry} (hh : s.holderOf x = some h)
    (hl : s.link.state.ownAge = none) : s.answerQueries x = (s.queriesOf x).foldl
      (fun u q => u.answerQuery (s.heldResult .answered none h.contextByte h.span) q) s := by
  have hoff : ∀ q : PendingQuery, s.ownerOnLink (.query q.id) = false := fun q => by
    simp [State.ownerOnLink, onLink_of_noFrame hl]
  have key : ∀ (l : List PendingQuery) (u : State), u.own = s.own →
      l.foldl (fun u q => (u.freeQuery q.id).complete q.slot .answered
          (u.heldResult .answered none h.contextByte h.span)) u
        = l.foldl (fun u q => u.answerQuery (s.heldResult .answered none h.contextByte h.span) q) u := by
    intro l
    induction l with
    | nil => exact fun _ _ => rfl
    | cons q l ih =>
      intro u hu
      rw [List.foldl_cons, List.foldl_cons, heldResult_own hu]
      refine ih _ ((own_of_shell (shell_of_beyondLock ?_)).trans hu)
      rw [complete_beyondLock, freeQuery_beyondLock]
  unfold State.answerQueries State.queriesOf
  simp only [hh, hoff, Bool.not_false, Bool.and_true]
  exact key _ s rfl

end

/-! ### The entries that are placed -/

/-- The entries of its resource that holder entry h places: those that look elsewhere, but those kept. -/
def State.toPlace (s : State) (h : LockEntry) (kept : LockEntry → Bool) : List LockEntry :=
  s.lock.entries.filter (fun x => decide (x.resource = h.resource) && x.looksElsewhere s.own && !kept x &&
    decide (x.id ≠ h.id))

section
variable {s : State} {h x : LockEntry} {kept : LockEntry → Bool}

theorem mem_toPlace : x ∈ s.toPlace h kept ↔ x ∈ s.lock.entries ∧ x.resource = h.resource ∧
    x.looksElsewhere s.own = true ∧ kept x = false ∧ x.id ≠ h.id := by
  simp [State.toPlace, and_assoc]

/-- What a new holder entry evaluates again is what looks elsewhere. -/
theorem claimant_of_moved {own : StationNo} {k : Context} {sl : SlotIx} {p : WaitPolicy} {d : Option Timer}
    (hm : x.Moved own = some (k, sl, p, d)) :
    x.claimant = some ⟨x.id, x.resource, k, sl, p, d⟩ ∧ x.looksElsewhere own = true := by
  refine ⟨?_, looksElsewhere_of_moved (by rw [hm]; rfl)⟩
  cases hst : x.state with
  | deferred k' sl' p' d' =>
    simp only [LockEntry.Moved, hst, Option.some.injEq, Prod.mk.injEq] at hm
    obtain ⟨rfl, rfl, rfl, rfl⟩ := hm
    simp [LockEntry.claimant, hst]
  | claiming k' sl' p' d' n =>
    cases n with
    | some n => simp [LockEntry.Moved, hst] at hm
    | none =>
      simp only [LockEntry.Moved, hst, Option.some.injEq, Prod.mk.injEq] at hm
      obtain ⟨rfl, rfl, rfl, rfl⟩ := hm
      simp [LockEntry.claimant, hst]
  | waiting k' sl' t y ep d' pr =>
    by_cases hy : y = own
    · simp [LockEntry.Moved, hst, hy] at hm
    · simp only [LockEntry.Moved, hst, hy, if_false, Option.some.injEq, Prod.mk.injEq] at hm
      obtain ⟨rfl, rfl, rfl, rfl⟩ := hm
      simp [LockEntry.claimant, hst, waitingPolicy]
  | _ => simp [LockEntry.Moved, hst] at hm

theorem looksElsewhere_of_notMoved {own : StationNo} (hm : x.Moved own = none) : x.looksElsewhere own = false := by
  cases hst : x.state with
  | claiming k sl p d n => cases n <;> simp [LockEntry.Moved, LockEntry.looksElsewhere, hst] at hm ⊢
  | waiting k sl t y ep d pr => simpa [LockEntry.Moved, LockEntry.looksElsewhere, hst] using hm
  | deferred k sl p d => simp [LockEntry.Moved, hst] at hm
  | _ => simp [LockEntry.looksElsewhere, hst]

/-- R23, R24: the tickets that are asked of the holder entry are those of the entries that it places. -/
theorem countP_toPlace (l : List LockEntry) (own : StationNo) :
    (l.filter (fun x => decide (x.resource = h.resource) && x.looksElsewhere own && !kept x &&
        decide (x.id ≠ h.id))).countP LockEntry.asksTicket
      = l.countP (fun y => LockEntry.Asks own h.resource h.id y && !kept y) := by
  rw [List.countP_filter]
  refine List.countP_congr (fun x _ => ?_)
  cases hm : x.Moved own with
  | none => simp [LockEntry.Asks, hm, looksElsewhere_of_notMoved hm]
  | some m =>
    obtain ⟨k, sl, p, d⟩ := m
    obtain ⟨hc, hlooks⟩ := claimant_of_moved hm
    simp only [LockEntry.Asks, LockEntry.asksTicket, hm, hc, hlooks, Option.any_some, Bool.and_eq_true,
      decide_eq_true_eq, Bool.not_eq_true']
    tauto

end

/-! ### The placing, as the statements say it -/

section
variable (s : State) (l : List LockEntry)

theorem evaluateInTurn_beyondLock : (s.evaluateInTurn l).beyondLock = s.beyondLock :=
  foldl_keeps State.beyondLock _ (fun u (z : LockEntry) => reevaluate_beyondLock u z.id) l s

theorem evaluateInTurn_queries : (s.evaluateInTurn l).lock.queries = s.lock.queries :=
  foldl_keeps (fun u : State => u.lock.queries) _ (fun u (z : LockEntry) => reevaluate_queries u z.id) l s

end

/-- R5, R47: a holder entry's span and context byte after it has issued n tickets. -/
theorem afterTickets_facts {h : LockEntry} (hh : h.isHolder = true) (n : Nat) :
    (h.afterTickets n).span = h.span + BitVec.ofNat 16 n ∧ (h.afterTickets n).contextByte = h.contextByte := by
  have hsum : ∀ v i : Ticket, i + BitVec.ofNat 16 n - v - 1 = i - v - 1 + BitVec.ofNat 16 n := by
    intro v i
    bv_omega
  rcases h with ⟨id, r, st, held⟩
  cases st with
  | holding c m v i w => exact ⟨hsum v i, rfl⟩
  | handing v i o g => exact ⟨hsum v i, rfl⟩
  | _ => simp [LockEntry.isHolder] at hh

/-- Holder entry h is to place the entries of s but those kept, in a state that has them as they were. -/
structure Settling (s u : State) (h : LockEntry) (kept : LockEntry → Bool) : Prop where
  named   : s.PendingSlotsAreNamed
  unique  : u.UniqueIds
  holder  : u.holderOf h.resource = some h
  config  : u.config = s.config
  link    : u.link.state.ownAge = none
  queries : u.lock.queries = s.lock.queries
  stays   : ∀ x ∈ s.lock.entries, x.resource = h.resource → x.id ≠ h.id → kept x = false → x ∈ u.lock.entries

section
variable {s u : State} {h : LockEntry} {kept : LockEntry → Bool} (hs : Settling s u h kept)
include hs

theorem Settling.placeable : Placeable u h (s.toPlace h kept) := by
  refine ⟨hs.unique, hs.holder, fun y hy => ?_, (apart_of_named hs.named).sublist List.filter_sublist, hs.link⟩
  obtain ⟨hmem, hr, hlooks, hkept, hid⟩ := mem_toPlace.1 hy
  exact ⟨hs.stays y hmem hr hid hkept, hr, claimant_of_looksElsewhere hlooks⟩

theorem Settling.room : u.bare.roomUnder h = s.roomUnder h := by
  simp only [State.roomUnder, State.spanLimit, bare_config, hs.config]

theorem Settling.tickets : min ((s.toPlace h kept).countP LockEntry.asksTicket) (u.bare.roomUnder h)
    = s.TicketsFor h kept s.lock.entries := by
  rw [hs.room, State.TicketsFor, ← countP_toPlace]
  rfl

/-- R4, R23 to R28: the entries have been placed in taking order. -/
theorem Settling.entriesPlacedUnder : EntriesPlacedUnder s (u.evaluateInTurn (s.toPlace h kept)) h kept := by
  have hp := hs.placeable.placed
  refine ⟨?_, fun l₁ y l₂ hsplit hyr hyh hkept => ⟨fun hm => ?_, fun k sl p d hm => ?_⟩⟩
  · rw [← hs.tickets]
    exact hp.holder
  · have hy : y ∈ s.lock.entries := by rw [hsplit]; simp
    have hother : ∀ z ∈ s.toPlace h kept, z.id ≠ y.id := by
      intro z hz hid
      obtain ⟨hmem, -, hlooks, -⟩ := mem_toPlace.1 hz
      rw [uniqueIds_of_named hs.named z hmem y hy hid, looksElsewhere_of_notMoved hm] at hlooks
      exact nomatch hlooks
    exact (hp.others y.id hyh hother).trans (entry_of_mem hs.unique (hs.stays y hy hyr hyh hkept))
  · obtain ⟨hc, hlooks⟩ := claimant_of_moved hm
    have hsplit' : s.toPlace h kept
        = l₁.filter (fun x => decide (x.resource = h.resource) && x.looksElsewhere s.own && !kept x &&
            decide (x.id ≠ h.id)) ++ y ::
          l₂.filter (fun x => decide (x.resource = h.resource) && x.looksElsewhere s.own && !kept x &&
            decide (x.id ≠ h.id)) := by
      rw [State.toPlace, hsplit, List.filter_append, List.filter_cons_of_pos (by simp [hyr, hlooks, hkept, hyh])]
    have hplaced := hp.placed _ y _ _ hsplit' hc
    rw [countP_toPlace] at hplaced
    unfold PlacedAs at hplaced
    simp only [hs.room, State.own, State.probeInterval, bare_config, hs.config] at hplaced
    exact hplaced

/-- R49: then the QUERYs are answered with the span after that. -/
theorem Settling.answered : QueriesAnswered (u.evaluateInTurn (s.toPlace h kept))
    ((u.evaluateInTurn (s.toPlace h kept)).answerQueries h.resource)
    (s.heldResult .answered none h.contextByte (h.span + BitVec.ofNat 16 (s.TicketsFor h kept s.lock.entries)))
    (s.queriesOf h.resource) := by
  obtain ⟨hslots, -⟩ := hs.named
  obtain ⟨-, -, hholder⟩ := holderOf_some hs.holder
  let v := u.evaluateInTurn (s.toPlace h kept)
  have hbeyond : v.beyondLock = u.beyondLock := evaluateInTurn_beyondLock _ _
  have hconfig : v.own = s.own := (own_of_shell (shell_of_beyondLock hbeyond)).trans (by rw [State.own, hs.config]; rfl)
  have hqueries : v.queriesOf h.resource = s.queriesOf h.resource := by
    have hsame : v.lock.queries = u.lock.queries := evaluateInTurn_queries _ _
    rw [State.queriesOf, hsame, hs.queries]
    rfl
  have hafter := hs.placeable.holderAfter
  obtain ⟨hspan, hbyte⟩ := afterTickets_facts hholder (s.TicketsFor h kept s.lock.entries)
  have htickets : min ((s.toPlace h kept).countP LockEntry.asksTicket) (u.roomUnder h)
      = s.TicketsFor h kept s.lock.entries := hs.tickets
  rw [htickets] at hafter
  have hl : v.link.state.ownAge = none := by
    rw [link_of_beyondLock hbeyond]
    exact hs.link
  rw [answerQueries_eq hafter hl, hqueries, heldResult_own hconfig, hspan, hbyte]
  exact queriesAnswered _ v (hslots.of_append_right.sublist (List.filter_sublist.map _))

/-- No QUERY is for a slot that an entry names. -/
theorem Settling.slot_ne {x : LockEntry} (hx : x ∈ s.lock.entries) {i : SlotIx} (hi : x.slot = some i) :
    ∀ q ∈ s.queriesOf h.resource, q.slot ≠ i := by
  intro q hq hqi
  obtain ⟨hslots, -⟩ := hs.named
  exact (List.nodup_append.1 hslots).2.2 i (List.mem_filterMap.2 ⟨x, hx, hi⟩) i
    (List.mem_map.2 ⟨q, List.mem_of_mem_filter hq, hqi⟩) rfl

/-- An entry that is kept, and its slot, are as they were before the placing. -/
theorem Settling.keeps {x : LockEntry} (hx : x ∈ s.lock.entries) (hid : x.id ≠ h.id) (hk : kept x = true) :
    ((u.evaluateInTurn (s.toPlace h kept)).answerQueries h.resource).entry x.id = u.entry x.id ∧
      ∀ i, x.slot = some i →
        ((u.evaluateInTurn (s.toPlace h kept)).answerQueries h.resource).slot i = u.slot i := by
  obtain ⟨hentries, -, hslots, -⟩ := hs.answered
  have hp := hs.placeable.placed
  have hother : ∀ y ∈ s.toPlace h kept, y ≠ x := by
    rintro y hy rfl
    obtain ⟨-, -, -, hno, -⟩ := mem_toPlace.1 hy
    exact nomatch hno.symm.trans hk
  have hmem : ∀ y ∈ s.toPlace h kept, y ∈ s.lock.entries := fun y hy => (mem_toPlace.1 hy).1
  refine ⟨?_, fun i hi => (hslots i (hs.slot_ne hx hi)).trans (hp.slots i fun y hy hyi => ?_)⟩
  · have hentry : ((u.evaluateInTurn (s.toPlace h kept)).answerQueries h.resource).entry x.id
        = (u.evaluateInTurn (s.toPlace h kept)).entry x.id := by
      unfold State.entry
      rw [hentries]
    exact hentry.trans (hp.others x.id hid fun y hy hyx =>
      hother y hy (uniqueIds_of_named hs.named y (hmem y hy) x hx hyx))
  · exact hother y hy (id_eq_of_slot hs.named (hmem y hy) hx hyi hi)

/-- R4, R49: the entries placed, and the QUERYs answered. -/
theorem Settling.placedUnder :
    PlacedUnder s ((u.evaluateInTurn (s.toPlace h kept)).answerQueries h.resource) h kept := by
  obtain ⟨hentries, hqueries, hslots, hresults⟩ := hs.answered
  have hentry : ∀ id, ((u.evaluateInTurn (s.toPlace h kept)).answerQueries h.resource).entry id
      = (u.evaluateInTurn (s.toPlace h kept)).entry id := fun id => by
    unfold State.entry
    rw [hentries]
  obtain ⟨hholds, hplaced⟩ := hs.entriesPlacedUnder
  refine ⟨⟨(hentry _).trans hholds, fun l₁ y l₂ hsplit hyr hyh hkept => ?_⟩, fun q hq hqr => ?_⟩
  · obtain ⟨hunmoved, hmoved⟩ := hplaced l₁ y l₂ hsplit hyr hyh hkept
    have hy : y ∈ s.lock.entries := by rw [hsplit]; simp
    refine ⟨fun hm => (hentry _).trans (hunmoved hm), fun k sl p d hm => ?_⟩
    rw [hentry, hslots sl (hs.slot_ne hy (slot_of_claimant (claimant_of_moved hm).1))]
    exact hmoved k sl p d hm
  · have hmem : q ∈ s.queriesOf h.resource := List.mem_filter.2 ⟨hq, decide_eq_true hqr⟩
    obtain ⟨hdone, hresult⟩ := hresults q hmem
    refine ⟨fun x hx => (hqueries x hx).2 q hmem, hdone, ?_⟩
    rw [hresult]
    rfl

end

end Sys2Proof.Machine
end

section
/-! PROOFS. The DEFERRED siblings of an entry that has left are evaluated again, whatever their frames (R28): what stays,
and that no place comes into use. -/

namespace Sys2Proof.Machine

open Sys2Proof

/-! ### Where this station has no holder entry (R27, R29) -/

section
variable {s : State} {e x : LockEntry} {c : Claimant}

/-- R27, R29: without a holder entry step 7 restates the entry that it is for, DEFERRED or CLAIMING. -/
theorem evaluate_entries_unheld (he : e ∈ s.lock.entries) (hid : e.id = c.id)
    (hh : s.holderOf c.resource = none) : ∃ st : EntryState, (∀ y : LockEntry, y.state = st → y.isHolder = false) ∧
      (s.claimInFlight c.resource c.id = true → st = .deferred c.context c.slot c.policy c.deadline) ∧
      (s.evaluate c).lock.entries = (s.setEntry e.id st).lock.entries := by
  cases hc : s.claimInFlight c.resource c.id with
  | true =>
    refine ⟨.deferred c.context c.slot c.policy c.deadline, fun y hy => by simp [LockEntry.isHolder, hy],
      fun _ => rfl, ?_⟩
    rw [evaluate_defers hh hc, putEntry_present c _ he hid, hid]
    rfl
  | false =>
    refine ⟨.claiming c.context c.slot c.policy c.deadline none, fun y hy => by simp [LockEntry.isHolder, hy], nofun, ?_⟩
    rw [evaluate_claims hh hc, putEntry_present c _ he hid, raiseWant_entries, hid]
    rfl

theorem claimInFlight_congr {t : State} (h : t.lock.entries = s.lock.entries) (r : Resource) (id : Nat) :
    t.claimInFlight r id = s.claimInFlight r id := by
  unfold State.claimInFlight
  rw [h]

theorem holderOf_congr {t : State} (h : t.lock.entries = s.lock.entries) (r : Resource) :
    t.holderOf r = s.holderOf r := by
  unfold State.holderOf
  rw [h]

/-- What an evaluation again, of an entry of a resource without a holder entry, makes of the table: an entry of
another place stays, no place comes into use, no holder entry appears, and an entry that is DEFERRED behind a claim in
flight stays. -/
structure Reevaluated (s t : State) (r : Resource) (id : Nat) : Prop where
  unique : t.UniqueIds
  others : ∀ x ∈ s.lock.entries, x.id ≠ id → x ∈ t.lock.entries
  came   : ∀ x ∈ t.lock.entries, ∃ y ∈ s.lock.entries, y.id = x.id ∧ y.resource = x.resource
  holder : t.holderOf r = none
  behind : ∀ x ∈ s.lock.entries, x.id = id → x.isDeferred = true → s.claimInFlight r id = true → x ∈ t.lock.entries

theorem Reevaluated.refl {r : Resource} (hu : s.UniqueIds) (hh : s.holderOf r = none) (id : Nat) :
    Reevaluated s s r id :=
  ⟨hu, fun _ hx _ => hx, fun x hx => ⟨x, hx, rfl, rfl⟩, hh, fun _ hx _ _ _ => hx⟩

theorem Reevaluated.of_entries {t : State} {r : Resource} {id : Nat} (hu : s.UniqueIds) (hh : s.holderOf r = none)
    (h : t.lock.entries = s.lock.entries) : Reevaluated s t r id := by
  have hrefl := Reevaluated.refl hu hh id
  refine ⟨?_, ?_, ?_, ?_, ?_⟩
  · unfold State.UniqueIds
    rw [h]
    exact hu
  · rw [h]
    exact hrefl.others
  · rw [h]
    exact hrefl.came
  · rw [holderOf_congr h]
    exact hh
  · rw [h]
    exact hrefl.behind

/-- R4, R27, R29: an entry of the resource is evaluated again. -/
theorem reevaluated {r : Resource} (hu : s.UniqueIds) (hh : s.holderOf r = none) {id : Nat}
    (hr : ∀ x ∈ s.lock.entries, x.id = id → x.resource = r) : Reevaluated s (s.reevaluate id) r id := by
  cases hf : s.entry id with
  | none =>
    have hsame : s.reevaluate id = s := by simp [State.reevaluate, hf]
    exact .of_entries hu hh (by rw [hsame])
  | some e =>
    obtain rfl := id_of_entry hf
    have he := mem_of_entry hf
    cases hc : e.claimant with
    | none =>
      have hsame : s.reevaluate e.id = s := by simp [State.reevaluate, hf, hc]
      exact .of_entries hu hh (by rw [hsame])
    | some c =>
      obtain ⟨hclaim, hid, hcr⟩ := claim_of_claimant hc
      have hsame := withdrawOwner_entries s (.entry e.id)
      simp only [State.reevaluate, hf, hc]
      split
      · exact .of_entries hu hh hsame
      · obtain ⟨st, hst, hdefers, heq⟩ := evaluate_entries_unheld (s := s.withdrawOwner (.entry e.id)) (c := c)
          (by rw [hsame]; exact he) hid.symm (by rw [holderOf_congr hsame, hcr, hr e he rfl]; exact hh)
        have hset : ((s.withdrawOwner (.entry e.id)).evaluate c).lock.entries = (s.setEntry e.id st).lock.entries := by
          rw [heq, setEntry_entries, hsame, setEntry_entries]
        refine ⟨?_, fun x hx hne => ?_, fun x hx => ?_, ?_, fun x hx hxe hxd hflight => ?_⟩
        · unfold State.UniqueIds
          rw [hset]
          exact uniqueIds_setEntry hu
        · rw [hset]
          exact mem_setEntry_of_ne hx hne
        · rw [hset] at hx
          obtain hx | ⟨y, hy, hye, rfl⟩ := mem_setEntry hx
          · exact ⟨x, hx, rfl, rfl⟩
          · exact ⟨y, hy, rfl, rfl⟩
        · rw [holderOf_congr hset, holderOf_setEntry, hh]
          · rfl
          · intro x hx hxe
            rw [hst _ rfl, hu x hx e he hxe, isHolder_of_claimant hc]
        · obtain rfl := hu x hx e he hxe
          have hstate : st = x.state := by
            rw [hdefers (by rw [claimInFlight_congr hsame, hcr, hid, hr x he rfl]; exact hflight)]
            cases hxs : x.state with
            | deferred k sl p d =>
              simp only [LockEntry.claimant, hxs, Option.some.injEq] at hc
              rw [← hc]
            | _ => simp [LockEntry.isDeferred, hxs] at hxd
          rw [hset, hstate, setEntry_self hu he]
          exact he

end

/-! ### The DEFERRED siblings, one after the other -/

section
variable {s : State} {r : Resource}

/-- The siblings have been evaluated again: no place comes into use, and what is no DEFERRED entry of the resource, or
has a claim in flight before it, stays. -/
structure SiblingsFollow (s t : State) (r : Resource) : Prop where
  came  : ∀ x ∈ t.lock.entries, ∃ y ∈ s.lock.entries, y.id = x.id
  stays : ∀ x ∈ s.lock.entries, (x.isDeferred = false ∨ x.resource ≠ r ∨
    ∃ y ∈ s.lock.entries, y.resource = r ∧ y.isClaiming = true) → x ∈ t.lock.entries

theorem not_deferred_of_claiming {x : LockEntry} (h : x.isClaiming = true) : x.isDeferred = false := by
  cases hst : x.state <;> simp [LockEntry.isClaiming, LockEntry.isDeferred, hst] at h ⊢

/-- R28: without a holder entry. -/
theorem reevaluateDeferred_follow (hu : s.UniqueIds) (hh : s.holderOf r = none) :
    SiblingsFollow s (s.reevaluateDeferred r) r := by
  have key : ∀ l ⊆ s.siblings r, ∀ u : State, u.UniqueIds → u.holderOf r = none →
      (∀ x ∈ u.lock.entries, ∃ y ∈ s.lock.entries, y.id = x.id ∧ y.resource = x.resource) →
      (∀ x ∈ s.lock.entries, (x.isDeferred = false ∨ x.resource ≠ r ∨
        ∃ y ∈ s.lock.entries, y.resource = r ∧ y.isClaiming = true) → x ∈ u.lock.entries) →
      SiblingsFollow s (u.evaluateInTurn l) r := by
    intro l
    induction l with
    | nil =>
      intro _ u _ _ hcame hstays
      exact ⟨fun x hx => let ⟨y, hy, hid, _⟩ := hcame x hx; ⟨y, hy, hid⟩, hstays⟩
    | cons z l ih =>
      intro hl u hu' hh' hcame hstays
      obtain ⟨hz, hzr, hzd⟩ := mem_siblings.1 (hl List.mem_cons_self)
      have hres : ∀ x ∈ u.lock.entries, x.id = z.id → x.resource = r := by
        intro x hx hid
        obtain ⟨y, hy, hyid, hyr⟩ := hcame x hx
        rw [← hyr, hu y hy z hz (hyid.trans hid), hzr]
      obtain ⟨hunique, hothers, hcame', hholder, hbehind⟩ := reevaluated hu' hh' hres
      refine ih (fun x hx => hl (List.mem_cons_of_mem z hx)) _ hunique hholder (fun x hx => ?_) (fun x hx hcase => ?_)
      · obtain ⟨y, hy, hyid, hyr⟩ := hcame' x hx
        obtain ⟨w, hw, hwid, hwr⟩ := hcame y hy
        exact ⟨w, hw, hwid.trans hyid, hwr.trans hyr⟩
      · have hxu := hstays x hx hcase
        by_cases hid : x.id = z.id
        · obtain rfl := hu x hx z hz hid
          obtain hno | hno | ⟨y, hy, hyr, hyc⟩ := hcase
          · exact nomatch hno.symm.trans hzd
          · exact absurd hzr hno
          · have hyd := not_deferred_of_claiming hyc
            refine hbehind x hxu rfl hzd (claimInFlight_iff.2 ⟨y, hstays y hy (.inl hyd), hyr, hyc, fun hyx => ?_⟩)
            rw [hu y hy x hx hyx] at hyd
            exact nomatch hyd.symm.trans hzd
        · exact hothers x hxu hid
  exact key (s.siblings r) (fun _ h => h) s hu hh (fun x hx => ⟨x, hx, rfl, rfl⟩) (fun x hx _ => hx)

theorem entry_none_of_came {t : State} {id : Nat} (h : ∀ x ∈ t.lock.entries, ∃ y ∈ s.lock.entries, y.id = x.id)
    (hs : ∀ y ∈ s.lock.entries, y.id ≠ id) : t.entry id = none := by
  refine List.find?_eq_none.2 fun x hx => ?_
  obtain ⟨y, hy, hyid⟩ := h x hx
  simpa using fun hid => hs y hy (hyid.trans hid)

end

/-! ### The end of a wait where this station has no holder entry -/

section
variable {s : State} {e : LockEntry} {c : Claimant}

/-- R28, R38, R40: the entry is gone; of the others all stay but DEFERRED siblings that had it for their claim in
flight. -/
theorem endWait_leaves (hu : s.UniqueIds) (hh : s.holderOf e.resource = none) (hc : e.claimant = some c) (k : Code) :
    (s.endWait e k).entry e.id = none ∧ ∀ x ∈ s.lock.entries, x.id ≠ e.id → (x.isDeferred = false ∨
      x.resource ≠ e.resource ∨ ∃ y ∈ s.lock.entries, y.id ≠ e.id ∧ y.resource = e.resource ∧ y.isClaiming = true) →
      x ∈ (s.endWait e k).lock.entries := by
  let u := (s.freeEntry e.id).completeBare c.slot k
  have hentries : u.lock.entries = s.lock.entries.filter (fun x => decide (x.id ≠ e.id)) :=
    (congrArg LockEngine.entries (complete_lock _ _ _)).trans (freeEntry_entries s e.id)
  have hmem : ∀ x, x ∈ u.lock.entries ↔ x ∈ s.lock.entries ∧ x.id ≠ e.id := fun x => by
    rw [hentries, List.mem_filter, decide_eq_true_eq]
  have hgone : ∀ y ∈ u.lock.entries, y.id ≠ e.id := fun y hy => ((hmem y).1 hy).2
  cases hclaims : e.isClaiming with
  | false =>
    rw [endWait_frees hc hclaims]
    exact ⟨entry_none_of_came (s := u) (fun x hx => ⟨x, hx, rfl⟩) hgone, fun x hx hid _ => (hmem x).2 ⟨hx, hid⟩⟩
  | true =>
    have hunique : u.UniqueIds := by
      intro x hx y hy
      exact hu x ((hmem x).1 hx).1 y ((hmem y).1 hy).1
    have hholder : u.holderOf e.resource = none := by
      refine List.find?_eq_none.2 fun x hx => ?_
      have := List.find?_eq_none.1 hh x ((hmem x).1 hx).1
      exact this
    obtain ⟨hcame, hstays⟩ := reevaluateDeferred_follow hunique hholder
    rw [endWait_claiming hc hclaims]
    refine ⟨entry_none_of_came hcame hgone, fun x hx hid hcase => hstays x ((hmem x).2 ⟨hx, hid⟩) ?_⟩
    refine hcase.imp_right (.imp_right ?_)
    rintro ⟨y, hy, hyid, hyr, hyc⟩
    exact ⟨y, (hmem y).2 ⟨hy, hyid⟩, hyr, hyc⟩

end

end Sys2Proof.Machine
end

section
/-! PROOFS. The outcomes of a probe (R72 to R75, R39): NONE makes its entry the holder entry, and any other answer leaves
it waiting, to be freed by what is held against it. -/

namespace Sys2Proof.Machine

open Sys2Proof

/-! ### A probe in its answer field -/

/-- The probe of waiter e, with ticket k, is in its answer field; it is not marked, and this station has no holder
entry. -/
structure Probing (s : State) (age : Nat) (e : LockEntry) (k : Ticket) (w : Bool) (c : Context) (sl : SlotIx)
    (k₀ : Ticket) (h : StationNo) (ep : Option Epoch) (d pr : Option Timer) : Prop where
  link   : s.link.state = .sendingAnswer ⟨age, .claim e.resource c (some k) w⟩
  frame  : ∃ f, s.frameAt age = some f ∧ f.kind = .claim ∧ f.owner = .lock (.entry e.id) ∧ f.withdrawn = false
  mem    : e ∈ s.lock.entries
  unique : s.UniqueIds
  state  : e.state = .waiting c sl k₀ h ep d pr
  holder : s.holderOf e.resource = none
  wants  : s.lock.wants = []
  frames : ∀ f ∈ s.queue.frames, f.owner = .lock (.entry e.id) → f.age = age

/-- What the claimant of a waiter keeps. -/
def LockEntry.waiter (e : LockEntry) (c : Context) (sl : SlotIx) (d : Option Timer) : Claimant :=
  ⟨e.id, e.resource, c, sl, waitingPolicy d, d⟩

section
variable {s : State} {age : Nat} {z : LineAtEnd}

@[simp] theorem atOutcome_slot (i : SlotIx) : (s.atOutcome age z).slot i = s.slot i := by
  refine slot_of_ring ((admitWant_ring _).trans ?_)
  change (s.answeredAt z).ring = s.ring
  rw [answeredAt_eq]

@[simp] theorem atOutcome_record (x : StationNo) : (s.atOutcome age z).record x = s.record x := by
  have hrecords : (s.answeredAt z).member.records = s.member.records := by
    unfold State.answeredAt
    split <;> rfl
  unfold State.record
  rw [member_of_beyondLock (atOutcome_beyondLock s age z), hrecords]

theorem atOutcome_idle : (s.atOutcome age z).link.state = .idle := by
  rw [link_of_beyondLock (atOutcome_beyondLock s age z)]
  unfold State.answeredAt State.linkIdle
  cases z <;> rfl

@[simp] theorem atOutcome_holderOf (r : Resource) : (s.atOutcome age z).holderOf r = s.holderOf r :=
  holderOf_congr (atOutcome_entries s age z) r

theorem atOutcome_uniqueIds (hu : s.UniqueIds) : (s.atOutcome age z).UniqueIds := by
  unfold State.UniqueIds
  rw [atOutcome_entries]
  exact hu

end

section
variable {s : State} {age : Nat} {e : LockEntry} {k : Ticket} {w : Bool} {c : Context} {sl : SlotIx} {k₀ : Ticket}
  {h : StationNo} {ep : Option Epoch} {d pr : Option Timer} (hp : Probing s age e k w c sl k₀ h ep d pr)
include hp

theorem Probing.claimant : e.claimant = some (e.waiter c sl d) := claimant_of_waiting hp.state

/-- R73 to R75, R39: the outcome, then what is held, and after NONE the resource settles. -/
theorem Probing.exec_answerEnd (line : AnswerLine) : exec (.answerEnd line) s = .next
    (let u := (((s.atOutcome age line.atEnd).probeOutcome e (e.waiter c sl d) k
        (decodeAnswer .claim line.field)).applyHeld e.id)
      if decodeAnswer .claim line.field = .none then u.settleHolder e.resource none else u) := by
  obtain ⟨f, hf, hk, ho, hw⟩ := hp.frame
  have hentry : (s.atOutcome age line.atEnd).entry e.id = some e :=
    entry_of_mem (atOutcome_uniqueIds hp.unique) (by rw [atOutcome_entries]; exact hp.mem)
  rw [exec_answerEnd_own hp.link rfl hf (by rw [hk]; rfl)]
  simp only [State.accepted, ho, hw, Bool.false_eq_true, if_false, State.claimEnded, hentry, hp.claimant,
    atOutcome_holderOf, hp.holder, Option.isSome_none, hp.state]
  rfl

end

theorem completes_eq (b : HeldAction) : b.Completes = b.code := by cases b <;> rfl

/-! ### An entry restated as a claim, and what is held against it (R39) -/

/-- Of w the entry e of a has been restated, and the station field of its slot is as given. -/
structure Restated (a w : State) (e : LockEntry) (st : EntryState) (sl : SlotIx) (x : Option StationNo) : Prop where
  lock    : w.lock = (a.setEntry e.id st).lock
  queue   : w.queue = a.queue
  station : (w.slot sl).result.station = x
  claim   : ∃ c, st.claim = some (c, sl)

section
variable {a w : State} {e : LockEntry} {st : EntryState} {sl : SlotIx} {x : Option StationNo}

theorem claimant_of_claim {c : Context} (h : e.state.claim = some (c, sl)) :
    ∃ cl, e.claimant = some cl ∧ cl.slot = sl := by
  cases hst : e.state <;> simp [EntryState.claim, LockEntry.claimant, hst] at h ⊢ <;> exact h.2

variable (hr : Restated a w e st sl x)
include hr

theorem Restated.claimant : ∃ cl, LockEntry.claimant { e with state := st } = some cl ∧ cl.slot = sl := by
  obtain ⟨c, hc⟩ := hr.claim
  exact claimant_of_claim (e := { e with state := st }) hc

theorem Restated.unique (hu : a.UniqueIds) : w.UniqueIds := by
  unfold State.UniqueIds
  rw [hr.lock]
  exact uniqueIds_setEntry hu

theorem Restated.entry (hu : a.UniqueIds) (he : e ∈ a.lock.entries) :
    w.entry e.id = some { e with state := st } := by
  unfold State.entry
  rw [hr.lock]
  exact entry_setEntry_self st (entry_of_mem hu he)

theorem Restated.others {y : LockEntry} (hy : y ∈ a.lock.entries) (hid : y.id ≠ e.id) : y ∈ w.lock.entries := by
  rw [hr.lock]
  exact mem_setEntry_of_ne hy hid

/-- An entry of another place is one of a's. -/
theorem Restated.came {y : LockEntry} (hy : y ∈ w.lock.entries) (hid : y.id ≠ e.id) : y ∈ a.lock.entries := by
  rw [hr.lock] at hy
  obtain hy | ⟨z, -, hz, rfl⟩ := mem_setEntry hy
  · exact hy
  · exact absurd hz hid

theorem Restated.holder (hu : a.UniqueIds) (he : e ∈ a.lock.entries) {c : Claimant} (hc : e.claimant = some c)
    (hh : a.holderOf e.resource = none) : w.holderOf e.resource = none := by
  have hentries : w.lock.entries = (a.setEntry e.id st).lock.entries := congrArg LockEngine.entries hr.lock
  obtain ⟨cl, hcl, -⟩ := hr.claimant
  rw [holderOf_congr hentries, holderOf_setEntry, hh]
  · rfl
  · intro y hy hid
    rw [hu y hy e he hid, isHolder_of_claimant hc, isHolder_of_claimant hcl]

theorem Restated.applyHeld_nothing (hu : a.UniqueIds) (he : e ∈ a.lock.entries) (hheld : e.held = []) :
    w.applyHeld e.id = w := by
  simp [State.applyHeld, hr.entry hu he, hheld]

theorem Restated.applyHeld_frees (hu : a.UniqueIds) (he : e ∈ a.lock.entries) {b : HeldAction} {l : List HeldAction}
    (hheld : e.held = b :: l) : w.applyHeld e.id = w.endWait { e with state := st } b.code := by
  obtain ⟨cl, hcl, -⟩ := hr.claimant
  rw [hheld] at hcl
  simp [State.applyHeld, hr.entry hu he, hheld, hcl]

/-- R39: with nothing held the entry waits on; else the first action frees it, where that leaves its slot to it. -/
theorem Restated.leftIn (hu : a.UniqueIds) (he : e ∈ a.lock.entries) {c : Claimant} (hc : e.claimant = some c)
    (hh : a.holderOf e.resource = none)
    (hslot : ∀ b : HeldAction, ((w.endWait { e with state := st } b.code).slot sl).state = .done ∧
      ((w.endWait { e with state := st } b.code).slot sl).result = .bare b.code) :
    LeftIn (w.applyHeld e.id) e sl st x := by
  refine ⟨fun hheld => ?_, fun b l hheld => ?_⟩
  · rw [hr.applyHeld_nothing hu he hheld]
    exact ⟨hr.entry hu he, hr.station⟩
  · obtain ⟨cl, hcl, -⟩ := hr.claimant
    obtain ⟨hdone, hresult⟩ := hslot b
    obtain ⟨hgone, -⟩ := endWait_leaves (e := { e with state := st }) (hr.unique hu) (hr.holder hu he hc hh) hcl b.code
    rw [hr.applyHeld_frees hu he hheld]
    exact ⟨hgone, hdone, by rw [hresult, completes_eq]; rfl⟩

/-- R38: an entry that is alone on its resource has no siblings. -/
theorem Restated.endWait_alone (halone : ∀ y ∈ a.lock.entries, y.resource = e.resource → y = e) (b : Code) :
    w.endWait { e with state := st } b = (w.freeEntry e.id).completeBare sl b := by
  obtain ⟨cl, hcl, rfl⟩ := hr.claimant
  cases hclaims : LockEntry.isClaiming { e with state := st } with
  | false => exact endWait_frees hcl hclaims b
  | true =>
    rw [endWait_claiming hcl hclaims]
    have hnone : ((w.freeEntry e.id).completeBare cl.slot b).siblings e.resource = [] := by
      refine List.filter_eq_nil_iff.2 fun y hy => ?_
      rw [State.completeBare, complete_lock, freeEntry_entries] at hy
      obtain ⟨hy, hid⟩ := List.mem_filter.1 hy
      have hne := of_decide_eq_true hid
      have hother : y.resource ≠ e.resource := fun hyr => hne (congrArg LockEntry.id (halone y (hr.came hy hne) hyr))
      simp [hother]
    change ((w.freeEntry e.id).completeBare cl.slot b).evaluateInTurn
      (((w.freeEntry e.id).completeBare cl.slot b).siblings e.resource) = _
    rw [hnone]
    rfl

end

/-! ### What an answer other than NONE makes of the entry (R72 to R74) -/

section
variable {a : State} {e : LockEntry} {k : Ticket} {c : Context} {sl : SlotIx} {k₀ : Ticket} {h : StationNo}
  {ep : Option Epoch} {d pr : Option Timer} (he : e ∈ a.lock.entries) (hst : e.state = .waiting c sl k₀ h ep d pr)
include he

theorem restated_putEntry {st : EntryState} {k' : Context} (hclaim : st.claim = some (k', sl)) (x : Option StationNo) :
    Restated a ((a.putEntry (e.waiter c sl d) st).setSlotStation sl x) e st sl x := by
  rw [putEntry_present (e.waiter c sl d) st he rfl]
  exact ⟨rfl, rfl, by rw [slot_setSlotStation, if_pos rfl], k', hclaim⟩

theorem restated_retryPending : Restated a (a.retryPending (e.waiter c sl d)) e
    (.claiming c sl (if d.isSome then .limited else .wait) d (some a.probeInterval)) sl none :=
  restated_putEntry he rfl none

theorem restated_waitAt (v : Ticket) (y : StationNo) : Restated a (a.waitAt (e.waiter c sl d) v y) e
    (.waiting c sl v y (some (a.record y).epoch) d (some a.probeInterval)) sl (some y) :=
  restated_putEntry he rfl (some y)

omit he
include hst

theorem restated_restartProbe : Restated a (a.restartProbe e) e (.waiting c sl k₀ h ep d (some a.probeInterval)) sl
    (a.slot sl).result.station := by
  simp only [State.restartProbe, hst]
  exact ⟨rfl, rfl, rfl, c, rfl⟩

theorem confirms_iff {y : StationNo} {v : BitVec 16} : a.confirms e k y v = true ↔
    (y = h ∧ ep = some (a.record y).epoch ∧ v = k) ∧ a.validPeer y = true := by
  simp only [State.confirms, State.liveWaiter, hst, Bool.and_eq_true, decide_eq_true_eq, eq_comm (a := h)]
  tauto

include he

/-- R72 to R74: what follows from each state that the entry may be left in. -/
theorem probeLeaves {s t : State} {ans : Answer} (hown : a.own = s.own) (hrecord : ∀ y, a.record y = s.record y)
    (hslot : a.slot sl = s.slot sl) (hinterval : a.probeInterval = s.config.probeInterval.toNat * 10000)
    (hleft : ∀ st x, Restated a (a.probeOutcome e (e.waiter c sl d) k ans) e st sl x → LeftIn t e sl st x) :
    ProbeLeaves s t e k c sl k₀ h ep d ans := by
  have hretry := restated_retryPending (c := c) (sl := sl) (d := d) he
  have hstays := restated_restartProbe (a := a) hst
  have hwaits := restated_waitAt (c := c) (sl := sl) (d := d) he
  have hpeer : ∀ y, a.validPeer y = true ↔ s.OtherStation y := fun y => by
    rw [State.validPeer, Bool.and_eq_true, decide_eq_true_eq, decide_eq_true_eq, hown]
    rfl
  rw [hinterval] at hretry hstays
  simp only [hinterval, hrecord] at hwaits
  rw [hslot] at hstays
  cases ans with
  | none => trivial
  | damaged => exact hleft _ _ hretry
  | code n y v =>
    have hconfirms := confirms_iff (a := a) (k := k) hst (y := y) (v := v)
    rw [hrecord, hpeer] at hconfirms
    refine ⟨fun hy hn hconfirm => ?_, fun hy hn => ?_, fun hcase => ?_⟩
    · subst hn
      refine hleft _ _ ?_
      rw [State.probeOutcome, if_pos (hconfirms.2 ⟨hconfirm, hy⟩)]
      exact hstays
    · subst hn
      refine hleft _ _ ?_
      rw [State.probeOutcome, if_pos ((hpeer y).2 hy)]
      exact hwaits v y
    · refine hleft _ _ ?_
      cases n with
      | held =>
        have hno : a.confirms e k y v ≠ true := by
          rw [ne_eq, hconfirms]
          rintro ⟨hconfirm, hy⟩
          obtain hno | hno | hno | ⟨-, hno⟩ := hcase
          · exact hno hy
          · exact nomatch hno
          · exact nomatch hno
          · exact hno hconfirm
        rw [State.probeOutcome, if_neg hno]
        exact hretry
      | requeued =>
        have hno : a.validPeer y ≠ true := by
          rw [ne_eq, hpeer]
          intro hy
          obtain hno | hno | hno | ⟨hno, -⟩ := hcase
          · exact hno hy
          all_goals exact nomatch hno
        rw [State.probeOutcome, if_neg hno]
        exact hretry
      | _ => exact hretry

/-- R72 to R74: after an answer other than NONE the entry is restated as a claim. -/
theorem probeOutcome_restates {ans : Answer} (hans : ans ≠ .none) :
    ∃ st x, Restated a (a.probeOutcome e (e.waiter c sl d) k ans) e st sl x := by
  have hretry := restated_retryPending (c := c) (sl := sl) (d := d) he
  unfold State.probeOutcome
  split
  · exact absurd rfl hans
  · split
    · exact ⟨_, _, restated_restartProbe hst⟩
    · exact ⟨_, _, hretry⟩
  · split
    · exact ⟨_, _, restated_waitAt he _ _⟩
    · exact ⟨_, _, hretry⟩
  · exact ⟨_, _, hretry⟩

end

end Sys2Proof.Machine
end

section
/-! PROOFS. A probe that NONE answers (R75): its entry holds with the ticket that the probe carried, and the resource
settles; and then the outcomes of a probe as the statements say them. -/

namespace Sys2Proof.Machine

open Sys2Proof

/-! ### The new holder entry -/

/-- Entry e in HOLDING, from a NONE answer with serve k, and nothing held against it. -/
def LockEntry.fromNone (e : LockEntry) (c : Context) (k : Ticket) : LockEntry :=
  { e with state := .holding c 1 k (k + 1) false, held := [] }

/-- R31, R39: the state after NONE and what was held. -/
def State.grantedAt (a : State) (e : LockEntry) (c : Context) (sl : SlotIx) (k : Ticket) : State :=
  ((a.setEntry e.id (.holding c 1 k (k + 1) false)).complete sl .granted
    (a.heldResult .granted (some 1) (contextByte c) 0)).clearHeld e.id

section
variable {a : State} {e : LockEntry} {k : Ticket} {c : Context} {sl : SlotIx} {k₀ : Ticket} {h : StationNo}
  {ep : Option Epoch} {d pr : Option Timer}

theorem clearHeld_nothing {s : State} (hu : s.UniqueIds) {x : LockEntry} (hx : x ∈ s.lock.entries) (hheld : x.held = []) :
    s.clearHeld x.id = s := by
  have hmap : s.lock.entries.map (fun y => if y.id = x.id then { y with held := [] } else y) = s.lock.entries := by
    refine (List.map_congr_left fun y hy => ?_).trans (List.map_id _)
    split
    · rename_i hid
      rw [hu y hy x hx hid, ← hheld]
      rfl
    · rfl
  exact congrArg s.withEntries hmap

theorem spanOf_next (k : Ticket) : spanOf k (k + 1) = 0 := by
  change k + 1 - k - 1 = 0
  bv_omega

/-- R31: a waiter with no want and no frame enters HOLDING. -/
theorem enterHolding_fromNone (hst : e.state = .waiting c sl k₀ h ep d pr) (hn : a.WantsNothing (.entry e.id)) :
    a.enterHolding e k (k + 1) = (a.setEntry e.id (.holding c 1 k (k + 1) false)).complete sl .granted
      (a.heldResult .granted (some 1) (contextByte c) 0) := by
  have hquiet : ∀ st, (a.setEntry e.id st).withdrawOwner (.entry e.id) = a.setEntry e.id st :=
    fun st => withdrawOwner_none (s := a.setEntry e.id st) hn.1 hn.2
  have hno : decide ((0 : Ticket) ≠ 0) = false := rfl
  simp only [State.enterHolding, claimant_of_waiting hst, spanOf_next, hquiet, hno]
  rfl

section
variable (hu : a.UniqueIds) (he : e ∈ a.lock.entries)
include hu he

/-- R39: what is held does nothing to a holding but leave it. -/
theorem probeOutcome_none (hst : e.state = .waiting c sl k₀ h ep d pr) (hn : a.WantsNothing (.entry e.id)) :
    (a.probeOutcome e (e.waiter c sl d) k .none).applyHeld e.id = a.grantedAt e c sl k := by
  let u := (a.setEntry e.id (.holding c 1 k (k + 1) false)).complete sl .granted
    (a.heldResult .granted (some 1) (contextByte c) 0)
  let x : LockEntry := { e with state := .holding c 1 k (k + 1) false }
  have hlock : u.lock = (a.setEntry e.id (.holding c 1 k (k + 1) false)).lock := complete_lock _ _ _
  have hfound : u.entry e.id = some x := by
    unfold State.entry
    rw [hlock]
    exact entry_setEntry_self _ (entry_of_mem hu he)
  have hunique : u.UniqueIds := by
    unfold State.UniqueIds
    rw [hlock]
    exact uniqueIds_setEntry hu
  have houtcome : a.probeOutcome e (e.waiter c sl d) k .none = u := enterHolding_fromNone hst hn
  rw [houtcome]
  change u.applyHeld e.id = u.clearHeld e.id
  cases hheld : e.held with
  | nil =>
    have hclear : u.clearHeld e.id = u := clearHeld_nothing hunique (x := x) (mem_of_entry hfound) hheld
    rw [hclear]
    simp [State.applyHeld, hfound, x, hheld]
  | cons b l => simp [State.applyHeld, hfound, x, hheld, LockEntry.claimant]

theorem grantedAt_entries : (a.grantedAt e c sl k).lock.entries
    = a.lock.entries.map (fun x => if x.id = e.id then e.fromNone c k else x) := by
  have hset : (a.grantedAt e c sl k).lock.entries
      = ((a.setEntry e.id (.holding c 1 k (k + 1) false)).lock.entries).map
        (fun x => if x.id = e.id then { x with held := [] } else x) := by
    rw [← complete_lock (s := a.setEntry e.id (.holding c 1 k (k + 1) false)) sl .granted
      (a.heldResult .granted (some 1) (contextByte c) 0)]
    rfl
  rw [hset, setEntry_entries, List.map_map]
  refine List.map_congr_left fun x hx => ?_
  by_cases hid : x.id = e.id
  · rw [hu x hx e he hid]
    simp [LockEntry.fromNone]
  · simp [hid]

theorem mem_grantedAt {z : LockEntry} : z ∈ (a.grantedAt e c sl k).lock.entries ↔
    z = e.fromNone c k ∨ (z ∈ a.lock.entries ∧ z.id ≠ e.id) := by
  rw [grantedAt_entries hu he, List.mem_map]
  refine ⟨?_, ?_⟩
  · rintro ⟨x, hx, rfl⟩
    by_cases hid : x.id = e.id
    · exact .inl (if_pos hid)
    · rw [if_neg hid]
      exact .inr ⟨hx, hid⟩
  · rintro (rfl | ⟨hz, hid⟩)
    · exact ⟨e, he, if_pos rfl⟩
    · exact ⟨z, hz, if_neg hid⟩

theorem grantedAt_unique : (a.grantedAt e c sl k).UniqueIds := by
  intro x hx y hy hid
  obtain rfl | ⟨hx, hxe⟩ := (mem_grantedAt hu he).1 hx <;> obtain rfl | ⟨hy, hye⟩ := (mem_grantedAt hu he).1 hy
  · rfl
  · exact absurd hid.symm hye
  · exact absurd hid hxe
  · exact hu x hx y hy hid

theorem grantedAt_entry : (a.grantedAt e c sl k).entry e.id = some (e.fromNone c k) :=
  entry_of_mem (e := e.fromNone c k) (grantedAt_unique hu he) ((mem_grantedAt hu he).2 (.inl rfl))

/-- R3: it is the holder entry of its resource. -/
theorem grantedAt_holderOf (hh : a.holderOf e.resource = none) :
    (a.grantedAt e c sl k).holderOf e.resource = some (e.fromNone c k) := by
  cases hf : (a.grantedAt e c sl k).holderOf e.resource with
  | none => exact nomatch holderOf_none hf (e.fromNone c k) ((mem_grantedAt hu he).2 (.inl rfl)) rfl
  | some x =>
    obtain ⟨hx, hxr, hholder⟩ := holderOf_some hf
    obtain rfl | ⟨hx, -⟩ := (mem_grantedAt hu he).1 hx
    · rfl
    · exact nomatch hholder.symm.trans (holderOf_none hh x hx hxr)

end

theorem grantedAt_slot : ((a.grantedAt e c sl k).slot sl).state = .done ∧ ((a.grantedAt e c sl k).slot sl).result
    = ⟨some .granted, some 1, some a.own, some (BitVec.ofNat 8 c.val), some 0⟩ := by
  have hslot : (a.grantedAt e c sl k).slot sl = _ := slot_complete (a.setEntry e.id (.holding c 1 k (k + 1) false)) sl sl
    .granted (a.heldResult .granted (some 1) (contextByte c) 0)
  rw [hslot, if_pos rfl]
  refine ⟨rfl, ?_⟩
  rw [State.heldResult, contextByte_eq]
  rfl

theorem grantedAt_beyondLock : (a.grantedAt e c sl k).beyondLock = a.beyondLock := by
  rw [State.grantedAt, clearHeld_beyondLock, complete_beyondLock]
  rfl

theorem grantedAt_queue : (a.grantedAt e c sl k).queue = a.queue :=
  complete_queue (s := a.setEntry e.id (.holding c 1 k (k + 1) false)) sl .granted _

theorem grantedAt_queries : (a.grantedAt e c sl k).lock.queries = a.lock.queries :=
  (congrArg LockEngine.queries (complete_lock (s := a.setEntry e.id (.holding c 1 k (k + 1) false)) sl .granted
    (a.heldResult .granted (some 1) (contextByte c) 0)) :)

end

/-! ### NONE among others, and alone (R4, R31) -/

section
variable {s : State} {age : Nat} {z : LineAtEnd} {e : LockEntry} {k : Ticket} {w : Bool} {c : Context} {sl : SlotIx}
  {k₀ : Ticket} {h : StationNo} {ep : Option Epoch} {d pr : Option Timer}
  (hp : Probing s age e k w c sl k₀ h ep d pr)
include hp

theorem Probing.atOutcome : (s.atOutcome age z).UniqueIds ∧ e ∈ (s.atOutcome age z).lock.entries ∧
    (s.atOutcome age z).holderOf e.resource = none ∧ (s.atOutcome age z).WantsNothing (.entry e.id) := by
  refine ⟨atOutcome_uniqueIds hp.unique, ?_, ?_, wantsNothing_atOutcome_quiet hp.wants hp.frames⟩
  · rw [atOutcome_entries]
    exact hp.mem
  · rw [atOutcome_holderOf]
    exact hp.holder

/-- R4: the other entries are to be placed under it. -/
theorem Probing.settling (hn : s.PendingSlotsAreNamed) :
    Settling s ((s.atOutcome age z).grantedAt e c sl k) (e.fromNone c k) (fun _ => false) := by
  obtain ⟨hu, he, hh, -⟩ := hp.atOutcome (z := z)
  have hbeyond := grantedAt_beyondLock (a := s.atOutcome age z) (e := e) (k := k) (c := c) (sl := sl)
  refine ⟨hn, grantedAt_unique hu he, grantedAt_holderOf hu he hh, ?_, ?_, ?_, fun x hx _ hid _ => ?_⟩
  · rw [config_of_shell (shell_of_beyondLock hbeyond), atOutcome_config]
  · rw [link_of_beyondLock hbeyond, atOutcome_idle]
    rfl
  · rw [grantedAt_queries, atOutcome_queries]
  · exact (mem_grantedAt hu he).2 (.inr ⟨by rw [atOutcome_entries]; exact hx, hid⟩)

theorem Probing.elsewhere : ((s.atOutcome age z).grantedAt e c sl k).elsewhere e.resource
    = s.toPlace (e.fromNone c k) (fun _ => false) := by
  obtain ⟨hu, he, -, -⟩ := hp.atOutcome (z := z)
  have hown : ((s.atOutcome age z).grantedAt e c sl k).own = s.own := by
    rw [own_of_shell (shell_of_beyondLock grantedAt_beyondLock), State.own, atOutcome_config]
    rfl
  unfold State.elsewhere State.toPlace
  rw [hown, grantedAt_entries hu he, atOutcome_entries, List.filter_map]
  refine (List.map_congr_left fun x hx => ?_).trans ((List.map_id _).trans (List.filter_congr fun x _ => ?_))
  · refine if_neg fun hid => ?_
    have hlooks := (List.mem_filter.1 hx).2
    simp [hid, LockEntry.fromNone, LockEntry.looksElsewhere] at hlooks
  · by_cases hid : x.id = e.id
    · simp [hid, LockEntry.fromNone, LockEntry.looksElsewhere]
    · simp [hid, LockEntry.fromNone]
      rfl

/-- R4, R75: NONE among other entries. -/
theorem Probing.exec_none {line : AnswerLine} (hans : decodeAnswer .claim line.field = .none) :
    exec (.answerEnd line) s = .next
      ((((s.atOutcome age line.atEnd).grantedAt e c sl k).evaluateInTurn (s.toPlace (e.fromNone c k)
        (fun _ => false))).answerQueries e.resource) := by
  obtain ⟨hu, he, -, hn⟩ := hp.atOutcome (z := line.atEnd)
  rw [hp.exec_answerEnd, hans, probeOutcome_none hu he hp.state hn]
  dsimp only
  rw [if_pos rfl, State.settleHolder, placeOthers_none, hp.elsewhere]

/-- R75: NONE alone. -/
theorem Probing.exec_none_alone {line : AnswerLine} (hans : decodeAnswer .claim line.field = .none)
    (halone : ∀ x ∈ s.lock.entries, x.resource = e.resource → x = e)
    (hqueries : ∀ q ∈ s.lock.queries, q.resource ≠ e.resource) :
    exec (.answerEnd line) s = .next ((s.atOutcome age line.atEnd).grantedAt e c sl k) := by
  obtain ⟨hu, he, hh, -⟩ := hp.atOutcome (z := line.atEnd)
  have hempty : s.toPlace (e.fromNone c k) (fun _ => false) = [] := by
    refine List.eq_nil_iff_forall_not_mem.2 fun x hx => ?_
    obtain ⟨hmem, hr, -, -, hid⟩ := mem_toPlace.1 hx
    exact hid (congrArg LockEntry.id (halone x hmem hr) :)
  have hnone : ((s.atOutcome age line.atEnd).grantedAt e c sl k).queriesOf e.resource = [] := by
    refine List.filter_eq_nil_iff.2 fun q hq => ?_
    rw [grantedAt_queries, atOutcome_queries] at hq
    simpa using hqueries q hq
  have hl : ((s.atOutcome age line.atEnd).grantedAt e c sl k).link.state.ownAge = none := by
    rw [link_of_beyondLock grantedAt_beyondLock, atOutcome_idle]
    rfl
  rw [hp.exec_none hans, hempty]
  have hanswers : ((s.atOutcome age line.atEnd).grantedAt e c sl k).answerQueries e.resource
      = (s.atOutcome age line.atEnd).grantedAt e c sl k :=
    (answerQueries_eq (grantedAt_holderOf hu he hh) hl).trans (by rw [hnone]; rfl)
  exact congrArg Host.Outcome.next hanswers

/-! ### Another answer -/

/-- The state of the outcome of an answer other than NONE, before what is held is applied. -/
theorem Probing.exec_other {line : AnswerLine} (hans : decodeAnswer .claim line.field ≠ .none) :
    ∃ u st x, exec (.answerEnd line) s = .next (u.applyHeld e.id) ∧
      u = (s.atOutcome age line.atEnd).probeOutcome e (e.waiter c sl d) k (decodeAnswer .claim line.field) ∧
      Restated (s.atOutcome age line.atEnd) u e st sl x := by
  obtain ⟨-, he, -, -⟩ := hp.atOutcome (z := line.atEnd)
  obtain ⟨st, x, hr⟩ := probeOutcome_restates (k := k) he hp.state hans
  exact ⟨_, st, x, (hp.exec_answerEnd line).trans (by dsimp only; rw [if_neg hans]), rfl, hr⟩

/-- R72 to R74, R39: what it leaves, where the end of a wait completes the slot. -/
theorem Probing.leaves {line : AnswerLine} {t : State}
    (hslot : ∀ u st x, Restated (s.atOutcome age line.atEnd) u e st sl x → ∀ b : HeldAction,
      ((u.endWait { e with state := st } b.code).slot sl).state = .done ∧
        ((u.endWait { e with state := st } b.code).slot sl).result = .bare b.code)
    (ht : t = ((s.atOutcome age line.atEnd).probeOutcome e (e.waiter c sl d) k
      (decodeAnswer .claim line.field)).applyHeld e.id) :
    ProbeLeaves s t e k c sl k₀ h ep d (decodeAnswer .claim line.field) := by
  obtain ⟨hu, he, hh, -⟩ := hp.atOutcome (z := line.atEnd)
  refine probeLeaves he hp.state ?_ (fun y => atOutcome_record y) (atOutcome_slot sl) ?_ fun st x hr => ?_
  · rw [State.own, atOutcome_config]
    rfl
  · rw [State.probeInterval, atOutcome_config]
  · rw [ht]
    exact hr.leftIn hu he hp.claimant hh (hslot _ st x hr)

end

/-! ### The statement -/

section
variable {s : State} {age : Nat} {e : LockEntry} {k : Ticket} {w : Bool} {c : Context} {sl : SlotIx}
  {k₀ : Ticket} {h : StationNo} {ep : Option Epoch} {d pr : Option Timer}

theorem probing_alone (ha : s.ClaimInAnswer age e c (some k) w) (hst : e.state = .waiting c sl k₀ h ep d pr) :
    Probing s age e k w c sl k₀ h ep d pr := by
  obtain ⟨hl, hf, he, hu, halone, -, hw, hframes⟩ := ha
  refine ⟨hl, hf, he, hu, hst, ?_, hw, hframes⟩
  refine List.find?_eq_none.2 fun x hx => ?_
  by_cases hr : x.resource = e.resource
  · rw [halone x hx hr]
    simp [LockEntry.isHolder, hst]
  · simp [hr]

theorem probing_among (ha : s.ClaimAmongOthers age e c (some k) w) (hst : e.state = .waiting c sl k₀ h ep d pr) :
    Probing s age e k w c sl k₀ h ep d pr := by
  obtain ⟨hl, hf, he, hn, hw, hh, hframes⟩ := ha
  exact ⟨hl, hf, he, uniqueIds_of_named hn, hst, hh, hw, hframes⟩

/-- What every outcome leaves, in a state whose queue and beyond are those of the outcome's beginning. -/
theorem claimIsOver {t : State} {z : LineAtEnd} (hw : s.lock.wants = []) (hq : t.queue = (s.atOutcome age z).queue)
    (hb : t.beyondLock = (s.atOutcome age z).beyondLock)
    (hothers : ∀ x ∈ s.lock.entries, x.id ≠ e.id → x ∈ t.lock.entries) : ClaimIsOver s t age e := by
  refine ⟨?_, ?_, ?_, hothers⟩
  · rw [hq, (atOutcome_quiet hw).2]
    rfl
  · rw [link_of_beyondLock hb, atOutcome_idle]
  · exact (member_of_beyondLock hb).trans (atOutcome_timers s age z)

theorem Probing.outcome_alone (hp : Probing s age e k w c sl k₀ h ep d pr)
    (halone : ∀ x ∈ s.lock.entries, x.resource = e.resource → x = e)
    (hqueries : ∀ q ∈ s.lock.queries, q.resource ≠ e.resource) (line : AnswerLine) :
    ∃ t, exec (.answerEnd line) s = .next t ∧ ClaimIsOver s t age e ∧
      (decodeAnswer .claim line.field = .none → HoldsFromNone s t e c sl k) ∧
      ProbeLeaves s t e k c sl k₀ h ep d (decodeAnswer .claim line.field) := by
  obtain ⟨hu, he, hh, hn⟩ := hp.atOutcome (z := line.atEnd)
  have hmem : ∀ x ∈ s.lock.entries, x ∈ (s.atOutcome age line.atEnd).lock.entries := fun x hx => by
    rw [atOutcome_entries]
    exact hx
  by_cases hans : decodeAnswer .claim line.field = .none
  · refine ⟨_, hp.exec_none_alone hans halone hqueries, ?_, fun _ => ⟨grantedAt_entry hu he, ?_⟩, ?_⟩
    · exact claimIsOver hp.wants grantedAt_queue grantedAt_beyondLock fun x hx hid =>
        (mem_grantedAt hu he).2 (.inr ⟨hmem x hx, hid⟩)
    · have hown : (s.atOutcome age line.atEnd).own = s.own := by
        rw [State.own, atOutcome_config]
        rfl
      rw [← hown]
      exact grantedAt_slot
    · rw [hans]
      trivial
  · obtain ⟨u, st, x, hexec, hu', hr⟩ := hp.exec_other hans
    have halone' : ∀ y ∈ (s.atOutcome age line.atEnd).lock.entries, y.resource = e.resource → y = e := by
      rw [atOutcome_entries]
      exact halone
    have hends := fun (u : State) st x (hr : Restated (s.atOutcome age line.atEnd) u e st sl x) =>
      hr.endWait_alone halone'
    refine ⟨_, hexec, ?_, fun hno => absurd hno hans,
      hp.leaves (fun u st x hr b => ?_) (congrArg (State.applyHeld · e.id) hu')⟩
    · cases hheld : e.held with
      | nil =>
        rw [hr.applyHeld_nothing hu he hheld]
        refine claimIsOver hp.wants hr.queue ?_ fun y hy hid => hr.others (hmem y hy) hid
        rw [hu', probeOutcome_beyondLock]
      | cons b l =>
        have hfree : u.freeEntry e.id = u.dropEntry e.id := by
          refine freeEntry_unwanted ?_ ?_
          · rw [hr.lock]
            exact hn.1
          · rw [hr.queue]
            exact hn.2
        rw [hr.applyHeld_frees hu he hheld, hends u st x hr, hfree]
        refine claimIsOver hp.wants ((complete_queue _ _ _).trans hr.queue) ?_ fun y hy hid => ?_
        · rw [completeBare_beyondLock, dropEntry_beyondLock, hu', probeOutcome_beyondLock]
        · rw [State.completeBare, complete_lock]
          exact List.mem_filter.2 ⟨hr.others (hmem y hy) hid, decide_eq_true hid⟩
    · rw [hends u st x hr, State.completeBare, slot_complete, if_pos rfl]
      exact ⟨rfl, rfl⟩

theorem Probing.outcome_among (hp : Probing s age e k w c sl k₀ h ep d pr) (hnamed : s.PendingSlotsAreNamed)
    {line : AnswerLine} (hans : decodeAnswer .claim line.field ≠ .none) :
    ∃ t, exec (.answerEnd line) s = .next t ∧ t.lock.queries = s.lock.queries ∧
      ProbeLeaves s t e k c sl k₀ h ep d (decodeAnswer .claim line.field) ∧
      ∀ x ∈ s.lock.entries, x.id ≠ e.id →
        (e.held = [] ∨ x.isDeferred = false ∨ x.resource ≠ e.resource ∨
          ∃ y ∈ s.lock.entries, y.resource = x.resource ∧ y.isClaiming = true) → x ∈ t.lock.entries := by
  obtain ⟨hu, he, hh, -⟩ := hp.atOutcome (z := line.atEnd)
  have hentries := atOutcome_entries s age line.atEnd
  obtain ⟨u, st, x, hexec, hu', hr⟩ := hp.exec_other hans
  refine ⟨_, hexec, ?_, hp.leaves (fun u st x hr b => ?_) (congrArg (State.applyHeld · e.id) hu'),
    fun y hy hid hcase => ?_⟩
  · have hqueries : u.lock.queries = s.lock.queries := by
      rw [hr.lock]
      exact atOutcome_queries
    cases hheld : e.held with
    | nil => rw [hr.applyHeld_nothing hu he hheld, hqueries]
    | cons b l => rw [hr.applyHeld_frees hu he hheld, endWait_queries, hqueries]
  · obtain ⟨cl, hcl, rfl⟩ := hr.claimant
    obtain ⟨-, hdone, hresult⟩ := endWait_slot (s := u) hcl (fun y hy hid hys => by
      have hys' := hr.came hy hid
      rw [hentries] at hys'
      have hsame := id_eq_of_slot hnamed hys' hp.mem hys (slot_of_claimant hp.claimant :)
      exact hid (congrArg LockEntry.id hsame :)) b.code
    exact ⟨hdone, hresult⟩
  · have hyu : y ∈ u.lock.entries := hr.others (by rw [hentries]; exact hy) hid
    cases hheld : e.held with
    | nil =>
      rw [hr.applyHeld_nothing hu he hheld]
      exact hyu
    | cons b l =>
      obtain ⟨cl, hcl, -⟩ := hr.claimant
      rw [hr.applyHeld_frees hu he hheld]
      obtain ⟨-, hstays⟩ := endWait_leaves (e := { e with state := st }) (hr.unique hu)
        (hr.holder hu he hp.claimant hh) hcl b.code
      refine hstays y hyu hid ?_
      obtain hno | hno | hno | ⟨v, hv, hvr, hvc⟩ := hcase
      · exact nomatch hheld.symm.trans hno
      · exact .inl hno
      · exact .inr (.inl hno)
      · by_cases hyr : y.resource = e.resource
        · have hve : v.id ≠ e.id := by
            intro hid
            rw [hp.unique v hv e hp.mem hid] at hvc
            simp [LockEntry.isClaiming, hp.state] at hvc
          exact .inr (.inr ⟨v, hr.others (by rw [hentries]; exact hv) hve, hve, hvr.trans hyr, hvc⟩)
        · exact .inr (.inl hyr)

end

/-- Settles O51: by the answer, alone on the resource and among other entries. -/
theorem probeOutcomes : Obligations.ProbeOutcomes := by
  refine ⟨fun s age e k w c sl k₀ h ep d pr line ha hst => ?_, fun s age e k w c sl k₀ h ep d pr line ha hst => ?_⟩
  · have hp := probing_alone ha hst
    obtain ⟨-, -, -, -, halone, hqueries, -⟩ := ha
    exact hp.outcome_alone halone hqueries line
  · have hp := probing_among ha hst
    obtain ⟨-, -, -, hnamed, -⟩ := ha
    exact ⟨fun hans => ⟨_, hp.exec_none hans, (hp.settling hnamed).placedUnder⟩,
      fun hans => hp.outcome_among hnamed hans⟩

end Sys2Proof.Machine
end

section
/-! PROOFS. What marking the sender of a heard frame present does beside the lock engine (R93, R98). -/

namespace Sys2Proof.Machine

open Sys2Proof

/-! ### A DEPART is withdrawn (R93, R98) -/

section
variable {s : State} {x : StationNo}

theorem fillDepart_lock (s : State) : s.fillDepart.lock = s.lock := by
  unfold State.fillDepart
  split
  · rfl
  · split
    · rfl
    · exact placeMember_lock _ _

theorem fillDepart_ring (s : State) : s.fillDepart.ring = s.ring := by
  unfold State.fillDepart
  split
  · rfl
  · split
    · rfl
    · exact placeMember_ring _ _

theorem fillDepart_notices (s : State) : s.fillDepart.notices = s.notices := by
  unfold State.fillDepart
  split
  · rfl
  · split
    · rfl
    · exact placeMember_notices _ _

theorem fillDepart_records (s : State) : s.fillDepart.member.records = s.member.records := by
  unfold State.fillDepart
  split
  · rfl
  · split
    · rfl
    · rw [placeMember_member]
      rfl

theorem fillDepart_departs (s : State) : s.fillDepart.member.departs ⊆ s.member.departs := by
  unfold State.fillDepart
  split
  · exact fun _ h => h
  · rename_i hd
    split
    · exact fun _ h => h
    · rw [placeMember_member, hd]
      exact List.subset_cons_self _ _

/-- R98: a frame that comes is the DEPART of a pending station. -/
theorem fillDepart_frames {g : FrameRecord} (hg : g ∈ s.fillDepart.queue.frames) :
    g ∈ s.queue.frames ∨ (g.owner = .membership ∧ ∃ p ∈ s.member.departs, g.departNamed = some p.1) := by
  unfold State.fillDepart at hg
  split at hg
  · exact .inl hg
  · rename_i y t rest hd
    split at hg
    · exact .inl hg
    · unfold State.placeMember at hg
      split at hg
      · exact .inl hg
      · obtain hg | hg := List.mem_append.1 hg
        · exact .inl hg
        · rw [List.mem_singleton.1 hg, hd]
          exact .inr ⟨rfl, (y, t), List.mem_cons_self, rfl⟩

/-- A DEPART leaves the queue: no place of a lock-engine frame comes free. -/
theorem removeFrame_depart {f : FrameRecord} (hf : f.departNamed = some x) :
    s.removeFrame f = s.withFrames (s.FramesWithout f.age) := by
  have hlock : f.kind.isLock = false := by
    rw [(departNamed_eq_some.1 hf).1]
    rfl
  unfold State.removeFrame
  rw [hlock]
  rfl

/-- R93, R98: what the withdrawal of x's DEPART leaves. -/
structure DepartGone (s t : State) (x : StationNo) : Prop where
  lock    : t.lock = s.lock
  ring    : t.ring = s.ring
  notices : t.notices = s.notices
  link    : t.link = s.link
  shell   : t.shell = s.shell
  records : t.member.records = s.member.records
  departs : ∀ p ∈ t.member.departs, p.1 ≠ x
  frames  : ∀ g ∈ t.queue.frames, g ∈ s.queue.frames ∨ g.owner = .membership
  gone    : s.link.state.ownAge = none → (∀ g ∈ s.queue.frames, ∀ g' ∈ s.queue.frames, g.departNamed = some x →
    g'.departNamed = some x → g.age = g'.age) → ∀ g ∈ t.queue.frames, g.departNamed ≠ some x

theorem withdrawDepart_gone (s : State) (x : StationNo) : DepartGone s (s.withdrawDepart x) x := by
  let u := s.withDeparts (s.member.departs.filter (fun d => decide (d.1 ≠ x)))
  have hleft : ∀ p ∈ u.member.departs, p.1 ≠ x := fun p hp => of_decide_eq_true (List.mem_filter.1 hp).2
  unfold State.withdrawDepart
  dsimp only
  cases hq : u.queuedDepart x with
  | none =>
    refine ⟨rfl, rfl, rfl, rfl, rfl, rfl, hleft, fun g hg => .inl hg, fun hl _ g hg hgx => ?_⟩
    have hno := List.find?_eq_none.1 hq g hg
    rw [onLink_of_noFrame (s := u) hl g, decide_eq_true hgx] at hno
    exact hno rfl
  | some f =>
    have hf : f ∈ u.queue.frames := List.mem_of_find?_eq_some hq
    have hfx : f.departNamed = some x := by
      have := List.find?_some hq
      simp only [Bool.and_eq_true, decide_eq_true_eq] at this
      exact this.2
    change DepartGone s (u.removeFrame f).fillDepart x
    rw [removeFrame_depart hfx]
    let v := u.withFrames (u.FramesWithout f.age)
    have hshell : v.fillDepart.shell = s.shell := fillDepart_shell v
    refine ⟨fillDepart_lock v, fillDepart_ring v, fillDepart_notices v, fillDepart_link v, hshell, fillDepart_records v,
      fun p hp => hleft p (fillDepart_departs v hp), fun g hg => ?_, fun _ hone g hg hgx => ?_⟩
    · exact (fillDepart_frames hg).imp List.mem_of_mem_filter And.left
    · obtain hg | ⟨-, p, hp, hgp⟩ := fillDepart_frames hg
      · obtain ⟨hmem, hage⟩ := List.mem_filter.1 hg
        exact of_decide_eq_true hage (hone g hmem f hf hgx hfx)
      · exact hleft p hp (Option.some.inj (hgp.symm.trans hgx))

end

/-! ### The sender of a heard GRANT is marked present -/

/-- What the membership unit makes of a heard frame's sender x, at the frame's end. -/
structure SenderMarked (s t : State) (x : StationNo) : Prop where
  lock    : t.lock = s.lock
  ring    : t.ring = s.ring
  config  : t.config = s.config
  link    : t.link.state = .idle
  marked  : t.record x = s.RecordMarked x
  epochs  : ∀ y, (t.record y).epoch = (s.record y).epoch
  notices : t.notices = (s.TellMarked x).notices
  departs : ∀ p ∈ t.member.departs, p.1 ≠ x
  frames  : ∀ g ∈ t.queue.frames, g ∈ s.queue.frames ∨ g.owner = .membership
  gone    : (∀ g ∈ s.queue.frames, ∀ g' ∈ s.queue.frames, g.departNamed = some x →
    g'.departNamed = some x → g.age = g'.age) → ∀ g ∈ t.queue.frames, g.departNamed ≠ some x

section
variable {s : State} {x : StationNo}

/-- R93: PEER_UP enters and the record becomes PRESENT, where it is not. -/
def State.peerUp (s : State) (x : StationNo) : State :=
  if (s.record x).state = .present then s
  else (s.setRecord x { s.record x with state := .present, tag := none }).enterNotice (.peerUp x)

theorem peerUp_facts (a : State) (x : StationNo) : (a.peerUp x).lock = a.lock ∧ (a.peerUp x).ring = a.ring ∧
    (a.peerUp x).config = a.config ∧ (a.peerUp x).link = a.link ∧ (a.peerUp x).queue = a.queue := by
  unfold State.peerUp
  split
  · exact ⟨rfl, rfl, rfl, rfl, rfl⟩
  · rw [enterNotice_lock, enterNotice_ring, enterNotice_config, enterNotice_link, enterNotice_queue]
    exact ⟨setRecord_lock _ _ _, setRecord_ring _ _ _, setRecord_config _ _ _, setRecord_link _ _ _,
      setRecord_queue _ _ _⟩

theorem peerUp_notices {a : State} (hrecord : a.record x = s.record x) (hn : a.notices = s.notices) (hx : x ≠ s.own) :
    (a.peerUp x).notices = (s.TellMarked x).notices := by
  unfold State.peerUp State.TellMarked State.Tell
  rw [hrecord]
  by_cases hp : (s.record x).state = .present
  · rw [if_pos hp, if_neg (by simp [hp]), hn]
  · rw [if_neg hp, if_pos (by simp [hx, hp])]
    exact enterNotice_notices_congr _ ((setRecord_notices _ _ _).trans hn)

theorem peerUp_record (a : State) (h0 : x ≠ 0) (y : StationNo) : (a.peerUp x).record y =
    if y = x then { a.record x with
      state := .present, tag := if (a.record x).state = .present then (a.record x).tag else none }
    else a.record y := by
  unfold State.peerUp
  by_cases hp : (a.record x).state = .present
  · rw [if_pos hp, if_pos hp]
    split
    · rename_i hy
      rw [hy, ← hp]
    · rfl
  · rw [if_neg hp, if_neg hp, enterNotice_record, record_setRecord]
    simp only [h0, ne_eq, not_false_eq_true, and_true]

theorem presence_marks (h0 : x ≠ 0) (hx : x ≠ s.own) (z : LineAtEnd) :
    SenderMarked s ((s.linkIdle z).presence x) x := by
  let a := s.linkIdle z
  let u := a.peerUp x
  have hidle : a.link.state = .idle := by cases z <;> rfl
  obtain ⟨hlock, hring, hconfig, hlink, hqueue⟩ : u.lock = s.lock ∧ u.ring = s.ring ∧ u.config = s.config ∧
    u.link = a.link ∧ u.queue = s.queue := peerUp_facts a x
  have hnotices : u.notices = (s.TellMarked x).notices := peerUp_notices (a := a) rfl rfl hx
  have hrecord : u.record x = _ := (peerUp_record a h0 x).trans (if_pos rfl)
  have hothers : ∀ y, y ≠ x → u.record y = s.record y := fun y hy => (peerUp_record a h0 y).trans (if_neg hy)
  have hgone := withdrawDepart_gone (u.restartSilence x) x
  have hrecords : ∀ y, ((u.restartSilence x).withdrawDepart x).record y = (u.restartSilence x).record y := by
    intro y
    unfold State.record
    rw [hgone.records]
  have hrestarts : ∀ y, (u.restartSilence x).record y
      = if y = x ∧ x ≠ 0 then { u.record x with silence := some u.presenceTimeout } else u.record y :=
    fun y => record_setRecord _ _ _ _
  have htimeout : u.presenceTimeout = s.Timeout := by
    simp only [State.presenceTimeout, State.beaconInterval, hconfig]
    rfl
  have hqueue' : (u.restartSilence x).queue = s.queue := (setRecord_queue _ _ _).trans hqueue
  have hlink' : (u.restartSilence x).link = a.link := (setRecord_link _ _ _).trans hlink
  change SenderMarked s ((u.restartSilence x).withdrawDepart x) x
  refine ⟨?_, ?_, ?_, ?_, ?_, fun y => ?_, ?_, hgone.departs, ?_, ?_⟩
  · exact hgone.lock.trans ((setRecord_lock _ _ _).trans hlock)
  · exact hgone.ring.trans ((setRecord_ring _ _ _).trans hring)
  · exact (config_of_shell hgone.shell).trans ((setRecord_config _ _ _).trans hconfig)
  · rw [hgone.link, hlink', hidle]
  · rw [hrecords, hrestarts, if_pos ⟨rfl, h0⟩, hrecord, htimeout, State.RecordMarked, if_neg hx]
    rfl
  · rw [hrecords, hrestarts]
    by_cases hy : y = x
    · rw [if_pos ⟨hy, h0⟩, hrecord, hy]
      rfl
    · rw [if_neg fun h => hy h.1, hothers y hy]
  · exact hgone.notices.trans ((setRecord_notices _ _ _).trans hnotices)
  · rw [← hqueue']
    exact hgone.frames
  · rw [← hqueue']
    refine hgone.gone ?_
    rw [hlink', hidle]
    rfl

end

end Sys2Proof.Machine
end

section
/-! PROOFS. What the lock engine's side of a heard GRANT keeps (R79, R162): the notices that there are, and the DEPARTs
that are queued; and how a row of withdrawals lessens the wants and the frames. -/

namespace Sys2Proof.Machine

open Sys2Proof

/-! ### Notices and DEPARTs, in every row of the lock engine's moves -/

section
variable {s t : State}

theorem enterNotice_prefix (s : State) (n : NoticeBody) : s.notices.records <+: (s.enterNotice n).notices.records := by
  by_cases hroom : s.notices.records.length < Config.notices
  · rw [enterNotice_room n hroom]
    exact List.prefix_append _ _
  · rw [enterNotice_full n (Nat.le_of_not_lt hroom)]

/-- R162: the notices stay, new ones entering behind them. -/
theorem Move.notices_prefix {b b' : Ledger} (h : Move NoChange b s b' t) :
    s.notices.records <+: t.notices.records := by
  cases h with
  | other h => exact h.elim
  | notice _ _ n => exact enterNotice_prefix s n
  | enters c st => rw [putEntry_notices]
  | _ => exact List.prefix_refl _

/-- R98: no DEPART comes. -/
theorem Move.departs_came {b b' : Ledger} (h : Move NoChange b s b' t) {g : FrameRecord} (hg : g ∈ t.queue.frames)
    {x : StationNo} (hgx : g.departNamed = some x) : ∃ f ∈ s.queue.frames, f.departNamed = some x := by
  cases h with
  | other h => exact h.elim
  | notice _ _ n =>
    rw [enterNotice_queue] at hg
    exact ⟨g, hg, hgx⟩
  | enters c st =>
    rw [putEntry_queue] at hg
    exact ⟨g, hg, hgx⟩
  | place o =>
    obtain hg | hg := List.mem_append.1 hg
    · exact ⟨g, hg, hgx⟩
    · rw [List.mem_singleton.1 hg] at hgx
      obtain ⟨-, y, hy⟩ := departNamed_eq_some.1 hgx
      exact nomatch hy
  | thin k hk =>
    obtain ⟨f, hf, hfg⟩ := List.mem_filterMap.1 hg
    exact ⟨f, hf, (hk f g hfg).departNamed.symm.trans hgx⟩
  | _ => exact ⟨g, hg, hgx⟩

theorem lockHeard_notices_prefix (s : State) (f : HeardFrame) (a : Answer) :
    s.notices.records <+: (s.lockHeard f a).notices.records :=
  (moves_lockHeard (p := NoChange) (b := s.blankLedger) f a).keeps
    (P := fun _ u => s.notices.records <+: u.notices.records)
    (fun _ _ _ _ h hs => hs.trans h.notices_prefix) (List.prefix_refl _)

theorem lockHeard_departs (s : State) (f : HeardFrame) (a : Answer) {x : StationNo}
    (hs : ∀ g ∈ s.queue.frames, g.departNamed ≠ some x) :
    ∀ g ∈ (s.lockHeard f a).queue.frames, g.departNamed ≠ some x :=
  (moves_lockHeard (p := NoChange) (b := s.blankLedger) f a).keeps
    (P := fun _ u => ∀ g ∈ u.queue.frames, g.departNamed ≠ some x)
    (fun _ _ _ _ h hs _ hg hgx => let ⟨f, hf, hfx⟩ := h.departs_came hg hgx; hs f hf hfx) hs

end

/-! ### Wants and frames that only become fewer (R15) -/

/-- No want has come; and where there was none, no frame. -/
structure Shrinks (s t : State) : Prop where
  wants  : t.lock.wants ⊆ s.lock.wants
  frames : s.lock.wants = [] → ∀ g ∈ t.queue.frames, ∃ f ∈ s.queue.frames, f.owner = g.owner ∧ f.age = g.age

section
variable {s t u : State}

theorem Shrinks.of_eq (hw : t.lock.wants = s.lock.wants) (hq : t.queue = s.queue) : Shrinks s t :=
  ⟨by rw [hw]; exact fun _ h => h, fun _ g hg => ⟨g, hq ▸ hg, rfl, rfl⟩⟩

theorem Shrinks.trans (h : Shrinks s t) (h' : Shrinks t u) : Shrinks s u := by
  refine ⟨fun _ ho => h.wants (h'.wants ho), fun hw g hg => ?_⟩
  obtain ⟨f, hf, hfo, hfa⟩ := h'.frames (List.subset_nil.1 (hw ▸ h.wants)) g hg
  obtain ⟨k, hk, hko, hka⟩ := h.frames hw f hf
  exact ⟨k, hk, hko.trans hfo, hka.trans hfa⟩

theorem Shrinks.foldl {α : Type} {f : State → α → State} (h : ∀ u a, Shrinks u (f u a)) (l : List α) (s : State) :
    Shrinks s (l.foldl f s) := by
  induction l generalizing s with
  | nil => exact .of_eq rfl rfl
  | cons a l ih => exact (h s a).trans (ih _)

theorem Shrinks.unwanted (h : Shrinks s t) {o : Owner} (ho : o ∉ s.lock.wants) : o ∉ t.lock.wants :=
  fun hmem => ho (h.wants hmem)

theorem Shrinks.unframed (h : Shrinks s t) (hw : s.lock.wants = []) {o : Owner}
    (ho : ∀ f ∈ s.queue.frames, f.owner ≠ .lock o) : ∀ g ∈ t.queue.frames, g.owner ≠ .lock o := by
  intro g hg hgo
  obtain ⟨f, hf, hfo, -⟩ := h.frames hw g hg
  exact ho f hf (hfo.trans hgo)

theorem Shrinks.oneFrame (h : Shrinks s t) (hw : s.lock.wants = []) {o : Owner} (ho : s.OneFrame o) :
    t.OneFrame o := by
  intro f hf g hg hfo hgo
  obtain ⟨f', hf', hfo', hfa⟩ := h.frames hw f hf
  obtain ⟨g', hg', hgo', hga⟩ := h.frames hw g hg
  exact hfa.symm.trans ((ho f' hf' g' hg' (hfo'.trans hfo) (hgo'.trans hgo)).trans hga)

theorem admitWant_wants (s : State) : s.admitWant.lock.wants ⊆ s.lock.wants := by
  unfold State.admitWant
  split
  · exact fun _ h => h
  · rename_i o rest hw
    split
    · rw [hw]
      exact List.subset_cons_self _ _
    · exact fun _ h => h

/-- R15: of the wants that a withdrawal leaves none is the owner's. -/
theorem withdrawOwner_wants (s : State) (o : Owner) :
    (s.withdrawOwner o).lock.wants ⊆ s.lock.wants.filter (fun w => decide (w ≠ o)) := by
  have hremove : ∀ (u : State) f, (u.removeFrame f).lock.wants ⊆ u.lock.wants := by
    intro u f
    unfold State.removeFrame
    dsimp only
    split
    · exact admitWant_wants _
    · exact fun _ h => h
  unfold State.withdrawOwner State.withdrawFrame
  dsimp only
  split
  · split
    · exact fun _ h => h
    · exact hremove _ _
  · exact fun _ h => h

theorem withdrawOwner_unwanted (s : State) (o : Owner) : o ∉ (s.withdrawOwner o).lock.wants := fun h =>
  of_decide_eq_true (List.mem_filter.1 (withdrawOwner_wants s o h)).2 rfl

theorem Shrinks.of_withdrawOwner (s : State) (o : Owner) : Shrinks s (s.withdrawOwner o) := by
  refine ⟨fun w hw => List.mem_of_mem_filter (withdrawOwner_wants s o hw), fun hw => ?_⟩
  obtain ⟨frames, hframes, hstay⟩ := withdrawOwner_quiet hw o
  rw [hframes]
  exact hstay.came

theorem Shrinks.of_freeEntry (s : State) (id : Nat) : Shrinks s (s.freeEntry id) :=
  let h := Shrinks.of_withdrawOwner (s.dropEntry id) (.entry id)
  ⟨h.wants, h.frames⟩

theorem Shrinks.of_freeQuery (s : State) (id : Nat) : Shrinks s (s.freeQuery id) :=
  let h := Shrinks.of_withdrawOwner (s.dropQuery id) (.query id)
  ⟨h.wants, h.frames⟩

/-- R15, R133: with nothing on the link the one frame of an owner is removed. -/
theorem withdrawOwner_unframed {o : Owner} (hl : s.link.state.ownAge = none) (hw : s.lock.wants = [])
    (hone : s.OneFrame o) : ∀ g ∈ (s.withdrawOwner o).queue.frames, g.owner ≠ .lock o := by
  intro g hg hgo
  unfold State.withdrawOwner at hg
  simp only [withWants_filter_nil hw] at hg
  split at hg
  · rename_i f hf
    have hfo : f.owner = .lock o := by simpa using List.find?_some hf
    rw [State.withdrawFrame, if_neg (by rw [onLink_of_noFrame hl]; decide), removeFrame_none f hw] at hg
    obtain ⟨hmem, hage⟩ := List.mem_filter.1 hg
    exact of_decide_eq_true hage (hone g hmem f (List.mem_of_find?_eq_some hf) hgo hfo)
  · rename_i hf
    exact absurd (decide_eq_true hgo) (List.find?_eq_none.1 hf g hg)

theorem Shrinks.of_complete (s : State) (i : SlotIx) (c : Code) (r : SlotResult) : Shrinks s (s.complete i c r) :=
  .of_eq (congrArg LockEngine.wants (complete_lock _ _ _)) (complete_queue _ _ _)

/-- R23 to R26: step 7 under a holder entry wants nothing. -/
theorem Shrinks.of_evaluate {c : Claimant} (hh : (s.holderOf c.resource).isSome = true) : Shrinks s (s.evaluate c) := by
  obtain ⟨h, hh⟩ := Option.isSome_iff_exists.1 hh
  obtain ⟨-, -, hholder⟩ := holderOf_some hh
  have hput : ∀ (st : EntryState) (x : Option StationNo), Shrinks s ((s.putEntry c st).setSlotStation c.slot x) :=
    fun st x => .of_eq (putEntry_wants c st) (putEntry_queue c st)
  by_cases hp : c.policy = .nowait
  · rw [evaluate_busy hh hp]
    exact (Shrinks.of_freeEntry s c.id).trans (.of_complete _ _ _ _)
  · by_cases hroom : h.span.toNat < s.spanLimit
    · rw [evaluate_ticket hh hp hroom, issueTicket_eq hholder]
      exact .of_eq (putEntry_wants c _) (putEntry_queue c _)
    · rw [evaluate_full hh hp (Nat.not_lt.1 hroom)]
      exact hput _ _

theorem Shrinks.of_reevaluate {id : Nat} (hh : ∀ e, s.entry id = some e → (s.holderOf e.resource).isSome = true) :
    Shrinks s (s.reevaluate id) := by
  unfold State.reevaluate
  split
  · exact .of_eq rfl rfl
  · rename_i e he
    split
    · exact .of_eq rfl rfl
    · rename_i c hc
      obtain ⟨-, -, hr⟩ := claim_of_claimant hc
      split
      · exact .of_withdrawOwner s _
      · refine (Shrinks.of_withdrawOwner s _).trans (.of_evaluate ?_)
        rw [holderOf_congr (withdrawOwner_entries _ _), hr]
        exact hh e he

/-- R4: entries placed in turn under a holder entry. -/
theorem Placeable.shrinks (l : List LockEntry) (s : State) (h : LockEntry) (hp : Placeable s h l) :
    Shrinks s (s.evaluateInTurn l) := by
  induction l generalizing s h with
  | nil => exact .of_eq rfl rfl
  | cons y l ih =>
    obtain ⟨hy, hyr, -⟩ := hp.waits y List.mem_cons_self
    obtain ⟨-, h', -, -, hnext⟩ := hp.step
    refine Shrinks.trans (.of_reevaluate fun e he => ?_) (ih _ h' hnext)
    rw [hp.unique e (mem_of_entry he) y hy (id_of_entry he), hyr, hp.holder]
    rfl

/-- R4, R49: QUERYs answered. -/
theorem Shrinks.of_answerQueries (s : State) (r : Resource) : Shrinks s (s.answerQueries r) := by
  unfold State.answerQueries
  split
  · exact .of_eq rfl rfl
  · exact .foldl (fun u (q : PendingQuery) => (Shrinks.of_freeQuery u q.id).trans (.of_complete _ _ _ _)) _ s

end

end Sys2Proof.Machine
end

section
/-! PROOFS. Waiters that are restated one after the other (R68, R79, R80): as local, as following a taker, or as probing
at once. -/

namespace Sys2Proof.Machine

open Sys2Proof

/-! ### One waiter, and a row of them -/

/-- Entry z has been restated, and besides its slot nothing of entries, queries, slots and the blocks beyond the lock
engine's has changed. -/
structure RestatesOne (s t : State) (z : LockEntry) (st : EntryState) : Prop where
  beyond  : t.beyondLock = s.beyondLock
  entries : t.lock.entries = (s.setEntry z.id st).lock.entries
  queries : t.lock.queries = s.lock.queries
  slots   : ∀ i, z.slot ≠ some i → t.slot i = s.slot i

/-- The entries of a list have been restated, each by f. -/
structure RestatesAll (f : State → LockEntry → State) (s t : State) (l : List LockEntry)
    (new : LockEntry → EntryState) : Prop where
  beyond   : t.beyondLock = s.beyondLock
  unique   : t.UniqueIds
  queries  : t.lock.queries = s.lock.queries
  others   : ∀ x ∈ s.lock.entries, (∀ z ∈ l, z.id ≠ x.id) → x ∈ t.lock.entries
  restated : ∀ z ∈ l, t.entry z.id = some { z with state := new z }
  slots    : ∀ i, (∀ z ∈ l, z.slot ≠ some i) → t.slot i = s.slot i
  landed   : ∀ z ∈ l, ∀ i, z.slot = some i → (∀ y ∈ l, y.id ≠ z.id → y.slot ≠ some i) →
    ∃ u : State, u.beyondLock = s.beyondLock ∧ t.slot i = (f u z).slot i
  holder   : (∀ z ∈ l, (∀ y ∈ s.lock.entries, y.id = z.id → y.isHolder = false) ∧
    ∀ y : LockEntry, y.state = new z → y.isHolder = false) → ∀ r, t.holderOf r = s.holderOf r

section
variable {f : State → LockEntry → State} {s t u : State} {z : LockEntry} {l : List LockEntry}
  {new : LockEntry → EntryState} {st : EntryState}

theorem RestatesOne.unique (h : RestatesOne s t z st) (hu : s.UniqueIds) : t.UniqueIds := by
  unfold State.UniqueIds
  rw [h.entries]
  exact uniqueIds_setEntry hu

theorem RestatesOne.others (h : RestatesOne s t z st) {x : LockEntry} (hx : x ∈ s.lock.entries) (hid : x.id ≠ z.id) :
    x ∈ t.lock.entries := by
  rw [h.entries]
  exact mem_setEntry_of_ne hx hid

theorem RestatesOne.restated (h : RestatesOne s t z st) {st' : EntryState}
    (hz : { z with state := st' } ∈ s.lock.entries) : { z with state := st } ∈ t.lock.entries := by
  rw [h.entries]
  exact List.mem_map.2 ⟨_, hz, if_pos rfl⟩

theorem RestatesOne.holder (h : RestatesOne s t z st) (hno : ∀ y ∈ s.lock.entries, y.id = z.id → y.isHolder = false)
    (hnew : ∀ y : LockEntry, y.state = st → y.isHolder = false) (r : Resource) : t.holderOf r = s.holderOf r := by
  rw [holderOf_congr h.entries, holderOf_setEntry r fun x hx hid => (hnew _ rfl).trans (hno x hx hid).symm]
  cases hf : s.holderOf r with
  | none => rfl
  | some y =>
    obtain ⟨hy, -, hholder⟩ := holderOf_some hf
    rw [Option.map_some, if_neg fun hid => nomatch hholder.symm.trans (hno y hy hid)]

/-- The entries of a list, which may name one more than once, are restated one after the other. -/
theorem restatesAll (l : List LockEntry) (s : State) (hu : s.UniqueIds)
    (hl : ∀ z ∈ l, ∃ st, { z with state := st } ∈ s.lock.entries)
    (hsame : ∀ x ∈ l, ∀ y ∈ l, x.id = y.id → x = y)
    (hstep : ∀ u : State, u.beyondLock = s.beyondLock → ∀ z ∈ l, RestatesOne u (f u z) z (new z)) :
    RestatesAll f s (l.foldl f s) l new := by
  induction l generalizing s with
  | nil => exact ⟨rfl, hu, rfl, fun _ hx _ => hx, nofun, fun _ _ => rfl, nofun, fun _ _ => rfl⟩
  | cons z l ih =>
    obtain ⟨⟨st, hz⟩, hl⟩ := List.forall_mem_cons.1 hl
    have hone := hstep s rfl z List.mem_cons_self
    have hagain : ∀ x ∈ l, x.id = z.id → x = z :=
      fun x hx => hsame x (List.mem_cons_of_mem z hx) z List.mem_cons_self
    have hrest := ih (f s z) (hone.unique hu)
      (fun x hx => by
        by_cases hid : x.id = z.id
        · exact ⟨new z, hagain x hx hid ▸ hone.restated hz⟩
        · obtain ⟨st, hx⟩ := hl x hx
          exact ⟨st, hone.others hx hid⟩)
      (fun x hx y hy => hsame x (List.mem_cons_of_mem z hx) y (List.mem_cons_of_mem z hy))
      (fun u hb x hx => hstep u (hb.trans hone.beyond) x (List.mem_cons_of_mem z hx))
    have hfirst : (∃ y ∈ l, y.id = z.id) → z ∈ l := fun ⟨y, hy, hid⟩ => hagain y hy hid ▸ hy
    refine ⟨hrest.beyond.trans hone.beyond, hrest.unique, hrest.queries.trans hone.queries, fun x hx hne => ?_,
      fun x hx => ?_, fun i hi => ?_, fun x hx i hi hapart => ?_, fun hno r => ?_⟩
    · obtain ⟨hxz, hxl⟩ := List.forall_mem_cons.1 hne
      exact hrest.others x (hone.others hx hxz.symm) hxl
    · by_cases hmem : x ∈ l
      · exact hrest.restated x hmem
      · obtain rfl := (List.mem_cons.1 hx).resolve_right hmem
        have hstays := hrest.others _ (hone.restated hz) fun y hy hid => hmem (hfirst ⟨y, hy, hid⟩)
        exact entry_of_mem (e := { x with state := new x }) hrest.unique hstays
    · obtain ⟨hzi, hli⟩ := List.forall_mem_cons.1 hi
      exact (hrest.slots i hli).trans (hone.slots i hzi)
    · obtain ⟨-, hla⟩ := List.forall_mem_cons.1 hapart
      by_cases hmem : x ∈ l
      · obtain ⟨u, hb, hslot⟩ := hrest.landed x hmem i hi hla
        exact ⟨u, hb.trans hone.beyond, hslot⟩
      · obtain rfl := (List.mem_cons.1 hx).resolve_right hmem
        exact ⟨s, rfl, hrest.slots i fun y hy => hla y hy fun hid => hmem (hfirst ⟨y, hy, hid⟩)⟩
    · obtain ⟨⟨hno₁, hnew⟩, hnol⟩ := List.forall_mem_cons.1 hno
      refine (hrest.holder (fun x hx => ⟨fun y hy hid => ?_, (hnol x hx).2⟩) r).trans (hone.holder hno₁ hnew r)
      rw [hone.entries] at hy
      obtain hy | ⟨y, -, -, rfl⟩ := mem_setEntry hy
      · exact (hnol x hx).1 y hy hid
      · exact hnew _ rfl

end

/-! ### What a waiter becomes -/

/-- A waiter of any station. -/
def LockEntry.Waits (z : LockEntry) : Prop := ∃ c sl t h ep d pr, z.state = .waiting c sl t h ep d pr

/-- R68: it waits locally, with the ticket kept. -/
def LockEntry.asLocal (own : StationNo) (z : LockEntry) : EntryState :=
  match z.state with
  | .waiting c sl t _ _ d _ => .waiting c sl t own none d none
  | st => st

/-- R79: it waits on the taker. -/
def LockEntry.asFollower (y : StationNo) (ep : Epoch) (z : LockEntry) : EntryState :=
  match z.state with
  | .waiting c sl t _ _ d pr => .waiting c sl t y (some ep) d pr
  | st => st

/-- R70, R80: its probe timer has stopped. -/
def LockEntry.asProbing (z : LockEntry) : EntryState :=
  match z.state with
  | .waiting c sl t h ep d _ => .waiting c sl t h ep d none
  | st => st

section
variable {s : State} {z : LockEntry}

theorem becomeLocal_restatesOne (hz : z.Waits) : RestatesOne s (s.becomeLocal z) z (z.asLocal s.own) := by
  obtain ⟨c, sl, t, h, ep, d, pr, hst⟩ := hz
  have hring := withdrawOwner_ring (s.setEntry z.id (.waiting c sl t s.own none d none)) (.entry z.id)
  refine ⟨becomeLocal_beyondLock s z, ?_, ?_, fun i hi => ?_⟩ <;>
    simp only [State.becomeLocal, LockEntry.asLocal, hst]
  · exact withdrawOwner_entries _ _
  · exact withdrawOwner_queries _ _
  · rw [slot_setSlotStation, if_neg]
    · exact slot_of_ring hring
    · rintro rfl
      exact hi (slot_of_claimant (claimant_of_waiting hst))

theorem followTaker_restatesOne (hz : z.Waits) (y : StationNo) :
    RestatesOne s (s.followTaker y z) z (z.asFollower y (s.record y).epoch) := by
  obtain ⟨c, sl, t, h, ep, d, pr, hst⟩ := hz
  refine ⟨followTaker_beyondLock s y z, ?_, ?_, fun i hi => ?_⟩ <;>
    simp only [State.followTaker, LockEntry.asFollower, hst]
  · rfl
  · rfl
  · rw [slot_setSlotStation, if_neg]
    · rfl
    · rintro rfl
      exact hi (slot_of_claimant (claimant_of_waiting hst))

theorem immediateProbe_restatesOne (hz : z.Waits) : RestatesOne s (s.immediateProbe z) z z.asProbing := by
  obtain ⟨c, sl, t, h, ep, d, pr, hst⟩ := hz
  refine ⟨immediateProbe_beyondLock s z, ?_, ?_, fun i _ => ?_⟩ <;>
    simp only [State.immediateProbe, LockEntry.asProbing, hst]
  · exact raiseWant_entries _ _
  · exact raiseWant_queries _ _
  · exact slot_of_ring (raiseWant_ring _ _)

end

/-! ### Waiters that become local (R68) -/

section
variable {s : State} {z : LockEntry} {l : List LockEntry}

theorem Shrinks.of_becomeLocal (s : State) (z : LockEntry) : Shrinks s (s.becomeLocal z) := by
  unfold State.becomeLocal
  split
  · rename_i c sl t y ep d pr _
    have h := Shrinks.of_withdrawOwner (s.setEntry z.id (.waiting c sl t s.own none d none)) (.entry z.id)
    exact ⟨h.wants, h.frames⟩
  · exact .of_eq rfl rfl

/-- R15, R68: of such a waiter no want is left, and no frame where it had one at most and no want waits. -/
theorem becomeLocal_wantsNothing (hl : s.link.state.ownAge = none) (hz : z.Waits) :
    .entry z.id ∉ (s.becomeLocal z).lock.wants ∧ (s.lock.wants = [] → s.OneFrame (.entry z.id) →
      ∀ g ∈ (s.becomeLocal z).queue.frames, g.owner ≠ .lock (.entry z.id)) := by
  obtain ⟨c, sl, t, h, ep, d, pr, hst⟩ := hz
  simp only [State.becomeLocal, hst]
  exact ⟨withdrawOwner_unwanted _ _,
    withdrawOwner_unframed (s := s.setEntry z.id (.waiting c sl t s.own none d none)) hl⟩

theorem becomeLocals_wantNothing (hl : s.link.state.ownAge = none) (hz : z ∈ l) (hw : z.Waits) :
    .entry z.id ∉ (l.foldl State.becomeLocal s).lock.wants ∧ (s.lock.wants = [] → s.OneFrame (.entry z.id) →
      ∀ g ∈ (l.foldl State.becomeLocal s).queue.frames, g.owner ≠ .lock (.entry z.id)) := by
  obtain ⟨l₁, l₂, rfl⟩ := List.append_of_mem hz
  rw [List.foldl_append, List.foldl_cons]
  let u := l₁.foldl State.becomeLocal s
  have hbefore : Shrinks s u := .foldl .of_becomeLocal l₁ s
  have hafter : Shrinks (u.becomeLocal z) (l₂.foldl State.becomeLocal (u.becomeLocal z)) := .foldl .of_becomeLocal l₂ _
  have hlink : u.link.state.ownAge = none := by
    have hb : u.beyondLock = s.beyondLock := foldl_keeps _ _ (fun u z => becomeLocal_beyondLock u z) l₁ s
    rw [link_of_beyondLock hb]
    exact hl
  obtain ⟨hunwanted, hunframed⟩ := becomeLocal_wantsNothing hlink hw
  refine ⟨hafter.unwanted hunwanted, fun hnone hone => ?_⟩
  have hu : u.lock.wants = [] := List.subset_nil.1 (hnone ▸ hbefore.wants)
  exact hafter.unframed (List.subset_nil.1 (hu ▸ (Shrinks.of_becomeLocal u z).wants))
    (hunframed hu (hbefore.oneFrame hnone hone))

end

/-! ### Waiters that probe at once (R70, R80) -/

/-- Wants and frames only come. -/
def Grows (s t : State) : Prop := s.lock.wants ⊆ t.lock.wants ∧ s.queue.frames ⊆ t.queue.frames

section
variable {s : State} {z : LockEntry} {l : List LockEntry}

theorem Grows.of_raiseWant (s : State) (o : Owner) : Grows s (s.raiseWant o) := by
  unfold State.raiseWant
  split
  · exact ⟨fun _ h => h, fun _ h => h⟩
  · split
    · exact ⟨fun _ h => h, List.subset_append_left _ _⟩
    · exact ⟨List.subset_append_left _ _, fun _ h => h⟩

theorem Grows.of_immediateProbe (s : State) (z : LockEntry) : Grows s (s.immediateProbe z) := by
  unfold State.immediateProbe
  split
  · rename_i c sl t h ep d pr _
    exact Grows.of_raiseWant (s.setEntry z.id (.waiting c sl t h ep d none)) _
  · exact ⟨fun _ h => h, fun _ h => h⟩

/-- R14, R70: each has its want or frame. -/
theorem immediateProbes_served (hz : z ∈ l) (hw : z.Waits) :
    .entry z.id ∈ (l.foldl State.immediateProbe s).lock.wants ∨
      ∃ g ∈ (l.foldl State.immediateProbe s).queue.frames, g.owner = .lock (.entry z.id) := by
  obtain ⟨l₁, l₂, rfl⟩ := List.append_of_mem hz
  rw [List.foldl_append, List.foldl_cons]
  have hgrows : ∀ (l : List LockEntry) (u : State), Grows u (l.foldl State.immediateProbe u) := by
    intro l
    induction l with
    | nil => exact fun _ => ⟨fun _ h => h, fun _ h => h⟩
    | cons y l ih =>
      intro u
      obtain ⟨hw₁, hf₁⟩ := Grows.of_immediateProbe u y
      obtain ⟨hw₂, hf₂⟩ := ih (u.immediateProbe y)
      exact ⟨fun _ h => hw₂ (hw₁ h), fun _ h => hf₂ (hf₁ h)⟩
  obtain ⟨hwants, hframes⟩ := hgrows l₂ ((l₁.foldl State.immediateProbe s).immediateProbe z)
  obtain ⟨c, sl, t, h, ep, d, pr, hst⟩ := hw
  have hserved : .entry z.id ∈ ((l₁.foldl State.immediateProbe s).immediateProbe z).lock.wants ∨
      ∃ g ∈ ((l₁.foldl State.immediateProbe s).immediateProbe z).queue.frames, g.owner = .lock (.entry z.id) := by
    simp only [State.immediateProbe, hst]
    exact raiseWant_served _ _
  obtain hserved | ⟨g, hg, hgo⟩ := hserved
  · exact .inl (hwants hserved)
  · exact .inr ⟨g, hframes hg, hgo⟩

end

end Sys2Proof.Machine
end

section
/-! PROOFS. A heard GRANT that an entry of this station took (R4, R68, R77): the other entries of the resource settle. -/

namespace Sys2Proof.Machine

open Sys2Proof

/-! ### The tickets that are kept (R68) -/

section
variable {s p : State} {x : StationNo} {r : Resource} {h e : LockEntry}

theorem SenderMarked.own (hp : SenderMarked s p x) : p.own = s.own := by
  unfold State.own
  rw [hp.config]

theorem SenderMarked.liveWaiter (hp : SenderMarked s p x) (y : StationNo) (e : LockEntry) :
    p.liveWaiter y e = s.liveWaiter y e := by
  unfold State.liveWaiter
  rw [hp.epochs]

theorem SenderMarked.unique (hp : SenderMarked s p x) (hu : s.UniqueIds) : p.UniqueIds := by
  unfold State.UniqueIds
  rw [hp.lock]
  exact hu

theorem SenderMarked.holderOf (hp : SenderMarked s p x) (r : Resource) : p.holderOf r = s.holderOf r :=
  holderOf_congr (by rw [hp.lock]) r

theorem SenderMarked.elsewhere (hp : SenderMarked s p x) (r : Resource) : p.elsewhere r = s.elsewhere r := by
  unfold State.elsewhere
  rw [hp.lock, hp.own]

theorem SenderMarked.noFrame (hp : SenderMarked s p x) : p.link.state.ownAge = none := by
  rw [hp.link]
  rfl

/-- A lock-engine frame is one of those before. -/
theorem SenderMarked.oneFrame (hp : SenderMarked s p x) {o : Owner} (ho : s.OneFrame o) : p.OneFrame o := by
  have hmem : ∀ g ∈ p.queue.frames, g.owner = .lock o → g ∈ s.queue.frames := by
    intro g hg hgo
    obtain hg | hm := hp.frames g hg
    · exact hg
    · exact nomatch hm.symm.trans hgo
  exact fun f hf g hg hfo hgo => ho f (hmem f hf hfo) g (hmem g hg hgo) hfo hgo

theorem keepsItsTicket_iff : s.KeepsItsTicket x h e = true ↔
    ∃ c sl k ep d pr, e.state = .waiting c sl k x ep d pr ∧ ep = some (s.record x).epoch ∧
      inQueue h.serve h.issue k = true := by
  cases hst : e.state with
  | waiting c sl k y ep d pr =>
    simp only [State.KeepsItsTicket, hst, decide_eq_true_eq, inQueue_iff, EntryState.waiting.injEq]
    refine ⟨?_, ?_⟩
    · rintro ⟨rfl, hep, hqueue⟩
      exact ⟨c, sl, k, ep, d, pr, ⟨rfl, rfl, rfl, rfl, rfl, rfl, rfl⟩, hep, hqueue⟩
    · rintro ⟨c', sl', k', ep', d', pr', ⟨rfl, rfl, rfl, rfl, rfl, rfl, rfl⟩, hep, hqueue⟩
      exact ⟨rfl, hep, hqueue⟩
  | _ => simp [State.KeepsItsTicket, hst]

theorem SenderMarked.keepsTicket (hp : SenderMarked s p x) (h : LockEntry) :
    p.keepsTicket (some x) h = s.KeepsItsTicket x h := by
  funext e
  rw [Bool.eq_iff_iff, keepsItsTicket_iff]
  cases hst : e.state with
  | waiting c sl k y ep d pr =>
    simp only [State.keepsTicket, hst, State.liveWaiter, hp.epochs, Bool.and_eq_true, decide_eq_true_eq,
      EntryState.waiting.injEq]
    refine ⟨?_, ?_⟩
    · rintro ⟨⟨rfl, hep⟩, hqueue⟩
      exact ⟨c, sl, k, ep, d, pr, ⟨rfl, rfl, rfl, rfl, rfl, rfl, rfl⟩, hep, hqueue⟩
    · rintro ⟨c', sl', k', ep', d', pr', ⟨rfl, rfl, rfl, rfl, rfl, rfl, rfl⟩, hep, hqueue⟩
      exact ⟨⟨rfl, hep⟩, hqueue⟩
  | _ => simp [State.keepsTicket, hst]

end

/-! ### The resource settles under its holder entry -/

/-- The waiters on x that keep their tickets under holder entry h. -/
def State.keptUnder (s : State) (x : StationNo) (h : LockEntry) : List LockEntry :=
  (s.elsewhere h.resource).filter (s.KeepsItsTicket x h)

/-- An entry of this station took the GRANT of x, and holds as h; p is s with the sender marked. -/
structure TookGrant (s p : State) (x : StationNo) (h : LockEntry) : Prop where
  marked : SenderMarked s p x
  named  : s.PendingSlotsAreNamed
  holder : s.holderOf h.resource = some h

section
variable {s p : State} {x : StationNo} {h : LockEntry} (ht : TookGrant s p x h)
include ht

omit ht in
theorem mem_keptUnder {z : LockEntry} (hz : z ∈ s.keptUnder x h) :
    z ∈ s.lock.entries ∧ z.resource = h.resource ∧ s.KeepsItsTicket x h z = true ∧ z.Waits := by
  obtain ⟨hz, hkeeps⟩ := List.mem_filter.1 hz
  obtain ⟨hmem, hr, -⟩ := mem_elsewhere.1 hz
  obtain ⟨c, sl, k, ep, d, pr, hst, -⟩ := keepsItsTicket_iff.1 hkeeps
  exact ⟨hmem, hr, hkeeps, c, sl, k, x, ep, d, pr, hst⟩

omit ht in
theorem isHolder_of_waits {z : LockEntry} (hz : z.Waits) : z.isHolder = false := by
  obtain ⟨c, sl, k, y, ep, d, pr, hst⟩ := hz
  simp [LockEntry.isHolder, hst]

/-- R68: first those that keep their tickets become local, and then the others are placed. -/
theorem TookGrant.settles : p.settleHolder h.resource (some x)
    = (((s.keptUnder x h).foldl State.becomeLocal p).evaluateInTurn (s.toPlace h (s.KeepsItsTicket x h))).answerQueries
        h.resource := by
  obtain ⟨hh, -, hholder⟩ := holderOf_some ht.holder
  have hrest : (s.elsewhere h.resource).filter (fun e => !s.KeepsItsTicket x h e)
      = s.toPlace h (s.KeepsItsTicket x h) := by
    unfold State.elsewhere State.toPlace
    rw [List.filter_filter]
    refine List.filter_congr fun z hz => ?_
    by_cases hid : z.id = h.id
    · have hlooks : h.looksElsewhere s.own = false := by
        cases hst : h.state <;> simp [LockEntry.isHolder, LockEntry.looksElsewhere, hst] at hholder ⊢
      rw [uniqueIds_of_named ht.named z hz h hh hid, hlooks]
      simp
    · simp [hid, Bool.and_comm]
  have hplaces : p.placeOthers h.resource (some x)
      = ((s.keptUnder x h).foldl State.becomeLocal p).evaluateInTurn (s.toPlace h (s.KeepsItsTicket x h)) := by
    unfold State.placeOthers
    simp only [ht.marked.holderOf, ht.holder, ht.marked.keepsTicket]
    change (((p.elsewhere h.resource).filter (fun e => !s.KeepsItsTicket x h e)).foldl (fun s e => s.reevaluate e.id)
      (((p.elsewhere h.resource).filter (s.KeepsItsTicket x h)).foldl State.becomeLocal p)) = _
    rw [ht.marked.elsewhere, hrest]
    rfl
  unfold State.settleHolder
  rw [hplaces]

theorem TookGrant.restatesAll : RestatesAll State.becomeLocal p ((s.keptUnder x h).foldl State.becomeLocal p)
    (s.keptUnder x h) (LockEntry.asLocal s.own) := by
  refine Machine.restatesAll _ p (ht.marked.unique (uniqueIds_of_named ht.named)) (fun z hz => ⟨z.state, ?_⟩)
    (fun y hy z hz => uniqueIds_of_named ht.named y (mem_keptUnder hy).1 z (mem_keptUnder hz).1) fun u hu z hz => ?_
  · rw [ht.marked.lock]
    exact (mem_keptUnder hz).1
  · obtain ⟨-, -, -, hwaits⟩ := mem_keptUnder hz
    have hown : u.own = s.own := (own_of_shell (shell_of_beyondLock hu)).trans ht.marked.own
    rw [← hown]
    exact becomeLocal_restatesOne hwaits

/-- R4, R68: the others are to be placed. -/
theorem TookGrant.settling : Settling s ((s.keptUnder x h).foldl State.becomeLocal p) h (s.KeepsItsTicket x h) := by
  have hall := ht.restatesAll
  have hentries : p.lock.entries = s.lock.entries := by rw [ht.marked.lock]
  refine ⟨ht.named, hall.unique, ?_, ?_, ?_, ?_, fun y hy _ _ hk => hall.others y (hentries ▸ hy) fun z hz hid => ?_⟩
  · rw [hall.holder (fun z hz => ?_), ht.marked.holderOf, ht.holder]
    obtain ⟨hmem, -, -, hwaits⟩ := mem_keptUnder hz
    refine ⟨fun y hy hid => ?_, fun y hy => ?_⟩
    · rw [uniqueIds_of_named ht.named y (hentries ▸ hy) z hmem hid, isHolder_of_waits hwaits]
    · obtain ⟨c, sl, k, w, ep, d, pr, hst⟩ := hwaits
      simp [LockEntry.isHolder, hy, LockEntry.asLocal, hst]
  · rw [config_of_shell (shell_of_beyondLock hall.beyond), ht.marked.config]
  · rw [link_of_beyondLock hall.beyond]
    exact ht.marked.noFrame
  · rw [hall.queries, ht.marked.lock]
  · obtain ⟨hmem, -, hkeeps, -⟩ := mem_keptUnder hz
    rw [uniqueIds_of_named ht.named z hmem y hy hid] at hkeeps
    exact nomatch hkeeps.symm.trans hk

theorem TookGrant.placedUnder : PlacedUnder s (p.settleHolder h.resource (some x)) h (s.KeepsItsTicket x h) := by
  rw [ht.settles]
  exact ht.settling.placedUnder

/-- R68: a waiter that keeps its ticket becomes local, with no want or frame left. -/
theorem TookGrant.kept {e : LockEntry} {c : Context} {sl : SlotIx} {k : Ticket} {ep : Option Epoch} {d pr : Option Timer}
    (hx : x ≠ s.own) (he : e ∈ s.lock.entries) (hr : e.resource = h.resource)
    (hst : e.state = .waiting c sl k x ep d pr) (hkeeps : s.KeepsItsTicket x h e = true) :
    let t := p.settleHolder h.resource (some x)
    t.entry e.id = some { e with state := .waiting c sl k s.own none d none } ∧
      (t.slot sl).result.station = some s.own ∧ .entry e.id ∉ t.lock.wants ∧
      (s.OneFrame (.entry e.id) → s.lock.wants = [] → ∀ g ∈ t.queue.frames, g.owner ≠ .lock (.entry e.id)) := by
  intro t
  let u := (s.keptUnder x h).foldl State.becomeLocal p
  have hall := ht.restatesAll
  have hs := ht.settling
  have hwaits : e.Waits := ⟨c, sl, k, x, ep, d, pr, hst⟩
  have hslot : e.slot = some sl := slot_of_claimant (claimant_of_waiting hst)
  have hmem : e ∈ s.keptUnder x h := by
    refine List.mem_filter.2 ⟨mem_elsewhere.2 ⟨he, hr, ?_⟩, hkeeps⟩
    simpa [LockEntry.looksElsewhere, hst] using hx
  have hid : e.id ≠ h.id := by
    obtain ⟨hh, -, hholder⟩ := holderOf_some ht.holder
    intro hid
    rw [← uniqueIds_of_named ht.named e he h hh hid, isHolder_of_waits hwaits] at hholder
    exact nomatch hholder
  obtain ⟨hentry, hsame⟩ := hs.keeps he hid hkeeps
  rw [← ht.settles] at hentry hsame
  have hshrinks : Shrinks u t := by
    have hplaced := (hs.placeable.shrinks _ _ _).trans (.of_answerQueries _ h.resource)
    rw [← ht.settles] at hplaced
    exact hplaced
  obtain ⟨hunwanted, hunframed⟩ := becomeLocals_wantNothing ht.marked.noFrame hmem hwaits
  refine ⟨?_, ?_, hshrinks.unwanted hunwanted, fun hone hw => ?_⟩
  · rw [hentry, hall.restated e hmem]
    simp [LockEntry.asLocal, hst]
  · obtain ⟨v, hv, hlanded⟩ := hall.landed e hmem sl hslot fun y hy hne hys => by
      obtain ⟨hys', -⟩ := mem_keptUnder hy
      exact hne (congrArg LockEntry.id (id_eq_of_slot ht.named hys' he hys hslot))
    have hown : v.own = s.own := (own_of_shell (shell_of_beyondLock hv)).trans ht.marked.own
    rw [hsame sl hslot, hlanded, ← hown]
    simp only [State.becomeLocal, hst]
    rw [slot_setSlotStation, if_pos rfl]
  · have hwp : p.lock.wants = [] := by
      rw [ht.marked.lock]
      exact hw
    have hwu : u.lock.wants = [] := List.subset_nil.1
      (hwp ▸ (Shrinks.foldl .of_becomeLocal (s.keptUnder x h) p).wants)
    exact hshrinks.unframed hwu (hunframed hwp (ht.marked.oneFrame hone))

end

/-! ### No holder entry is left (R4, R29) -/

section
variable {s p : State} {x : StationNo} {e : LockEntry} {k : Context} {sl : SlotIx} {q : WaitPolicy} {d : Option Timer}

/-- A list without a double entry, of one entry alone. -/
theorem eq_singleton_of_nodup {α : Type} {l : List α} {a : α} (hl : l.Nodup) (ha : a ∈ l) (h : ∀ b ∈ l, b = a) :
    l = [a] :=
  List.perm_singleton.1 ((List.perm_ext_iff_of_nodup hl (List.nodup_singleton a)).2 fun b =>
    ⟨fun hb => List.mem_singleton.2 (h b hb), fun hb => List.mem_singleton.1 hb ▸ ha⟩)

/-- R4, R29: an entry alone on its resource is evaluated again, and claims. -/
theorem SenderMarked.evaluatedAgain (hp : SenderMarked s p x) (hn : s.PendingSlotsAreNamed) (he : e ∈ s.lock.entries)
    (hh : s.holderOf e.resource = none) (hm : e.Moved s.own = some (k, sl, q, d))
    (halone : ∀ y ∈ s.lock.entries, y.resource = e.resource → y = e) (y : Option StationNo) :
    EvaluatedAgain s (p.settleHolder e.resource y) e k sl q d := by
  obtain ⟨hc, hlooks⟩ := claimant_of_moved hm
  have hu := hp.unique (uniqueIds_of_named hn)
  have hentries : p.lock.entries = s.lock.entries := by rw [hp.lock]
  have hep : e ∈ p.lock.entries := hentries ▸ he
  have hhp : p.holderOf e.resource = none := (hp.holderOf _).trans hh
  have hlist : p.elsewhere e.resource = [e] := by
    rw [hp.elsewhere]
    obtain ⟨-, -, hids, -⟩ := hn
    refine eq_singleton_of_nodup ((List.Nodup.of_map _ hids).sublist List.filter_sublist)
      (mem_elsewhere.2 ⟨he, rfl, hlooks⟩) fun b hb => ?_
    obtain ⟨hmem, hr, -⟩ := mem_elsewhere.1 hb
    exact halone b hmem hr
  let w := p.withdrawOwner (.entry e.id)
  have hwe : w.lock.entries = p.lock.entries := withdrawOwner_entries _ _
  let c : Claimant := ⟨e.id, e.resource, k, sl, q, d⟩
  have hevaluates : p.reevaluate e.id = w.evaluate c := by
    have hoff : p.ownerOnLink (.entry e.id) = false := by
      simp [State.ownerOnLink, onLink_of_noFrame hp.noFrame]
    simp only [State.reevaluate, entry_of_mem hu hep, hc, hoff]
    rfl
  have hflight : w.claimInFlight c.resource c.id = false := by
    refine Bool.eq_false_iff.2 fun hflight => ?_
    obtain ⟨z, hz, hzr, -, hne⟩ := claimInFlight_iff.1 hflight
    exact hne (congrArg LockEntry.id (halone z (hentries ▸ hwe ▸ hz) hzr))
  have hclaims : p.reevaluate e.id
      = ((w.setEntry e.id (.claiming k sl q d none)).setSlotStation sl none).raiseWant (.entry e.id) := by
    rw [hevaluates, evaluate_claims (by rw [holderOf_congr hwe]; exact hhp) hflight,
      putEntry_present c _ (hwe ▸ hep) rfl]
  have hsettles : p.settleHolder e.resource y = p.reevaluate e.id := by
    have hplaces : p.placeOthers e.resource y = p.reevaluate e.id := by
      unfold State.placeOthers
      simp only [hhp]
      change p.evaluateInTurn (p.elsewhere e.resource) = _
      rw [hlist]
      rfl
    have hnone := (reevaluated hu hhp (id := e.id) fun z hz hid => by rw [hu z hz e hep hid]).holder
    rw [State.settleHolder, hplaces]
    simp [State.answerQueries, hnone]
  rw [hsettles, hclaims]
  refine ⟨fun h hf => (nomatch hh.symm.trans hf), fun _ _ => ⟨?_, ?_, raiseWant_served _ _⟩⟩
  · have hfound : w.entry e.id = some e := by
      unfold State.entry
      rw [hwe]
      exact entry_of_mem hu hep
    unfold State.entry
    rw [raiseWant_entries]
    exact entry_setEntry_self _ hfound
  · rw [slot_of_ring (raiseWant_ring _ _), slot_setSlotStation, if_pos rfl]

end

end Sys2Proof.Machine
end

section
/-! PROOFS. A heard GRANT that no entry of this station took (R79, R80, R93): its waiters follow the taker, probe at once,
or stay; and then the statement. -/

namespace Sys2Proof.Machine

open Sys2Proof

/-! ### The waiters on the sender (R67) -/

/-- The waiters on x, under its current epoch, for a resource. -/
def State.liveWaiters (s : State) (x : StationNo) (r : Resource) : List LockEntry :=
  s.lock.entries.filter (fun e => decide (e.resource = r) && s.liveWaiter x e)

section
variable {s p : State} {x : StationNo} {r : Resource} {e : LockEntry}

theorem mem_liveWaiters {c : Context} {sl : SlotIx} {k : Ticket} {ep : Option Epoch} {d pr : Option Timer}
    (hst : e.state = .waiting c sl k x ep d pr) :
    e ∈ s.liveWaiters x r ↔ e ∈ s.lock.entries ∧ e.resource = r ∧ ep = some (s.record x).epoch := by
  simp [State.liveWaiters, State.liveWaiter, hst]

theorem waits_of_liveWaiters (he : e ∈ s.liveWaiters x r) : e ∈ s.lock.entries ∧ e.Waits := by
  obtain ⟨hmem, hlive⟩ := List.mem_filter.1 he
  refine ⟨hmem, ?_⟩
  cases hst : e.state with
  | waiting c sl k y ep d pr => exact ⟨c, sl, k, y, ep, d, pr, hst⟩
  | _ => simp [State.liveWaiter, hst] at hlive

theorem SenderMarked.liveWaiters (hp : SenderMarked s p x) (r : Resource) :
    p.liveWaiters x r = s.liveWaiters x r := by
  unfold State.liveWaiters
  rw [hp.lock]
  simp only [hp.liveWaiter]

/-- The waiters are restated one after the other. -/
theorem SenderMarked.restatesAll (hp : SenderMarked s p x) (hu : s.UniqueIds) {f : State → LockEntry → State}
    {new : LockEntry → EntryState}
    (hstep : ∀ u : State, u.beyondLock = p.beyondLock → ∀ z : LockEntry, z.Waits → RestatesOne u (f u z) z (new z)) :
    RestatesAll f p ((s.liveWaiters x r).foldl f p) (s.liveWaiters x r) new := by
  refine Machine.restatesAll _ p (hp.unique hu) (fun z hz => ⟨z.state, ?_⟩)
    (fun y hy z hz => hu y (waits_of_liveWaiters hy).1 z (waits_of_liveWaiters hz).1) fun u hb z hz => ?_
  · rw [hp.lock]
    exact (waits_of_liveWaiters hz).1
  · exact hstep u hb z (waits_of_liveWaiters hz).2

/-! ### What the answer makes of them -/

/-- R79: after a valid TAKEN of y they follow it. -/
theorem followGrant_taken {y : StationNo} {v : BitVec 16} (hv : (s.validPeer y && validTaker v) = true) :
    s.followGrant x r (.code .taken y v) = (s.liveWaiters x r).foldl (fun u e => u.followTaker y e) s := by
  simp only [State.followGrant, hv, if_true]
  rfl

theorem followGrant_invalid {y : StationNo} {v : BitVec 16} (hv : (s.validPeer y && validTaker v) = false) :
    s.followGrant x r (.code .taken y v) = (s.liveWaiters x r).foldl State.immediateProbe s := by
  simp only [State.followGrant, hv, Bool.false_eq_true, if_false]
  rfl

theorem followGrant_probes {a : Answer} (hnone : a ≠ .none)
    (ha : ∀ y v, a = .code .taken y v → (s.validPeer y && validTaker v) = false) :
    s.followGrant x r a = (s.liveWaiters x r).foldl State.immediateProbe s := by
  cases a with
  | none => exact absurd rfl hnone
  | damaged => rfl
  | code n y v =>
    cases n with
    | taken => exact followGrant_invalid (ha y v rfl)
    | _ => rfl

theorem followGrant_notices (s : State) (x : StationNo) (r : Resource) (a : Answer) :
    (s.followGrant x r a).notices = s.notices := by
  have hprobes : ∀ u (z : LockEntry), (State.immediateProbe u z).notices = u.notices := by
    intro u z
    unfold State.immediateProbe
    split
    · exact raiseWant_notices _ _
    · rfl
  have hfollows : ∀ y u (z : LockEntry), (State.followTaker u y z).notices = u.notices := by
    intro y u z
    unfold State.followTaker
    split <;> rfl
  unfold State.followGrant
  dsimp only
  split
  · rfl
  · split
    · exact foldl_keeps State.notices _ (hfollows _) _ _
    · exact foldl_keeps State.notices _ hprobes _ _
  · exact foldl_keeps State.notices _ hprobes _ _

section
variable (hp : SenderMarked s p x) (hu : s.UniqueIds)
include hp hu

theorem SenderMarked.probes : RestatesAll State.immediateProbe p ((s.liveWaiters x r).foldl State.immediateProbe p)
    (s.liveWaiters x r) LockEntry.asProbing :=
  hp.restatesAll hu fun _ _ _ hz => immediateProbe_restatesOne hz

theorem SenderMarked.follows (y : StationNo) : RestatesAll (fun u e => u.followTaker y e) p
    ((s.liveWaiters x r).foldl (fun u e => u.followTaker y e) p) (s.liveWaiters x r)
    (LockEntry.asFollower y (s.record y).epoch) := by
  refine hp.restatesAll hu fun u hb z hz => ?_
  have hepoch : (u.record y).epoch = (s.record y).epoch := by
    rw [← hp.epochs]
    unfold State.record
    rw [member_of_beyondLock hb]
  rw [← hepoch]
  exact followTaker_restatesOne hz y

/-- R79, R80: what is no live waiter on the sender stays. -/
theorem SenderMarked.stays (a : Answer) (he : e ∈ s.lock.entries) (hno : e ∉ s.liveWaiters x r) :
    e ∈ (p.followGrant x r a).lock.entries := by
  have hep : e ∈ p.lock.entries := by
    rw [hp.lock]
    exact he
  have hids : ∀ z ∈ s.liveWaiters x r, z.id ≠ e.id := fun z hz hid =>
    hno (hu z (waits_of_liveWaiters hz).1 e he hid ▸ hz)
  by_cases hnone : a = .none
  · rw [hnone]
    exact hep
  · by_cases htaken : ∃ y v, a = .code .taken y v ∧ (p.validPeer y && validTaker v) = true
    · obtain ⟨y, v, rfl, hv⟩ := htaken
      rw [followGrant_taken hv, hp.liveWaiters]
      exact (hp.follows hu y).others e hep hids
    · rw [followGrant_probes hnone fun y v hy => Bool.eq_false_iff.2 fun hv => htaken ⟨y, v, hy, hv⟩, hp.liveWaiters]
      exact (hp.probes hu).others e hep hids

variable {c : Context} {sl : SlotIx} {k : Ticket} {ep : Option Epoch} {d pr : Option Timer}
  (hst : e.state = .waiting c sl k x ep d pr) (he : e ∈ s.liveWaiters x r)
include hst he

/-- R79, R152: a live waiter follows the taker, and its slot shows it. -/
theorem SenderMarked.waiter_follows {y : StationNo} {v : BitVec 16} (hv : (p.validPeer y && validTaker v) = true) :
    (p.followGrant x r (.code .taken y v)).entry e.id
        = some { e with state := .waiting c sl k y (some (s.record y).epoch) d pr } ∧
      (s.PendingSlotsAreNamed →
        ((p.followGrant x r (.code .taken y v)).slot sl).result.station = some y) := by
  have hall := hp.follows (r := r) hu y
  rw [followGrant_taken hv, hp.liveWaiters]
  refine ⟨?_, fun hn => ?_⟩
  · rw [hall.restated e he]
    simp [LockEntry.asFollower, hst]
  · have hslot : e.slot = some sl := slot_of_claimant (claimant_of_waiting hst)
    obtain ⟨u, -, hlanded⟩ := hall.landed e he sl hslot fun z hz hne hzs =>
      hne (congrArg LockEntry.id (id_eq_of_slot hn (waits_of_liveWaiters hz).1 (waits_of_liveWaiters he).1 hzs hslot))
    rw [hlanded]
    simp only [State.followTaker, hst]
    rw [slot_setSlotStation, if_pos rfl]

/-- R70, R80: a live waiter probes at once. -/
theorem SenderMarked.waiter_probes {a : Answer} (hnone : a ≠ .none)
    (ha : ∀ y v, a = .code .taken y v → (p.validPeer y && validTaker v) = false) :
    (p.followGrant x r a).entry e.id = some { e with state := .waiting c sl k x ep d none } ∧
      (.entry e.id ∈ (p.followGrant x r a).lock.wants ∨
        ∃ g ∈ (p.followGrant x r a).queue.frames, g.owner = .lock (.entry e.id)) := by
  rw [followGrant_probes hnone ha, hp.liveWaiters]
  refine ⟨?_, immediateProbes_served he (waits_of_liveWaiters he).2⟩
  rw [(hp.probes hu).restated e he]
  simp [LockEntry.asProbing, hst]

end

end

/-! ### The statement -/

/-- R122: the membership unit first, then the lock engine. -/
theorem exec_heardGrant {s : State} {f : HeardFrame} {r : Resource} {o i : Ticket} {line : AnswerLine}
    (hl : s.link.state = .listeningAnswer f) (hc : f.content = .grant r o i) (hx : f.sender ≠ s.own) :
    exec (.answerEnd line) s = .next (((s.linkIdle line.atEnd).presence f.sender).lockHeard f
      (decodeAnswer .grant (f.answer.getD (BitVec.allOnes 28) &&& line.field))) := by
  have hown : f.sender ≠ (s.linkIdle line.atEnd).own := hx
  simp only [exec, execAnswerEnd, hl, State.heardAnswerEnd, State.heardFrame, State.heardPresence, hc, if_neg hown]
  rfl

section
variable {s p : State} {f : HeardFrame} {r : Resource} {o i : Ticket} {a : Answer}

/-- R93, R98: what the lock engine leaves of the marked sender. -/
theorem SenderMarked.lockHeard_keeps (hp : SenderMarked s p f.sender) (a : Answer) :
    (p.lockHeard f a).link.state = .idle ∧ (p.lockHeard f a).record f.sender = s.RecordMarked f.sender ∧
      (s.TellMarked f.sender).notices.records <+: (p.lockHeard f a).notices.records ∧
      (∀ d ∈ (p.lockHeard f a).member.departs, d.1 ≠ f.sender) ∧
      ((∀ g ∈ s.queue.frames, ∀ g' ∈ s.queue.frames, g.departNamed = some f.sender →
          g'.departNamed = some f.sender → g.age = g'.age) →
        ∀ g ∈ (p.lockHeard f a).queue.frames, g.departNamed ≠ some f.sender) := by
  have hbeyond := lockHeard_beyondLock p f a
  refine ⟨?_, ?_, ?_, ?_, fun hone => lockHeard_departs p f a (hp.gone hone)⟩
  · rw [link_of_beyondLock hbeyond, hp.link]
  · rw [← hp.marked]
    unfold State.record
    rw [member_of_beyondLock hbeyond]
  · rw [← hp.notices]
    exact lockHeard_notices_prefix p f a
  · rw [member_of_beyondLock hbeyond]
    exact hp.departs

theorem lockHeard_taken (hc : f.content = .grant r o i) (ht : f.committed ≠ none) :
    p.lockHeard f a = p.settleHolder r (some f.sender) := by
  simp [State.lockHeard, hc, Option.isSome_iff_ne_none, ht]

theorem lockHeard_untaken (hc : f.content = .grant r o i) (ht : f.committed = none) :
    p.lockHeard f a = p.followGrant f.sender r a := by
  simp [State.lockHeard, hc, ht]

theorem SenderMarked.valid_iff {x : StationNo} (hp : SenderMarked s p x) {y : StationNo} {v : BitVec 16} :
    (p.validPeer y && validTaker v) = true ↔ s.OtherStation y ∧ v.toNat ≤ 7 := by
  rw [State.validPeer, hp.own]
  simp only [validTaker, Bool.and_eq_true, decide_eq_true_eq]
  rfl

end

/-- Settles O54: the sender is marked, and then the resource settles under the entry that took the GRANT, or its waiters
act on the answer. -/
theorem waitersFollowAHeardGrant : Obligations.WaitersFollowAHeardGrant := by
  intro s f r o i line hl hc h0 hx hu
  have hp := presence_marks (s := s) h0 hx line.atEnd
  obtain ⟨hidle, hrecord, hprefix, hdeparts, hgone⟩ :=
    hp.lockHeard_keeps (decodeAnswer .grant (f.answer.getD (BitVec.allOnes 28) &&& line.field))
  refine ⟨_, exec_heardGrant hl hc hx, hidle, hrecord, fun ht => ?_, hprefix, hdeparts, hgone, fun ht hn => ?_,
    fun ht e c sl k ep d pr he hr hst => ?_⟩
  · rw [lockHeard_untaken hc ht, followGrant_notices, hp.notices]
  · rw [lockHeard_taken hc ht]
    refine ⟨fun h hh => ?_, fun e k sl q d hh he hr hm halone => ?_⟩
    · obtain ⟨-, rfl, -⟩ := holderOf_some hh
      have htook : TookGrant s _ f.sender h := ⟨hp, hn, hh⟩
      exact ⟨htook.placedUnder, fun e c sl k ep d pr he hr hst hkeeps => htook.kept hx he hr hst hkeeps⟩
    · subst hr
      exact hp.evaluatedAgain hn he hh hm halone (some f.sender)
  · rw [lockHeard_untaken hc ht]
    refine ⟨fun hep => hp.stays hu _ he fun hlive => ?_, fun hep => ?_⟩
    · obtain ⟨-, -, hsame⟩ := (mem_liveWaiters hst).1 hlive
      exact hep hsame
    · have hlive : e ∈ s.liveWaiters f.sender r := (mem_liveWaiters hst).2 ⟨he, hr, hep⟩
      generalize decodeAnswer .grant (f.answer.getD (BitVec.allOnes 28) &&& line.field) = a
      cases a with
      | none =>
        change e ∈ ((s.linkIdle line.atEnd).presence f.sender).lock.entries
        rw [hp.lock]
        exact he
      | damaged => exact hp.waiter_probes hu hst hlive nofun nofun
      | code n y v =>
        cases n with
        | taken =>
          refine ⟨fun hy hv => hp.waiter_follows hu hst hlive (hp.valid_iff.2 ⟨hy, hv⟩), fun hno => ?_⟩
          refine hp.waiter_probes hu hst hlive nofun fun y' v' heq => ?_
          cases heq
          exact Bool.eq_false_iff.2 (mt hp.valid_iff.1 hno)
        | _ => exact hp.waiter_probes hu hst hlive nofun nofun

end Sys2Proof.Machine
end

section
/-! PROOFS. The passing of one microsecond (R11, R97, R100 to R102, R110, R111). -/

namespace Sys2Proof.Machine

open Sys2Proof

/-! ### The lock entries' timers (R11) -/

section
variable (e : LockEntry)

/-- A lock entry after one microsecond. -/
def LockEntry.ticked (e : LockEntry) : LockEntry := { e with state := e.state.tick }

theorem untimed_tick (st : EntryState) : st.tick.Untimed = st.Untimed := by
  cases st <;> rfl

theorem deadline_ticked : e.ticked.deadline = e.deadline.map (· - 1) := by
  rcases e with ⟨id, r, st, held⟩
  cases st <;> rfl

theorem probe_ticked : e.ticked.probe = e.probe.map (· - 1) := by
  rcases e with ⟨id, r, st, held⟩
  cases st <;> rfl

theorem claimRetry_ticked : e.ticked.claimRetry = e.claimRetry.map (· - 1) := by
  rcases e with ⟨id, r, st, held⟩
  cases st <;> rfl

theorem grantRetry_ticked : e.ticked.grantRetry = e.grantRetry.map (· - 1) := by
  rcases e with ⟨id, r, st, held⟩
  cases st <;> rfl

end

/-! ### The transceiver's counts (R110, R111) -/

section
variable (l : Transceiver)

theorem tick_line : l.tick.line = l.line := by
  unfold Transceiver.tick Transceiver.countIdle
  split
  · rfl
  · split <;> rfl
  · split <;> rfl
  · rfl

/-- Where the idle count runs. -/
def Transceiver.countsIdle (l : Transceiver) : Prop := (l.state = .idle ∨ l.state = .seeking) ∧ l.line = .recessive

theorem tick_counting (h : l.countsIdle) : l.tick = { l with idle := l.idle + 4 } := by
  obtain ⟨hstate | hstate, hline⟩ := h <;> simp [Transceiver.tick, Transceiver.countIdle, hstate, hline]

theorem tick_off (h : l.state = .off) : l.tick = l := by
  simp [Transceiver.tick, h]

theorem tick_timing (hidle : ¬ l.countsIdle) (hoff : l.state ≠ .off) : l.tick = { l with clock := l.clock + 4 } := by
  unfold Transceiver.tick Transceiver.countIdle
  split
  · exact absurd ‹_› hoff
  · exact if_neg fun hline => hidle ⟨.inr ‹_›, hline⟩
  · exact if_neg fun hline => hidle ⟨.inl ‹_›, hline⟩
  · rfl

theorem tick_idle : l.tick.idle = if (l.state = .idle ∨ l.state = .seeking) ∧ l.line = .recessive then l.idle + 4
    else l.idle := by
  split
  · rw [tick_counting _ ‹_›]
  · by_cases hoff : l.state = .off
    · rw [tick_off _ hoff]
    · rw [tick_timing _ ‹_› hoff]

theorem tick_clock : l.tick.clock =
    if l.state = .off ∨ ((l.state = .idle ∨ l.state = .seeking) ∧ l.line = .recessive) then l.clock
    else l.clock + 4 := by
  split
  · obtain hoff | hidle := ‹_ ∨ _›
    · rw [tick_off _ hoff]
    · rw [tick_counting _ hidle]
  · obtain ⟨hoff, hidle⟩ := not_or.1 ‹_›
    rw [tick_timing _ hidle hoff]

end

/-! ### The station -/

theorem record_tick (s : State) (h : s.resetHeld = false) (x : StationNo) :
    s.tick.record x = { s.record x with silence := (s.record x).silence.map (· - 1) } := by
  unfold State.record
  split
  · rfl
  · simp [State.tick, h, MembershipUnit.tick, tickTimer]

/-- Settles O3: each timer of an entry by the entry's state, and the transceiver's counts by its state and its line. -/
theorem clockTickCountsEveryTimer : Obligations.ClockTickCountsEveryTimer := by
  refine fun s => ⟨fun h => if_pos h, fun h => ?_⟩
  have htick : s.tick = { s with
      lock := { s.lock with entries := s.lock.entries.map LockEntry.ticked }
      member := s.member.tick, link := s.link.tick, elapsed := s.elapsed + 1 } := if_neg (by simp [h])
  have hrecord := record_tick s h
  rw [htick] at hrecord ⊢
  refine ⟨rfl, rfl, rfl, hrecord, rfl, rfl, rfl, ?_, ?_, ?_, ?_, ?_, rfl, rfl, rfl, tick_state _, tick_line _,
    tick_idle _, tick_clock _, rfl, rfl, rfl, rfl, rfl, rfl, rfl, rfl⟩
  · simp [Function.comp_def, LockEntry.ticked, untimed_tick]
  · simp [Function.comp_def, deadline_ticked]
  · simp [Function.comp_def, probe_ticked]
  · simp [Function.comp_def, claimRetry_ticked]
  · simp [Function.comp_def, grantRetry_ticked]

end Sys2Proof.Machine
end

section
/-! PROOFS. START and LEAVE, and the fence on the fence timer's expiry (R88, R97, R98, R100, R104, R106). -/

namespace Sys2Proof.Machine

open Sys2Proof

/-! ### START (R88, R97) -/

/-- R97: every silence timer of another PRESENT station runs anew. -/
theorem record_restartAllSilence (s : State) {x : StationNo} (hx : x ≠ 0) : s.restartAllSilence.record x =
    if (s.record x).state = .present ∧ x ≠ s.own then { s.record x with silence := some s.Timeout }
    else s.record x := by
  have hindex : x.toNat - 1 + 1 = s.own.toNat ↔ x = s.own := by
    have hx' : x.toNat ≠ 0 := fun h => hx (BitVec.eq_of_toNat_eq h)
    rw [Nat.sub_add_cancel (by omega)]
    exact ⟨BitVec.eq_of_toNat_eq, congrArg _⟩
  unfold State.record
  rw [dif_neg hx, dif_neg hx]
  simp only [State.restartAllSilence, State.withMember_member, Vector.getElem_mapFinIdx, ne_eq, hindex]
  rfl

/-- Settles O11: what START sets, and that in the other states it is ignored. -/
theorem startBeginsTheJoin : Obligations.StartBeginsTheJoin := by
  intro s hreset
  refine ⟨fun hst => ⟨s.beginJoin, ?_, rfl, rfl, rfl, fun x hx => ?_, rfl, rfl, rfl, rfl, rfl, rfl, rfl, rfl, rfl, rfl,
    rfl, rfl, rfl⟩, fun hoffline hrefused => ?_⟩
  · obtain hst | hst := hst <;> simp [exec, execStart, State.atPort, hreset, State.startCommand, hst]
  · exact record_restartAllSilence (s.withMember
      { s.member with ownTag := some (startTag s.elapsed), station := .joining }).linkSeeking hx
  · have hcommand : s.startCommand = s := by
      unfold State.startCommand
      split
      · exact absurd ‹_› hoffline
      · exact absurd ‹_› hrefused
      · rfl
    simp [exec, execStart, State.atPort, hcommand]

/-! ### Placing a membership frame (R129) -/

section
variable {s : State} {c : FrameContent}

theorem placeMember_places (h : ∀ f ∈ s.queue.frames, ∀ p, f.payload = some p → memberConflict s.own p c = false) :
    s.placeMember c = s.placeFrame c.kind .membership (some c) := by
  refine if_neg fun hany => ?_
  obtain ⟨f, hf, hconflict⟩ := List.any_eq_true.1 hany
  cases hp : f.payload with
  | none => simp [hp] at hconflict
  | some p => simp [hp, h f hf p hp] at hconflict

theorem placeMember_stands {f : FrameRecord} {p : FrameContent} (hf : f ∈ s.queue.frames) (hp : f.payload = some p)
    (h : memberConflict s.own p c = true) : s.placeMember c = s :=
  if_pos (List.any_eq_true.2 ⟨f, hf, by simpa [hp] using h⟩)

theorem memberConflict_join {own : StationNo} {p : FrameContent} {g : Tag} {d : Digest} :
    memberConflict own p (.join g d) = true ↔ ∃ g' d', p = .join g' d' := by
  cases p <;> simp [memberConflict]

theorem memberConflict_beacon {own : StationNo} {p : FrameContent} {g : Tag} :
    memberConflict own p (.beacon g) = true ↔ ∃ g', p = .beacon g' := by
  cases p <;> simp [memberConflict]

theorem memberConflict_depart {own y : StationNo} {p : FrameContent} {g : Tag} :
    memberConflict own p (.depart y g) = true ↔ ∃ x g', p = .depart x g' ∧ (x = y ∨ (x ≠ own ∧ y ≠ own)) := by
  cases p <;> simp [memberConflict]

end

/-! ### The fence (R89, R104) -/

/-- R110. -/
theorem synchronized_iff {l : LinkState} : l.synchronized = true ↔ l ≠ .off ∧ l ≠ .seeking := by
  cases l <;> simp [LinkState.synchronized]

section
variable (s : State) (k : FenceCause)

theorem wantJoin_beyondLock : s.wantJoin.beyondLock = s.beyondLock := by
  unfold State.wantJoin State.placeMember
  split
  · split <;> rfl
  · rfl

theorem wantJoin_notices : s.wantJoin.notices = s.notices := by
  unfold State.wantJoin
  split
  · exact placeMember_notices _ _
  · rfl

/-- The own JOIN that the fence may place leaves all but the queue. -/
theorem fence_beyondLock : (s.fence k).beyondLock = (s.rejoining k).beyondLock := by
  rw [fence_eq]
  split
  · exact wantJoin_beyondLock _
  · rfl

theorem fence_member : (s.fence k).member
    = { (s.fenced k).member with ownTag := s.member.ownTag.map nextTag, station := .joining } :=
  (member_of_beyondLock (fence_beyondLock s k)).trans (rejoining_member k)

theorem fence_record (x : StationNo) : (s.fence k).record x = (s.fenced k).record x := by
  rw [← rejoining_record]
  unfold State.record
  rw [member_of_beyondLock (fence_beyondLock s k)]

/-- R91: the own record becomes ABSENT. -/
theorem fence_ownRecord (hown : s.own ≠ 0) : ((s.fence k).record s.own).state = .absent ∧
    ((s.fence k).record s.own).tag = none ∧ ((s.fence k).record s.own).epoch = (s.record s.own).epoch + 1 := by
  rw [fence_record, fenced_record, if_pos ⟨rfl, hown⟩]
  exact ⟨rfl, rfl, rfl⟩

theorem fence_link : (s.fence k).link = s.link :=
  (link_of_beyondLock (fence_beyondLock s k)).trans (rejoining_link s k)

theorem fence_othersKept : OthersKept s (s.fence k) := by
  intro x hx
  rw [fence_record]
  exact fenced_othersKept s k x hx

theorem fence_notices : (s.fence k).notices = s.NoticesOfFence s k := by
  have hrejoining : (s.rejoining k).notices = s.NoticesOfFence s k := (rejoining_notices k).trans (fenced_notices s k)
  rw [fence_eq]
  split
  · exact (wantJoin_notices _).trans hrejoining
  · exact hrejoining

theorem rejoining_framesAfterFence : (s.rejoining k).queue = ⟨s.FramesAfterFence, s.queue.nextAge⟩ :=
  (rejoining_queue k).trans (fenced_queue s k)

/-- R89: without synchronization no JOIN is wanted. -/
theorem fence_queue (h : s.link.state = .off ∨ s.link.state = .seeking) :
    (s.fence k).queue = ⟨s.FramesAfterFence, s.queue.nextAge⟩ := by
  have hsync : ¬ s.link.state.synchronized = true := fun hsync =>
    let ⟨hoff, hseeking⟩ := synchronized_iff.1 hsync
    h.elim hoff hseeking
  rw [fence_eq, if_neg hsync]
  exact rejoining_framesAfterFence s k

/-- R89: where the transceiver is synchronized the own JOIN is wanted at once. -/
theorem fence_joinIsQueued (hoff : s.link.state ≠ .off) (hseeking : s.link.state ≠ .seeking) :
    JoinIsQueued s (s.fence k) s.FramesAfterFence := by
  intro g d hg hd
  have htag : (s.rejoining k).member.ownTag = some (TagAfterFence g) := by
    rw [rejoining_member, hg]
    rfl
  have hconfig : (s.rejoining k).config = s.config :=
    (config_of_shell (shell_of_beyondLock (fence_beyondLock s k))).symm.trans (config_of_shell (fence_shell s k))
  have hfence : s.fence k = (s.rejoining k).placeMember (.join (TagAfterFence g) d) := by
    rw [fence_eq, if_pos (synchronized_iff.2 ⟨hoff, hseeking⟩), State.wantJoin, htag, hconfig, hd]
  have hqueue := rejoining_framesAfterFence s k
  rw [hfence]
  refine ⟨fun hno => ?_, fun ⟨f, hf, g', d', hp⟩ => ?_⟩
  · rw [placeMember_places]
    · simp [State.placeFrame, hqueue, FrameContent.kind]
    · intro f hf p hp
      rw [hqueue] at hf
      refine Bool.eq_false_iff.2 fun h => ?_
      obtain ⟨g', d', rfl⟩ := memberConflict_join.1 h
      exact hno f hf g' d' hp
  · rw [placeMember_stands (f := f) (by rw [hqueue]; exact hf) hp (memberConflict_join.2 ⟨g', d', rfl⟩), hqueue]

end

/-- Settles O13: the fence, of which the own JOIN, the only part that needs a synchronized transceiver, is the last. -/
theorem fenceTimerExpiryFencesTheStation : Obligations.FenceTimerExpiryFencesTheStation := by
  intro s hm htimer hown
  obtain ⟨hbeacon, hfence⟩ := fenced_timers s .silence
  obtain ⟨hstate, htag, hepoch⟩ := fence_ownRecord s .silence hown
  have hmember := fence_member s .silence
  refine ⟨s.fence .silence, by simp [exec, execFenceTimerExpiry, hm, htimer], ?_, ?_, ?_, ?_, hstate, htag, hepoch, ?_,
    fence_link s _, fence_queue s _, fence_joinIsQueued s _, fence_othersKept s _, fence_notices s _⟩
  · rw [hmember]
  · rw [hmember, ← hbeacon]
  · rw [hmember, ← hfence]
  · rw [hmember, ← fenced_departs s .silence]
  · rw [hmember]
    rfl

/-! ### LEAVE (R98, R106) -/

section
variable (s : State)

theorem beginLeave_member : s.beginLeave.member = { s.withdrawMembership.member with station := .leaving } := by
  unfold State.beginLeave State.setStation
  rw [State.withMember_member, placeMember_member, convert_member]

theorem beginLeave_record (x : StationNo) : s.beginLeave.record x = s.withdrawMembership.record x := by
  unfold State.record
  rw [beginLeave_member]

theorem withdrawMembership_ownTag : s.withdrawMembership.member.ownTag = s.member.ownTag := by
  refine foldl_keeps (fun u : State => u.member.ownTag) _ (fun u x => ?_) _ _
  unfold State.restartSilenceIfPresent State.restartSilence State.setRecord
  split
  · split <;> rfl
  · rfl

/-- R106: the own DEPART is placed behind the frames that are left, where none is queued. -/
theorem beginLeave_queue {g : Tag} (hg : s.member.ownTag = some g)
    (hno : ∀ f ∈ s.FramesAfterFence, ∀ g', f.payload ≠ some (.depart s.own g')) :
    s.beginLeave.queue = ⟨s.FramesAfterFence
      ++ [⟨.depart, .membership, s.queue.nextAge, 0, some (.depart s.own g), false⟩], s.queue.nextAge + 1⟩ := by
  have hown : (s.withdrawMembership.convert .offline).own = s.own :=
    (own_of_shell (convert_shell _ _)).trans (withdrawMembership_own s)
  have hqueue : (s.withdrawMembership.convert .offline).queue = ⟨s.FramesAfterFence, s.queue.nextAge⟩ := by
    rw [convert_queue, convertedFrames_withdrawMembership, withdrawMembership_queue]
  unfold State.beginLeave
  dsimp only
  generalize s.withdrawMembership.convert .offline = u at hown hqueue ⊢
  rw [hg, placeMember_places]
  · simp [State.placeFrame, State.setStation, hqueue, FrameContent.kind]
  · intro f hf p hp
    rw [hqueue] at hf
    refine Bool.eq_false_iff.2 fun h => ?_
    obtain ⟨x, g', rfl, hx | ⟨-, hx⟩⟩ := memberConflict_depart.1 h
    · exact hno f hf g' (hx ▸ hp)
    · exact hx hown.symm

theorem beginLeave_notices : s.beginLeave.notices = (s.TellWaiting s .offline).notices := by
  have hplaced : s.beginLeave.notices = (s.withdrawMembership.convert .offline).notices := placeMember_notices _ _
  rw [hplaced, convert_notices]
  exact tellWaiting_notices_congr (withdrawMembership_lock s) (withdrawMembership_ring s) (withdrawMembership_notices s)

theorem beginLeave_link : s.beginLeave.link = s.link := by
  have hplaced : s.beginLeave.link = (s.withdrawMembership.convert .offline).link := placeMember_link _ _
  rw [hplaced, link_of_beyondLock (convert_beyondLock _ _), withdrawMembership_link]

/-- R98: the withdrawals restart silence timers alone. -/
theorem withdrawMembership_keeps (x : StationNo) : (s.withdrawMembership.record x).state = (s.record x).state ∧
    (s.withdrawMembership.record x).tag = (s.record x).tag ∧
      (s.withdrawMembership.record x).epoch = (s.record x).epoch := by
  rw [record_withdrawMembership]
  split <;> exact ⟨rfl, rfl, rfl⟩

theorem beginLeave_othersKept : OthersKept s s.beginLeave := by
  intro x _
  obtain ⟨hstate, htag, hepoch⟩ := withdrawMembership_keeps s x
  rw [beginLeave_record]
  refine ⟨hstate, htag, hepoch, ?_⟩
  rw [record_withdrawMembership]
  refine ⟨fun hnot => if_neg fun h => hnot h.1, fun hmem hp hl => if_pos ⟨hmem, hp, hl⟩, ?_⟩
  rintro (hp | hl)
  · exact if_neg fun h => hp h.2.1
  · exact if_neg fun h => h.2.2 hl

end

/-- Settles O14: the withdrawals, the conversion and the own DEPART; outside MEMBER nothing. -/
theorem leaveBeginsTheFarewell : Obligations.LeaveBeginsTheFarewell := by
  intro s hreset
  refine ⟨fun hm => ?_, fun hm => ?_⟩
  · obtain ⟨hbeacon, hfence⟩ := withdrawMembership_timers s
    have hmember := beginLeave_member s
    refine ⟨s.beginLeave, by simp [exec, execLeave, State.atPort, hreset, State.leaveCommand, hm], ?_, ?_, ?_, ?_, ?_,
      beginLeave_link s, fun x => ?_, beginLeave_othersKept s, fun g => beginLeave_queue s, beginLeave_notices s⟩
    · rw [hmember]
    · rw [hmember, ← hbeacon]
    · rw [hmember, ← hfence]
    · rw [hmember, ← withdrawMembership_departs s]
    · rw [hmember, ← withdrawMembership_ownTag s]
    · rw [beginLeave_record]
      exact withdrawMembership_keeps s x
  · simp [exec, execLeave, State.atPort, State.leaveCommand, hm]

end Sys2Proof.Machine
end

section
/-! PROOFS. The expiries of the silence timers and of the beacon timer (R97, R98, R101). -/

namespace Sys2Proof.Machine

open Sys2Proof

/-! ### A DEPART is wanted (R98) -/

section
variable {s : State} {x : StationNo} {g : Tag}

/-- A record is one of the membership unit's alone. -/
theorem record_congr {s t : State} (h : t.member.records = s.member.records) (x : StationNo) :
    t.record x = s.record x := by
  unfold State.record
  rw [h]

theorem record_setRecord_of_ne_zero (s : State) (h0 : x ≠ 0) (y : StationNo) (r : MemberRecord) :
    (s.setRecord x r).record y = if y = x then r else s.record y := by
  refine (record_setRecord s x y r).trans ?_
  simp only [h0, ne_eq, not_false_eq_true, and_true]

/-- What a wanted DEPART leaves. -/
theorem wantDepart_keeps (s : State) (x : StationNo) (g : Tag) :
    (s.wantDepart x g).member.station = s.member.station ∧ (s.wantDepart x g).member.records = s.member.records ∧
      (s.wantDepart x g).lock = s.lock ∧ (s.wantDepart x g).ring = s.ring ∧
      (s.wantDepart x g).notices = s.notices ∧ (s.wantDepart x g).link = s.link := by
  unfold State.wantDepart
  split
  · split <;> exact ⟨rfl, rfl, rfl, rfl, rfl, rfl⟩
  · simp

/-- Whether a DEPART of another station than this one is queued. -/
theorem departsOther_any : s.queue.frames.any (FrameRecord.departsOther s.own) = true ↔
    ∃ f ∈ s.queue.frames, f.departsOther s.own = true := List.any_eq_true

/-- R98: with no DEPART of another station queued it enters the queue. -/
theorem wantDepart_places (hx : x ≠ s.own) (hno : ∀ f ∈ s.queue.frames, f.departsOther s.own = false)
    (hkind : ∀ f ∈ s.queue.frames, f.kind ≠ .depart → ∀ y g, f.payload ≠ some (.depart y g)) :
    s.wantDepart x g = s.placeFrame .depart .membership (some (.depart x g)) := by
  have hany : ¬ s.queue.frames.any (FrameRecord.departsOther s.own) = true := by
    rintro hany
    obtain ⟨f, hf, hother⟩ := departsOther_any.1 hany
    exact nomatch (hno f hf).symm.trans hother
  unfold State.wantDepart
  rw [if_neg hany]
  refine placeMember_places fun f hf p hp => Bool.eq_false_iff.2 fun hconflict => ?_
  obtain ⟨y, g', rfl, hy⟩ := memberConflict_depart.1 hconflict
  have hdepart : f.kind = .depart := by
    by_contra hk
    exact hkind f hf hk y g' hp
  have hown : y = s.own := by
    by_contra hne
    exact nomatch (hno f hf).symm.trans (departsOther_iff.2 ⟨y, departNamed_eq_some.2 ⟨hdepart, g', hp⟩, hne⟩)
  obtain hy | ⟨hne, -⟩ := hy
  · exact hx (hy.symm.trans hown)
  · exact hne hown

/-- R98: behind one that is queued it pends. -/
theorem wantDepart_pends (hqueued : ∃ f ∈ s.queue.frames, f.departsOther s.own = true)
    (hnew : ∀ p ∈ s.member.departs, p.1 ≠ x) :
    s.wantDepart x g = s.withDeparts (s.member.departs ++ [(x, g)]) := by
  unfold State.wantDepart
  rw [if_pos (departsOther_any.2 hqueued), if_neg (by simpa using fun b h => hnew (x, b) h rfl)]

end

/-! ### The silence timers (R97) -/

section
variable {s : State} {x : StationNo}

theorem exec_silenceTimerExpiry (h : (s.record x).silence.isSome = true) :
    exec (.silenceTimerExpiry x) s = .next (s.expireSilence x) :=
  congrArg Host.Outcome.next (if_pos h)

theorem expireSilence_member (hm : s.member.station = .member) : s.expireSilence x
    = (s.setRecord x { s.record x with silence := none }).wantDepart x ((s.record x).tag.getD 0) := by
  simp [State.expireSilence, hm]

theorem expireSilence_restarts (hm : s.member.station = .joining ∨ s.member.station = .leaving) :
    s.expireSilence x = s.restartSilence x := by
  obtain hm | hm := hm <;> simp [State.expireSilence, hm]

end

/-! ### The beacon timer (R101) -/

section
variable {s : State} {g : Tag}

theorem exec_beaconTimerExpiry (hm : s.member.station = .member) (ht : s.member.beaconTimer.isSome = true)
    (hg : s.member.ownTag = some g) : exec .beaconTimerExpiry s = .next
      ((s.withMember { s.member with beaconTimer := some s.beaconInterval }).placeMember (.beacon g)) := by
  simp [exec, execBeaconTimerExpiry, hm, ht, State.expireBeacon, hg]

end

/-- Settles O39, a clause for each timer, by the station state and by what is queued. -/
theorem membershipTimersWantTheirFrames : Obligations.MembershipTimersWantTheirFrames := by
  intro s
  refine ⟨fun x hx => ?_, fun x h0 hown hx hm => ?_, fun x h0 hx hm => ?_, fun g hm ht hg => ⟨?_, fun hno => ?_⟩,
    fun hm => congrArg Host.Outcome.next (if_neg fun h => hm h.1)⟩
  · simp [exec, execSilenceTimerExpiry, hx]
  · let u := s.setRecord x { s.record x with silence := none }
    have hrecord : ∀ y, u.record y = if y = x then { s.record x with silence := none } else s.record y :=
      fun y => record_setRecord_of_ne_zero s h0 y _
    have hqueue : u.queue = s.queue := setRecord_queue _ _ _
    have hdeparts : u.member.departs = s.member.departs := setRecord_departs _ _ _
    have husown : u.own = s.own := setRecord_own _ _ _
    obtain ⟨hstation, hrecords, hlock, hring, hnotices, hlink⟩ := wantDepart_keeps u x ((s.record x).tag.getD 0)
    refine ⟨u.wantDepart x ((s.record x).tag.getD 0),
      (exec_silenceTimerExpiry hx).trans (congrArg _ (expireSilence_member hm)),
      (record_congr hrecords x).trans ((hrecord x).trans (if_pos rfl)),
      fun y hy => (record_congr hrecords y).trans ((hrecord y).trans (if_neg hy)),
      hstation.trans (setRecord_station _ _ _), hlock.trans (setRecord_lock _ _ _), hring.trans (setRecord_ring _ _ _),
      hnotices.trans (setRecord_notices _ _ _), hlink.trans (setRecord_link _ _ _), fun hno hkind => ?_,
      fun hqueued hnew => ?_⟩
    · rw [← hqueue, ← husown] at hno
      rw [← hqueue] at hkind
      rw [wantDepart_places (husown ▸ hown) hno hkind]
      exact ⟨hdeparts, by simp [State.placeFrame, hqueue]⟩
    · rw [← hqueue, ← husown] at hqueued
      rw [← hdeparts] at hnew
      rw [wantDepart_pends hqueued hnew, ← hdeparts]
      exact ⟨hqueue, rfl⟩
  · have hrecord := fun y => record_setRecord_of_ne_zero s h0 y { s.record x with silence := some s.presenceTimeout }
    exact ⟨s.restartSilence x, (exec_silenceTimerExpiry hx).trans (congrArg _ (expireSilence_restarts hm)),
      (hrecord x).trans (if_pos rfl), fun y hy => (hrecord y).trans (if_neg hy), setRecord_departs _ _ _,
      setRecord_station _ _ _, setRecord_queue _ _ _, setRecord_lock _ _ _, setRecord_ring _ _ _,
      setRecord_notices _ _ _⟩
  · rintro ⟨f, hf, g', hp⟩
    have hstands := placeMember_stands (s := s.withMember { s.member with beaconTimer := some s.beaconInterval })
      (f := f) hf hp (memberConflict_beacon (g := g).2 ⟨g', rfl⟩)
    exact (exec_beaconTimerExpiry hm ht hg).trans (congrArg _ hstands)
  · refine (exec_beaconTimerExpiry hm ht hg).trans
      (congrArg Host.Outcome.next (placeMember_places fun f hf p hp => Bool.eq_false_iff.2 fun hconflict => ?_))
    obtain ⟨g', rfl⟩ := memberConflict_beacon.1 hconflict
    exact hno f hf g' hp

end Sys2Proof.Machine
end

section
/-! PROOFS. The membership frames as they are sent (R114 to R116, R187): the content that a station reads of one, and
that it does not veto it; and the commands by which such a frame is accepted, of another sender and of this station's
queue. -/

namespace Sys2Proof.Machine

open Sys2Proof

/-! ### What is read of a frame that was sent (R115, R187) -/

theorem join16_extract (x : BitVec 16) : join16 (x.extractLsb' 8 8) (x.extractLsb' 0 8) = x := by
  apply BitVec.eq_of_toNat_eq
  simp only [join16, BitVec.toNat_append, BitVec.extractLsb'_toNat, Nat.shiftRight_zero]
  rw [Nat.shiftLeft_eq, Nat.mul_comm, ← Nat.two_pow_add_eq_or_of_lt (Nat.mod_lt _ (by decide))]
  omega

theorem station_of_byte (d : StationNo) : ((0 : BitVec 3) ++ d).extractLsb' 0 5 = d ∧
    ((0 : BitVec 3) ++ d).extractLsb' 5 3 = 0 := by
  revert d
  decide

/-- R115: the check does not cover itself. -/
theorem computedCheck_check {l : BitVec 2} {x : StationNo} {k : BitVec 3} {n : BitVec 4} {p : List Byte}
    {d d' : Digest} : computedCheck ⟨l, x, k, n, p, d⟩ = computedCheck ⟨l, x, k, n, p, d'⟩ := rfl

/-- R116: the membership frames that a station accepts: no tag 0 in a JOIN or BEACON, and at a MEMBER no other digest in
a JOIN. -/
def State.Accepts (s : State) : FrameContent → Prop
  | .join g d => g ≠ 0 ∧ (s.member.station = .member → s.config.digest = some d)
  | .beacon g => g ≠ 0
  | .depart _ _ => True
  | _ => False

section
variable {s : State} {x : StationNo} {c : FrameContent}

theorem State.Accepts.notLock (hc : s.Accepts c) : c.kind.isLock = false := by
  cases c with
  | join => rfl
  | beacon => rfl
  | depart => rfl
  | _ => exact hc.elim

theorem State.Accepts.parsePayload (hc : s.Accepts c) : parsePayload c.kind.code c.payload = some c := by
  cases c with
  | join g d =>
    refine (if_pos rfl).trans ?_
    change (if join16 (g.extractLsb' 8 8) (g.extractLsb' 0 8) = 0 then none else some _) = _
    rw [join16_extract, join16_extract, if_neg hc.1]
  | beacon g =>
    refine (if_neg (show (1 : BitVec 3) ≠ 0 by decide)).trans ((if_pos rfl).trans ?_)
    change (if join16 (g.extractLsb' 8 8) (g.extractLsb' 0 8) = 0 then none else some _) = _
    rw [join16_extract, if_neg hc]
  | depart d g =>
    refine (if_neg (show (2 : BitVec 3) ≠ 0 by decide)).trans
      ((if_neg (show (2 : BitVec 3) ≠ 1 by decide)).trans ((if_pos rfl).trans ?_))
    obtain ⟨hstation, hreserved⟩ := station_of_byte d
    change (if ((0 : BitVec 3) ++ d).extractLsb' 5 3 = 0 then
      some (FrameContent.depart (((0 : BitVec 3) ++ d).extractLsb' 0 5) (join16 _ _)) else none) = _
    rw [if_pos hreserved, hstation, join16_extract]
  | _ => exact hc.elim

theorem State.Accepts.frameContent (hc : s.Accepts c) (hx : x ≠ 0) : frameContent (linkFrame x c) = some c := by
  have hbytes : payloadTaken (linkFrame x c) = c.payload := by
    cases c with
    | join => rfl
    | beacon => rfl
    | depart => rfl
    | _ => exact hc.elim
  unfold Machine.frameContent
  rw [hbytes, show (linkFrame x c).kind = c.kind.code from rfl, hc.parsePayload]
  exact if_pos ⟨rfl, hx⟩

theorem State.Accepts.notVetoed (hc : s.Accepts c) (hx : x ≠ 0) : s.vetoes (linkFrame x c) = false := by
  have hcheck : (linkFrame x c).check = computedCheck (linkFrame x c) := by
    simp only [linkFrame]
    exact computedCheck_check
  unfold State.vetoes frameVetoed
  rw [if_pos hcheck, hc.frameContent hx]
  cases c with
  | join g d =>
    obtain ⟨-, hdigest⟩ := hc
    unfold State.vetoDigest
    by_cases hm : s.member.station = .member
    · rw [if_pos hm, hdigest hm]
      exact decide_eq_false fun hne => hne rfl
    · rw [if_neg hm]
  | beacon => rfl
  | depart => rfl
  | _ => exact hc.elim

end

/-! ### The commands -/

section
variable {s : State} {x : StationNo} {c : FrameContent} {z : LineAtEnd}

/-- R117, R122: a membership frame of another sender passes its veto slot. -/
theorem exec_heardMembership (hl : s.link.state = .listening ∨ s.link.state = .vetoSlot false) (hx : x ≠ 0)
    (hc : s.Accepts c) :
    exec (.vetoSlotEnd (linkFrame x c) (.ends false z)) s = .next ((s.linkIdle z).heardFrame x c) := by
  have hend : s.heardVetoEnd (linkFrame x c) false z = (s.linkIdle z).heardFrame x c := by
    simp only [State.heardVetoEnd, hc.frameContent hx, hc.notLock, Bool.false_eq_true, if_false]
    rfl
  obtain hl | hl := hl
  · simp only [exec, execVetoSlotEnd, State.endVetoSlot, hl, hc.notVetoed hx, Bool.or_false, hend]
  · simp only [exec, execVetoSlotEnd, State.endVetoSlot, hl, Bool.or_false, hend]

/-- R117, R122: an own membership frame passes its veto slot. -/
theorem ownVetoEnd_membership {a : Nat} (hown : s.own ≠ 0) (hc : s.Accepts c) :
    s.ownVetoEnd ⟨a, c⟩ false z = s.ownFrameAccepted ⟨a, c⟩ z .none := by
  simp only [State.ownVetoEnd, hc.notVetoed hown, hc.notLock, Bool.or_false, Bool.false_eq_true, if_false]

end

end Sys2Proof.Machine
end

section
/-! PROOFS. What each operation of the membership unit leaves (R83, R93 to R99): the own tag and timers, the records,
the pending DEPARTs, and the blocks beside it. -/

namespace Sys2Proof.Machine

open Sys2Proof

/-- What an accepted frame leaves of the membership unit: station state, own tag, beacon and fence timer. -/
def MembershipUnit.standing (m : MembershipUnit) : StationState × Option Tag × Option Timer × Option Timer :=
  (m.station, m.ownTag, m.beaconTimer, m.fenceTimer)

section
variable (s : State) (x y : StationNo) (r : MemberRecord) (g : Tag)

@[simp] theorem setRecord_standing : (s.setRecord x r).member.standing = s.member.standing := by
  unfold State.setRecord
  split <;> rfl

/-! ### The waiters on a station are woken (R83) -/

@[simp] theorem wakeWaiters_member : (s.wakeWaiters x).member = s.member :=
  member_of_beyondLock (wakeWaiters_beyondLock s x)

@[simp] theorem wakeWaiters_record : (s.wakeWaiters x).record y = s.record y :=
  record_congr (congrArg MembershipUnit.records (wakeWaiters_member s x)) y

@[simp] theorem wakeWaiters_ring : (s.wakeWaiters x).ring = s.ring := by
  refine foldl_keeps State.ring _ (fun u e => ?_) _ _
  unfold State.immediateProbe
  split
  · exact raiseWant_ring _ _
  · rfl

@[simp] theorem wakeWaiters_notices : (s.wakeWaiters x).notices = s.notices := by
  refine foldl_keeps State.notices _ (fun u e => ?_) _ _
  unfold State.immediateProbe
  split
  · exact raiseWant_notices _ _
  · rfl

/-- The remote waiters on a station. -/
def State.waitersOn (s : State) (x : StationNo) : List LockEntry :=
  s.lock.entries.filter (fun e => e.isRemoteWaiter s.own &&
    (match e.state with
      | .waiting _ _ _ holder _ _ _ => decide (holder = x)
      | _ => false))

theorem wakeWaiters_eq : s.wakeWaiters x = (s.waitersOn x).foldl State.immediateProbe s := rfl

theorem mem_waitersOn {s : State} {x : StationNo} {e : LockEntry} : e ∈ s.waitersOn x ↔
    e ∈ s.lock.entries ∧ x ≠ s.own ∧ ∃ c sl k ep d pr, e.state = .waiting c sl k x ep d pr := by
  unfold State.waitersOn
  rw [List.mem_filter]
  refine and_congr_right fun _ => ?_
  rcases e with ⟨id, r, st, held⟩
  cases st with
  | waiting c sl k y ep d pr =>
    simp only [LockEntry.isRemoteWaiter, Bool.and_eq_true, decide_eq_true_eq, EntryState.waiting.injEq, exists_and_left,
      exists_and_right, exists_eq', true_and, and_true]
    exact ⟨fun ⟨h, hx⟩ => ⟨hx ▸ h, hx⟩, fun ⟨h, hx⟩ => ⟨hx ▸ h, hx⟩⟩
  | _ => simp [LockEntry.isRemoteWaiter]

theorem wakeWaiters_of_none {s : State} {x : StationNo} (h : x ≠ s.own → s.NoneWaitsOn x) : s.wakeWaiters x = s := by
  have hnil : s.waitersOn x = [] := by
    refine List.eq_nil_iff_forall_not_mem.2 fun e he => ?_
    obtain ⟨hmem, hx, c, sl, k, ep, d, pr, hst⟩ := mem_waitersOn.1 he
    exact h hx e hmem c sl k ep d pr hst
  rw [wakeWaiters_eq, hnil]
  rfl

/-- R83: those that wait on this station are local waiters. -/
theorem wakeWaiters_own : s.wakeWaiters s.own = s := wakeWaiters_of_none fun h => absurd rfl h

/-- R70, R83: the probe timer of a waiter that is woken stops, for the probe at once. -/
theorem wakeWaiters_probes {s : State} {x : StationNo} (hu : s.UniqueIds) (hx : x ≠ s.own) {e : LockEntry}
    {c : Context} {sl : SlotIx} {k : Ticket} {ep : Option Epoch} {d pr : Option Timer} (he : e ∈ s.lock.entries)
    (hst : e.state = .waiting c sl k x ep d pr) :
    (s.wakeWaiters x).entry e.id = some { e with state := .waiting c sl k x ep d none } := by
  have hwaits : ∀ z ∈ s.waitersOn x, z.Waits := fun z hz =>
    let ⟨_, _, c, sl, k, ep, d, pr, hst⟩ := mem_waitersOn.1 hz
    ⟨c, sl, k, x, ep, d, pr, hst⟩
  have hmem : ∀ z ∈ s.waitersOn x, z ∈ s.lock.entries := fun z hz => (mem_waitersOn.1 hz).1
  have hall : RestatesAll State.immediateProbe s (s.wakeWaiters x) (s.waitersOn x) LockEntry.asProbing :=
    restatesAll _ s hu (fun z hz => ⟨z.state, hmem z hz⟩) (fun y hy z hz => hu y (hmem y hy) z (hmem z hz))
      fun u _ z hz => immediateProbe_restatesOne (hwaits z hz)
  have hwoken : e ∈ s.waitersOn x := mem_waitersOn.2 ⟨he, hx, c, sl, k, ep, d, pr, hst⟩
  rw [hall.restated e hwoken]
  simp [LockEntry.asProbing, hst]

/-! ### A DEPART is withdrawn (R93, R98) -/

@[simp] theorem withdrawDepart_lock : (s.withdrawDepart x).lock = s.lock := (withdrawDepart_gone s x).lock
@[simp] theorem withdrawDepart_ring : (s.withdrawDepart x).ring = s.ring := (withdrawDepart_gone s x).ring
@[simp] theorem withdrawDepart_notices : (s.withdrawDepart x).notices = s.notices := (withdrawDepart_gone s x).notices

@[simp] theorem withdrawDepart_record : (s.withdrawDepart x).record y = s.record y :=
  record_congr (withdrawDepart_gone s x).records y

@[simp] theorem fillDepart_standing : s.fillDepart.member.standing = s.member.standing := by
  unfold State.fillDepart
  split
  · rfl
  · split
    · rfl
    · rw [placeMember_member]
      rfl

@[simp] theorem removeFrame_member (f : FrameRecord) : (s.removeFrame f).member = s.member :=
  member_of_beyondLock (removeFrame_beyondLock s f)

@[simp] theorem withdrawDepart_standing : (s.withdrawDepart x).member.standing = s.member.standing := by
  unfold State.withdrawDepart
  dsimp only
  split
  · rw [fillDepart_standing, removeFrame_member]
    rfl
  · rfl

/-- With no DEPART of x in the queue off the link, pending ones go alone. -/
theorem withdrawDepart_unqueued {s : State} {x : StationNo}
    (h : ∀ f ∈ s.queue.frames, s.onLink f = true ∨ f.departNamed ≠ some x) :
    s.withdrawDepart x = s.withDeparts (s.member.departs.filter (fun d => decide (d.1 ≠ x))) := by
  have hnone : (s.withDeparts (s.member.departs.filter (fun d => decide (d.1 ≠ x)))).queuedDepart x = none := by
    refine List.find?_eq_none.2 fun f hf hfx => ?_
    simp only [Bool.and_eq_true, Bool.not_eq_true', decide_eq_true_eq] at hfx
    obtain hon | hno := h f hf
    · exact nomatch hon.symm.trans hfx.1
    · exact hno hfx.2
  unfold State.withdrawDepart
  dsimp only
  rw [hnone]

end

/-- No DEPART is among the frames. -/
def NoDeparts (l : List FrameRecord) : Prop := ∀ h ∈ l, h.kind ≠ .depart ∧ ∀ y g, h.payload ≠ some (.depart y g)

section
variable {s t u : State} {f : FrameRecord} {x : StationNo} {left : List (StationNo × Tag)}

/-- It is a matter of the pending DEPARTs and of the queue. -/
theorem DepartIsWithdrawn.congr (h : DepartIsWithdrawn s t f left) (hdeparts : u.member.departs = t.member.departs)
    (hqueue : u.queue = t.queue) : DepartIsWithdrawn s u f left := by
  unfold DepartIsWithdrawn
  rw [hdeparts, hqueue]
  exact h

/-- R98: behind frames without a DEPART the oldest pending one is placed. -/
theorem fillDepart_withdrawn (hq : u.queue = s.QueueWithout f.age) (hno : NoDeparts (s.FramesWithout f.age)) :
    DepartIsWithdrawn s u.fillDepart f u.member.departs := by
  have hframes : u.queue.frames = s.FramesWithout f.age := congrArg OutboundQueue.frames hq
  refine ⟨fun hnil => ?_, fun y g l hcons => ?_⟩
  · have hfill : u.fillDepart = u := by
      unfold State.fillDepart
      rw [hnil]
    rw [hfill]
    exact ⟨hnil, hq⟩
  · have hany : ¬ u.queue.frames.any (FrameRecord.departsOther u.own) = true := by
      intro hany
      obtain ⟨h, hh, hother⟩ := List.any_eq_true.1 hany
      obtain ⟨z, hz, -⟩ := departsOther_iff.1 hother
      exact (hno h (hframes ▸ hh)).1 (departNamed_eq_some.1 hz).1
    have hfill : u.fillDepart = (u.withDeparts l).placeFrame .depart .membership (some (.depart y g)) := by
      unfold State.fillDepart
      rw [hcons]
      dsimp only
      rw [if_neg hany]
      refine placeMember_places fun h hh p hp => Bool.eq_false_iff.2 fun hconflict => ?_
      obtain ⟨z, g', rfl, -⟩ := memberConflict_depart.1 hconflict
      exact (hno h (hframes ▸ hh)).2 z g' hp
    rw [hfill]
    refine ⟨rfl, ?_⟩
    change OutboundQueue.mk (u.queue.frames ++ [⟨_, _, u.queue.nextAge, 0, _, false⟩]) (u.queue.nextAge + 1) = _
    rw [hq]
    rfl

/-- R93, R98: f, the only DEPART in the queue, names x and is off the link. -/
theorem withdrawDepart_withdrawn (hq : u.queue = s.queue) (hl : u.link.state.ownAge = none) (hf : f ∈ s.queue.frames)
    (hx : f.departNamed = some x) (hno : NoDeparts (s.FramesWithout f.age)) :
    DepartIsWithdrawn s (u.withdrawDepart x) f (u.member.departs.filter (fun d => decide (d.1 ≠ x))) := by
  let v := u.withDeparts (u.member.departs.filter (fun d => decide (d.1 ≠ x)))
  have hvq : v.queue = s.queue := hq
  obtain ⟨f', hf', hfound⟩ : ∃ f' ∈ s.queue.frames, f'.departNamed = some x ∧ v.queuedDepart x = some f' := by
    cases hfound : v.queuedDepart x with
    | none =>
      have hnot := List.find?_eq_none.1 hfound f (hvq ▸ hf)
      rw [onLink_of_noFrame (s := v) hl, hx] at hnot
      simp at hnot
    | some f' =>
      have hmatch := List.find?_some hfound
      simp only [Bool.and_eq_true, decide_eq_true_eq] at hmatch
      exact ⟨f', hvq ▸ List.mem_of_find?_eq_some hfound, hmatch.2, rfl⟩
  have hage : f'.age = f.age := by
    by_contra hne
    exact (hno f' (List.mem_filter.2 ⟨hf', decide_eq_true hne⟩)).1 (departNamed_eq_some.1 hfound.1).1
  have hwithdrawn : u.withdrawDepart x = (v.withFrames (v.FramesWithout f'.age)).fillDepart := by
    rw [← removeFrame_depart hfound.1]
    unfold State.withdrawDepart
    dsimp only
    rw [hfound.2]
  rw [hwithdrawn]
  refine fillDepart_withdrawn (u := v.withFrames (v.FramesWithout f'.age)) ?_ hno
  rw [hage]
  change OutboundQueue.mk (v.queue.frames.filter _) v.queue.nextAge = _
  rw [hvq]
  rfl

end

/-! ### The sender of an accepted frame is PRESENT (R93) -/

section
variable (s : State) (x : StationNo)

theorem presence_eq : s.presence x = ((s.peerUp x).restartSilence x).withdrawDepart x := rfl

theorem peerUp_standing : (s.peerUp x).member.standing = s.member.standing := by
  unfold State.peerUp
  split
  · rfl
  · rw [enterNotice_member, setRecord_standing]

@[simp] theorem presence_standing : (s.presence x).member.standing = s.member.standing := by
  rw [presence_eq, withdrawDepart_standing, State.restartSilence, setRecord_standing, peerUp_standing]

/-- What presence leaves before it withdraws the DEPART. -/
theorem peerPresent_keeps : ((s.peerUp x).restartSilence x).lock = s.lock ∧
    ((s.peerUp x).restartSilence x).ring = s.ring ∧ ((s.peerUp x).restartSilence x).queue = s.queue ∧
    ((s.peerUp x).restartSilence x).link = s.link ∧
    ((s.peerUp x).restartSilence x).member.departs = s.member.departs := by
  obtain ⟨hlock, hring, -, hlink, hqueue⟩ := peerUp_facts s x
  have hdeparts : (s.peerUp x).member.departs = s.member.departs := by
    unfold State.peerUp
    split
    · rfl
    · rw [enterNotice_member, setRecord_departs]
  exact ⟨(setRecord_lock _ _ _).trans hlock, (setRecord_ring _ _ _).trans hring, (setRecord_queue _ _ _).trans hqueue,
    (setRecord_link _ _ _).trans hlink, (setRecord_departs _ _ _).trans hdeparts⟩

@[simp] theorem presence_lock : (s.presence x).lock = s.lock := by
  rw [presence_eq, withdrawDepart_lock, (peerPresent_keeps s x).1]

@[simp] theorem presence_ring : (s.presence x).ring = s.ring := by
  obtain ⟨-, hring, -⟩ := peerPresent_keeps s x
  rw [presence_eq, withdrawDepart_ring, hring]

end

section
variable {s : State} {x : StationNo}

theorem presence_notices (hx : x ≠ s.own) : (s.presence x).notices = (s.TellMarked x).notices := by
  rw [presence_eq, withdrawDepart_notices, State.restartSilence, setRecord_notices]
  exact peerUp_notices rfl rfl hx

theorem presence_record (h0 : x ≠ 0) (hx : x ≠ s.own) (y : StationNo) :
    (s.presence x).record y = if y = x then s.RecordMarked x else s.record y := by
  have htimeout : (s.peerUp x).presenceTimeout = s.Timeout := by
    obtain ⟨-, -, hconfig, -⟩ := peerUp_facts s x
    simp only [State.presenceTimeout, State.beaconInterval, hconfig]
    rfl
  rw [presence_eq, withdrawDepart_record, State.restartSilence, record_setRecord_of_ne_zero _ h0, peerUp_record _ h0,
    peerUp_record _ h0, if_pos rfl, htimeout, State.RecordMarked, if_neg hx]
  by_cases hy : y = x
  · rw [if_pos hy, if_pos hy]
  · rw [if_neg hy, if_neg hy, if_neg hy]

/-- R93, R98: no DEPART of x is in the queue. -/
theorem presence_unqueued (h : ∀ f ∈ s.queue.frames, f.departNamed ≠ some x) : (s.presence x).queue = s.queue ∧
    (s.presence x).member.departs = s.member.departs.filter (fun d => decide (d.1 ≠ x)) := by
  obtain ⟨-, -, hqueue, -, hdeparts⟩ := peerPresent_keeps s x
  rw [presence_eq, withdrawDepart_unqueued fun f hf => .inr (h f (hqueue ▸ hf))]
  exact ⟨hqueue, congrArg (List.filter _) hdeparts⟩

/-- R93, R98: the one DEPART in the queue is of x. -/
theorem presence_withdrawn {f : FrameRecord} (hl : s.link.state.ownAge = none) (hf : f ∈ s.queue.frames)
    (hx : f.departNamed = some x) (hno : NoDeparts (s.FramesWithout f.age)) :
    DepartIsWithdrawn s (s.presence x) f (s.member.departs.filter (fun d => decide (d.1 ≠ x))) := by
  obtain ⟨-, -, hqueue, hlink, hdeparts⟩ := peerPresent_keeps s x
  rw [presence_eq, ← hdeparts]
  exact withdrawDepart_withdrawn hqueue (by rw [hlink]; exact hl) hf hx hno

end

/-! ### An epoch is raised (R83, R96) -/

section
variable {s : State} {x : StationNo} {r : MemberRecord}

@[simp] theorem raiseEpoch_standing : (s.raiseEpoch x r).member.standing = s.member.standing := by
  rw [State.raiseEpoch, wakeWaiters_member, setRecord_standing]

@[simp] theorem raiseEpoch_departs : (s.raiseEpoch x r).member.departs = s.member.departs := by
  rw [State.raiseEpoch, wakeWaiters_member, setRecord_departs]

@[simp] theorem raiseEpoch_ring : (s.raiseEpoch x r).ring = s.ring := by
  rw [State.raiseEpoch, wakeWaiters_ring, setRecord_ring]

@[simp] theorem raiseEpoch_notices : (s.raiseEpoch x r).notices = s.notices := by
  rw [State.raiseEpoch, wakeWaiters_notices, setRecord_notices]

theorem raiseEpoch_record (h0 : x ≠ 0) (y : StationNo) :
    (s.raiseEpoch x r).record y = if y = x then { r with epoch := r.epoch + 1 } else s.record y := by
  rw [State.raiseEpoch, wakeWaiters_record, record_setRecord_of_ne_zero _ h0]

theorem raiseEpoch_of_none (h : s.NoneWaitsOn x) :
    s.raiseEpoch x r = s.setRecord x { r with epoch := r.epoch + 1 } := by
  refine wakeWaiters_of_none fun _ => ?_
  unfold State.NoneWaitsOn
  rw [setRecord_lock]
  exact h

/-- R83: the remote waiters on the station probe at once. -/
theorem raiseEpoch_probes (hu : s.UniqueIds) (hx : x ≠ s.own) {e : LockEntry} {c : Context} {sl : SlotIx} {k : Ticket}
    {ep : Option Epoch} {d pr : Option Timer} (he : e ∈ s.lock.entries) (hst : e.state = .waiting c sl k x ep d pr) :
    (s.raiseEpoch x r).entry e.id = some { e with state := .waiting c sl k x ep d none } := by
  have hlock : (s.setRecord x { r with epoch := r.epoch + 1 }).lock = s.lock := setRecord_lock _ _ _
  refine wakeWaiters_probes ?_ ?_ (by rw [hlock]; exact he) hst
  · unfold State.UniqueIds
    rw [hlock]
    exact hu
  · rw [setRecord_own]
    exact hx

end

/-! ### An accepted BEACON (R94) -/

section
variable {s : State} {x : StationNo} {before : MemberRecord} {g : Tag}

@[simp] theorem beaconTag_standing : (s.beaconTag x before g).member.standing = s.member.standing := by
  unfold State.beaconTag
  dsimp only
  split <;> simp

@[simp] theorem beaconTag_departs : (s.beaconTag x before g).member.departs = s.member.departs := by
  unfold State.beaconTag
  dsimp only
  split <;> simp

@[simp] theorem beaconTag_ring : (s.beaconTag x before g).ring = s.ring := by
  unfold State.beaconTag
  dsimp only
  split <;> simp

theorem beaconTag_other (h0 : x ≠ 0) {y : StationNo} (hy : y ≠ x) : (s.beaconTag x before g).record y = s.record y := by
  unfold State.beaconTag
  dsimp only
  split
  · rw [enterNotice_record, raiseEpoch_record h0, if_neg hy]
  · rw [record_setRecord_of_ne_zero _ h0, if_neg hy]

/-- R94: the tag is new to the station, or the same. -/
theorem beaconTag_kept (h : before.state = .present → before.tag = none ∨ before.tag = some g) :
    s.beaconTag x before g = s.setRecord x { s.record x with tag := some g } := by
  refine if_neg fun ⟨hpresent, hsome, hne⟩ => ?_
  obtain hnone | hsame := h hpresent
  · rw [hnone] at hsome
    exact nomatch hsome
  · exact hne hsame

/-- R94, R96: the tag has changed. -/
theorem beaconTag_changed {g' : Tag} (hpresent : before.state = .present) (htag : before.tag = some g') (hne : g' ≠ g) :
    s.beaconTag x before g
      = (s.raiseEpoch x { s.record x with tag := some g }).enterNotice (.peerRejoined x) := by
  refine if_pos ⟨hpresent, by rw [htag]; rfl, fun h => hne ?_⟩
  rw [htag] at h
  exact Option.some.inj h

end

/-! ### An accepted DEPART of another station (R99) -/

/-- R99: what an accepted DEPART of d does before d's own DEPART is withdrawn. -/
def State.departed (s : State) (d : StationNo) (k : DownCause) : State :=
  (s.raiseEpoch d ⟨.absent, none, (s.record d).epoch, none⟩).enterNotice (.peerDown d k)

section
variable {s : State} {d : StationNo} {g : Tag} {k : DownCause}

theorem departedBy_iff {r : MemberRecord} : r.departedBy g = true ↔
    r.state = .present ∧ (g = 0 ∨ r.tag = none ∨ r.tag = some g) := by
  simp [MemberRecord.departedBy, or_assoc]

theorem departNames_fits (h0 : d ≠ 0) (h : (s.record d).departedBy g = true) :
    s.departNames d g k = (s.departed d k).withdrawDepart d := if_pos ⟨h0, h⟩

theorem departNames_unfit (h : ¬ (s.record d).departedBy g = true) : s.departNames d g k = s :=
  if_neg fun h' => h h'.2

@[simp] theorem departNames_standing : (s.departNames d g k).member.standing = s.member.standing := by
  unfold State.departNames
  split <;> simp

@[simp] theorem departNames_ring : (s.departNames d g k).ring = s.ring := by
  unfold State.departNames
  split <;> simp

theorem departNames_other (h0 : d ≠ 0) {y : StationNo} (hy : y ≠ d) :
    (s.departNames d g k).record y = s.record y := by
  unfold State.departNames
  split
  · rw [withdrawDepart_record, enterNotice_record, raiseEpoch_record h0, if_neg hy]
  · rfl

section
variable (h0 : d ≠ 0) (h : (s.record d).departedBy g = true)
include h0 h

theorem departNames_record : (s.departNames d g k).record d = ⟨.absent, none, (s.record d).epoch + 1, none⟩ := by
  rw [departNames_fits h0 h, withdrawDepart_record, State.departed, enterNotice_record, raiseEpoch_record h0,
    if_pos rfl]

theorem departNames_notices : (s.departNames d g k).notices = (s.enterNotice (.peerDown d k)).notices := by
  rw [departNames_fits h0 h, withdrawDepart_notices]
  exact enterNotice_notices_congr _ raiseEpoch_notices

theorem departNames_lock :
    (s.departNames d g k).lock = (s.raiseEpoch d ⟨.absent, none, (s.record d).epoch, none⟩).lock := by
  rw [departNames_fits h0 h, withdrawDepart_lock, State.departed, enterNotice_lock]

end

/-- With none waiting on d, what changes before d's DEPART is withdrawn is its record and the notices. -/
theorem departed_keeps (hnone : s.NoneWaitsOn d) : (s.departed d k).queue = s.queue ∧
    (s.departed d k).link = s.link ∧ (s.departed d k).member.departs = s.member.departs := by
  rw [State.departed, raiseEpoch_of_none hnone]
  simp

end

end Sys2Proof.Machine
end

section
/-! PROOFS. A BEACON, CLAIM, QUERY or GRANT heard, of another station or of this station's own number (R92 to R94, R96,
R98, R122). -/

namespace Sys2Proof.Machine

open Sys2Proof

/-! ### The end of the frame -/

section
variable {s : State} {x : StationNo} {z : LineAtEnd}

theorem linkIdle_link : (s.linkIdle z).link = LinkAfterFrame z := by
  cases z <;> rfl

theorem linkIdle_ownAge : (s.linkIdle z).link.state.ownAge = none := by
  rw [linkIdle_state]
  rfl

/-- R111: beside the transceiver the station is as before. -/
theorem linkIdle_eq : s.linkIdle z = { s with link := LinkAfterFrame z } := by
  rw [← linkIdle_link (s := s)]
  rfl

theorem tellMarked_linkIdle : ((s.linkIdle z).TellMarked x).notices = (s.TellMarked x).notices :=
  tell_notices_congr rfl

theorem tellMarked_present (h : (s.record x).state = .present) : s.TellMarked x = s :=
  if_neg (by simp [h])

theorem tellMarked_new (hx : x ≠ s.own) (h : (s.record x).state ≠ .present) :
    s.TellMarked x = s.enterNotice (.peerUp x) :=
  if_pos (by simp [hx, h])

theorem tellMarked_own : s.TellMarked s.own = s :=
  if_neg (by simp)

end

/-! ### A CLAIM or a QUERY at its answer end (R93, R122) -/

section
variable {s : State} {x : StationNo} {z : LineAtEnd}

theorem fields_of_standing {m m' : MembershipUnit} (h : m.standing = m'.standing) : m.station = m'.station ∧
    m.ownTag = m'.ownTag ∧ m.beaconTimer = m'.beaconTimer ∧ m.fenceTimer = m'.fenceTimer := by
  simpa only [MembershipUnit.standing, Prod.mk.injEq] using h

/-- R93: the sender is another station. -/
theorem presence_marksItsSender (h0 : x ≠ 0) (hx : x ≠ s.own) :
    MarksItsSender s ((s.linkIdle z).presence x) x := by
  obtain ⟨hstation, htag, hbeacon, hfence⟩ := fields_of_standing (presence_standing (s.linkIdle z) x)
  have hrecord := presence_record (s := s.linkIdle z) h0 hx
  refine ⟨(hrecord x).trans (if_pos rfl), fun y hy => (hrecord y).trans (if_neg hy), hstation, htag, hbeacon, hfence,
    presence_lock _ _, presence_ring _ _, (presence_notices (s := s.linkIdle z) hx).trans tellMarked_linkIdle,
    fun hno => ?_, fun _ => ⟨?_, fun f hf hfx hothers => ?_⟩⟩
  · exact (presence_unqueued (s := s.linkIdle z) (hno.resolve_left hx)).1
  · exact (withdrawDepart_gone _ x).departs
  · exact presence_withdrawn (s := s.linkIdle z) linkIdle_ownAge hf hfx hothers

/-- R92: it carries this station's own number. -/
theorem linkIdle_marksItsSender : MarksItsSender s (s.linkIdle z) s.own :=
  ⟨(if_pos rfl).symm, fun _ _ => rfl, rfl, rfl, rfl, rfl, rfl, rfl, by rw [tellMarked_own]; rfl, fun _ => rfl,
    fun h => absurd rfl h⟩

/-- R122: the commit point of a CLAIM or QUERY hands the lock engine nothing. -/
theorem exec_heardClaim {f : HeardFrame} {line : AnswerLine} (hl : s.link.state = .listeningAnswer f)
    (hc : f.content.kind = .claim ∨ f.content.kind = .query) : exec (.answerEnd line) s
      = .next (if f.sender = s.own then s.linkIdle line.atEnd else (s.linkIdle line.atEnd).presence f.sender) := by
  have hend : s.heardAnswerEnd f line
      = if f.sender = s.own then s.linkIdle line.atEnd else (s.linkIdle line.atEnd).presence f.sender := by
    unfold State.heardAnswerEnd State.lockHeard State.heardFrame State.heardPresence
    cases hcontent : f.content with
    | claim => rfl
    | query => rfl
    | _ =>
      rw [hcontent] at hc
      exact hc.elim nofun nofun
  rw [← hend]
  simp [exec, execAnswerEnd, hl]

end

/-! ### A BEACON (R94) -/

section
variable {s : State} {x : StationNo} {g : Tag} {z : LineAtEnd}

/-- R93, R94: the state after a BEACON of x. -/
def State.beaconHeard (s : State) (x : StationNo) (g : Tag) : State :=
  (s.presence x).beaconTag x (s.record x) g

theorem heardFrame_beacon (hx : x ≠ s.own) : s.heardFrame x (.beacon g) = s.beaconHeard x g := if_neg hx

/-- R92: of this station's own number only a DEPART has an effect. -/
theorem heardFrame_own {c : FrameContent} (hc : ∀ d g, c ≠ .depart d g) : s.heardFrame s.own c = s := by
  have hpresence : s.heardPresence s.own c = s := if_pos rfl
  unfold State.heardFrame
  rw [hpresence]
  cases c with
  | depart d g => exact absurd rfl (hc d g)
  | _ => rfl

section
variable (h0 : x ≠ 0) (hx : x ≠ s.own)
include h0 hx

theorem beaconHeard_other {y : StationNo} (hy : y ≠ x) : (s.beaconHeard x g).record y = s.record y := by
  rw [State.beaconHeard, beaconTag_other h0 hy, presence_record h0 hx, if_neg hy]

/-- R94: the tag is new to the station, or the same. -/
theorem beaconHeard_kept (h : (s.record x).state = .present → (s.record x).tag = none ∨ (s.record x).tag = some g) :
    (s.beaconHeard x g).record x = ⟨.present, some g, (s.record x).epoch, some s.Timeout⟩ ∧
      (s.beaconHeard x g).notices = (s.TellMarked x).notices ∧ (s.beaconHeard x g).lock = s.lock ∧
      (s.beaconHeard x g).queue = (s.presence x).queue ∧
      (s.beaconHeard x g).member.departs = (s.presence x).member.departs := by
  rw [State.beaconHeard, beaconTag_kept h, record_setRecord_of_ne_zero _ h0, if_pos rfl, presence_record h0 hx,
    if_pos rfl, State.RecordMarked, if_neg hx, setRecord_notices, presence_notices hx, setRecord_lock, presence_lock,
    setRecord_queue, setRecord_departs]
  exact ⟨rfl, rfl, rfl, rfl, rfl⟩

/-- R94, R96: the tag has changed. -/
theorem beaconHeard_changed {g' : Tag} (hp : (s.record x).state = .present) (htag : (s.record x).tag = some g')
    (hne : g' ≠ g) :
    (s.beaconHeard x g).record x = ⟨.present, some g, (s.record x).epoch + 1, some s.Timeout⟩ ∧
      (s.beaconHeard x g).notices = (s.enterNotice (.peerRejoined x)).notices := by
  rw [State.beaconHeard, beaconTag_changed hp htag hne, enterNotice_record, raiseEpoch_record h0, if_pos rfl,
    presence_record h0 hx, if_pos rfl, State.RecordMarked, if_neg hx]
  refine ⟨rfl, enterNotice_notices_congr _ ?_⟩
  rw [raiseEpoch_notices, presence_notices hx, tellMarked_present hp]

end

/-- R96, R98: what every BEACON of another station leaves, with no DEPART of it queued. -/
theorem beaconHeard_keeps (hno : ∀ f ∈ s.queue.frames, f.departNamed ≠ some x) :
    (s.beaconHeard x g).link = s.link ∧ (s.beaconHeard x g).member.station = s.member.station ∧
      (s.beaconHeard x g).ring = s.ring ∧
      (s.beaconHeard x g).member.departs = s.member.departs.filter (fun d => decide (d.1 ≠ x)) := by
  obtain ⟨hstation, -⟩ := fields_of_standing
    ((beaconTag_standing (before := s.record x) (g := g)).trans (presence_standing s x))
  refine ⟨?_, hstation, ?_, ?_⟩
  · rw [State.beaconHeard, beaconTag_link, presence_link]
  · rw [State.beaconHeard, beaconTag_ring, presence_ring]
  · rw [State.beaconHeard, beaconTag_departs, (presence_unqueued hno).2]

end

/-- Settles O45, a clause for a CLAIM or QUERY, a GRANT of the own number, and a BEACON of the own and of another. -/
theorem beaconHeardRecordsPresenceAndTag : Obligations.BeaconHeardRecordsPresenceAndTag := by
  refine ⟨fun s f line hl hc h0 => ?_, fun s f line hl hc hx => ?_, fun s g z ⟨hl, h0, _⟩ hg => ?_,
    fun s x g f z ⟨hl, h0, hf, hfx, hno⟩ hx hg htag => ?_, fun s x g z ⟨hl, h0, hx, hno⟩ hg => ?_⟩
  · rw [exec_heardClaim hl hc]
    by_cases hx : f.sender = s.own
    · rw [if_pos hx, hx]
      exact ⟨_, rfl, linkIdle_link, linkIdle_marksItsSender, fun _ => rfl⟩
    · rw [if_neg hx]
      exact ⟨_, rfl, (presence_link _ _).trans linkIdle_link, presence_marksItsSender h0 hx, fun h => absurd h hx⟩
  · refine ⟨_, by simp only [exec, execAnswerEnd, hl]; rfl, ?_⟩
    rw [State.heardAnswerEnd, member_of_beyondLock (lockHeard_beyondLock _ _ _), hx]
    have hkept : (s.linkIdle line.atEnd).heardFrame s.own f.content = s.linkIdle line.atEnd :=
      heardFrame_own (s := s.linkIdle line.atEnd) fun d g h => by
        rw [h] at hc
        exact nomatch hc
    rw [hkept]
    rfl
  · rw [exec_heardMembership hl h0 (show s.Accepts (.beacon g) from hg), ← linkIdle_eq]
    exact congrArg _ (heardFrame_own (s := s.linkIdle z) nofun)
  · refine ⟨(s.linkIdle z).beaconHeard x g, ?_, ?_⟩
    · rw [exec_heardMembership hl h0 (show s.Accepts (.beacon g) from hg)]
      exact congrArg _ (heardFrame_beacon (s := s.linkIdle z) hx)
    · obtain ⟨hrecord, -, hlock, hqueue, hdeparts⟩ := beaconHeard_kept (s := s.linkIdle z) h0 hx htag
      exact ⟨hrecord, hlock,
        (presence_withdrawn (s := s.linkIdle z) linkIdle_ownAge hf hfx hno).congr hdeparts hqueue⟩
  · let u := s.linkIdle z
    obtain ⟨hlink, hstation, hring, hdeparts⟩ := beaconHeard_keeps (s := u) (g := g) hno
    have hqueue : (u.presence x).queue = s.queue := (presence_unqueued (s := u) hno).1
    refine ⟨u.beaconHeard x g, ?_, hlink.trans linkIdle_link, fun y hy => beaconHeard_other (s := u) h0 hx hy, hstation,
      hring, hdeparts, fun hp => ?_, fun hp htag => ?_, fun g' hp htag hne => ?_⟩
    · rw [exec_heardMembership hl h0 (show s.Accepts (.beacon g) from hg)]
      exact congrArg _ (heardFrame_beacon (s := s.linkIdle z) hx)
    · obtain ⟨hrecord, hnotices, hlock, hqueue', -⟩ := beaconHeard_kept (s := u) h0 hx fun h => absurd h hp
      refine ⟨hrecord, ?_, hlock, hqueue'.trans hqueue⟩
      rw [hnotices, tellMarked_linkIdle, tellMarked_new hx hp]
    · obtain ⟨hrecord, hnotices, hlock, hqueue', -⟩ := beaconHeard_kept (s := u) h0 hx fun _ => htag
      refine ⟨hrecord, ?_, hlock, hqueue'.trans hqueue⟩
      rw [hnotices, tellMarked_linkIdle, tellMarked_present hp]
    · obtain ⟨hrecord, hnotices⟩ := beaconHeard_changed (s := u) h0 hx hp htag hne
      exact ⟨hrecord, hnotices.trans (enterNotice_notices_congr _ rfl)⟩

end Sys2Proof.Machine
end

section
/-! PROOFS. A DEPART that ends this station's membership (R103, R104, R107): the end of LEAVING, and the fence behind a
heard DEPART. -/

namespace Sys2Proof.Machine

open Sys2Proof

/-! ### The end of LEAVING (R107) -/

/-- What the end of LEAVING leaves, with no own frame on the link. -/
structure LeavingEnded (s t : State) : Prop where
  station   : t.member.station = .offline
  link      : t.link.state = .off
  ownRecord : t.record s.own = ⟨.absent, none, (s.record s.own).epoch + 1, none⟩
  others    : ∀ y, y ≠ s.own → t.record y = { s.record y with silence := none }
  frames    : ∀ f ∈ t.queue.frames, f ∈ s.queue.frames ∧ f.departNamed ≠ some s.own
  notices   : t.notices = (s.enterNotice .left).notices

theorem stopAllSilence_record (s : State) (x : StationNo) :
    s.stopAllSilence.record x = { s.record x with silence := none } := by
  unfold State.record
  split
  · rfl
  · simp [State.stopAllSilence]

/-- R107: an own DEPART that is still queued is withdrawn. -/
def State.withoutOwnDepart (s : State) : State :=
  s.withFrames (s.queue.frames.filterMap (fun f =>
    if f.departNamed = some s.own then
      if s.onLink f then some { f with withdrawn := true } else none
    else some f))

/-- R83, R107: no waiter is woken, for those on this station are local. -/
theorem endLeaving_wakes_none (s : State) : s.endLeaving
    = (s.withoutOwnDepart.endOwnRecord.linkOff.stopAllSilence.setStation .offline).enterNotice .left := by
  have hown : s.withoutOwnDepart.endOwnRecord.own = s.own := setRecord_own _ _ _
  have hwakes : s.withoutOwnDepart.endOwnRecord.wakeWaiters s.own = s.withoutOwnDepart.endOwnRecord := by
    rw [← hown]
    exact wakeWaiters_own _
  change ((s.withoutOwnDepart.endOwnRecord.wakeWaiters s.own).linkOff.stopAllSilence.setStation .offline).enterNotice
    .left = _
  rw [hwakes]

theorem endLeaving_ends {s : State} (hown : s.own ≠ 0) (hl : s.link.state.ownAge = none) :
    LeavingEnded s s.endLeaving := by
  have hrecord : ∀ y, s.endLeaving.record y = { s.withoutOwnDepart.endOwnRecord.record y with silence := none } := by
    intro y
    rw [endLeaving_wakes_none, enterNotice_record]
    exact stopAllSilence_record _ y
  have hended : ∀ y, s.withoutOwnDepart.endOwnRecord.record y = if y = s.own then
      { s.record s.own with state := .absent, tag := none, epoch := (s.record s.own).epoch + 1 } else s.record y :=
    fun y => record_setRecord_of_ne_zero _ hown y _
  have hqueue : s.endLeaving.queue = s.withoutOwnDepart.queue := by
    rw [endLeaving_wakes_none, enterNotice_queue]
    exact setRecord_queue _ _ _
  refine ⟨?_, ?_, ?_, fun y hy => ?_, fun f hf => ?_, ?_⟩
  · rw [endLeaving_wakes_none, enterNotice_member]
    rfl
  · rw [endLeaving_wakes_none, enterNotice_link]
    rfl
  · rw [hrecord, hended, if_pos rfl]
  · rw [hrecord, hended, if_neg hy]
  · rw [hqueue] at hf
    obtain ⟨f', hf', hkept⟩ := List.mem_filterMap.1 hf
    rw [onLink_of_noFrame hl] at hkept
    split at hkept
    · exact nomatch hkept
    · obtain rfl := Option.some.inj hkept
      exact ⟨hf', ‹_›⟩
  · rw [endLeaving_wakes_none]
    exact enterNotice_notices_congr _ (setRecord_notices _ _ _)

end Sys2Proof.Machine
end

section
/-! PROOFS. A DEPART heard of a station of which a DEPART is queued and another pending, where the queue holds a DEPART
of the sender with the same age. -/

namespace Sys2Proof.Machine

open Sys2Proof

/-! ### Two queued DEPARTs that share an age -/

/-- The DEPART of station 9 in the queue. -/
def departOfNine : FrameRecord := ⟨.depart, .membership, 0, 0, some (.depart 9 0), false⟩

/-- The DEPART of station 4 in the queue, with the same age. -/
def departOfFour : FrameRecord := ⟨.depart, .membership, 0, 0, some (.depart 4 0), false⟩

/-- A listener with both, station 9 PRESENT and a further DEPART of it pending. No run from reset comes here: the queue
holds one DEPART of another station at most (R128, R129), and no two frames of an age (`State.QueuesFit`), neither of
which the statement asks. -/
def departsShareAge : State :=
  ({ State.reset with
    link  := ⟨.listening, 0, 0, .recessive⟩
    queue := ⟨[departOfNine, departOfFour], 1⟩ }.setRecord 9 ⟨.present, none, 0, none⟩).withDeparts [(9, 0)]

/-- Both frames have the age of the one that the statement takes out. -/
theorem departsShareAge_hears : departsShareAge.HearsBeside 4 9 departOfNine := by
  have hnone : departsShareAge.FramesWithout departOfNine.age = [] := by decide
  refine ⟨.inl rfl, by decide, List.mem_cons_self, rfl, fun f hf => ?_⟩
  rw [hnone] at hf
  exact nomatch hf

/-- R93, R99: the DEPART of the sender 4 goes, and both queued ones with it; the pending one of station 9 takes its
place, with the next age, and is withdrawn then. -/
theorem departsShareAge_nextAge :
    ((departsShareAge.linkIdle (.released 0)).heardFrame 4 (.depart 9 0)).queue.nextAge = 2 := by
  decide +kernel

/-- Refutes O46 in its third part, on a state that no run reaches: the place of station 9's queued DEPART is taken by a
DEPART of station 9, before that is withdrawn too, so the next age is not as before. -/
theorem not_joinAndDepartHeardMoveTheRecord : ¬ Obligations.JoinAndDepartHeardMoveTheRecord := by
  rintro ⟨-, -, hbeside, -⟩
  obtain ⟨t, ht, -, hwithdrawn, -⟩ := hbeside departsShareAge 4 9 0 departOfNine (.released 0) departsShareAge_hears
    (by decide) (by decide) (by decide +kernel) (.inl rfl) nofun
  rw [exec_heardMembership (.inl rfl) (by decide) (c := .depart 9 0) trivial] at ht
  obtain rfl := Host.Outcome.next.inj ht
  obtain ⟨-, hqueue⟩ := hwithdrawn (by decide)
  have hnextAge := departsShareAge_nextAge
  rw [hqueue] at hnextAge
  exact absurd hnextAge (by decide)

end Sys2Proof.Machine
end

section
/-! PROOFS. Own membership frames accepted (R89, R98, R99, R101, R102, R107). -/

namespace Sys2Proof.Machine

open Sys2Proof

/-! ### The frame on the link stays in the queue (R131) -/

section
variable {s t : State} {a : Nat} {f : FrameRecord}

/-- Frames that come stand behind. -/
theorem frameAt_of_prefix (hframes : s.queue.frames <+: t.queue.frames) (h : s.frameAt a = some f) :
    t.frameAt a = some f := by
  obtain ⟨l, hl⟩ := hframes
  unfold State.frameAt at h ⊢
  rw [← hl, List.find?_append, h]
  rfl

theorem frameAt_framesWithout {b : Nat} (hb : b ≠ a) : (s.withFrames (s.FramesWithout b)).frameAt a = s.frameAt a := by
  change (s.queue.frames.filter _).find? _ = s.queue.frames.find? _
  rw [List.find?_filter]
  refine congrArg (List.find? · s.queue.frames) (funext fun g => ?_)
  by_cases hg : g.age = a
  · simp [hg, hb.symm]
  · simp [hg]

theorem placeMember_frames (s : State) (c : FrameContent) : s.queue.frames <+: (s.placeMember c).queue.frames := by
  unfold State.placeMember
  split
  · exact List.prefix_refl _
  · exact List.prefix_append _ _

theorem fillDepart_grows (s : State) : s.queue.frames <+: s.fillDepart.queue.frames := by
  unfold State.fillDepart
  split
  · exact List.prefix_refl _
  · split
    · exact List.prefix_refl _
    · rename_i rest _ _
      exact placeMember_frames (s.withDeparts rest) _

theorem immediateProbe_frames (s : State) (e : LockEntry) :
    s.queue.frames <+: (s.immediateProbe e).queue.frames := by
  unfold State.immediateProbe State.raiseWant
  split
  · split
    · exact List.prefix_refl _
    · split
      · exact List.prefix_append _ _
      · exact List.prefix_refl _
  · exact List.prefix_refl _

theorem wakeWaiters_frames (s : State) (x : StationNo) : s.queue.frames <+: (s.wakeWaiters x).queue.frames := by
  rw [wakeWaiters_eq]
  generalize s.waitersOn x = l
  induction l generalizing s with
  | nil => exact List.prefix_refl _
  | cons e l ih => exact (immediateProbe_frames s e).trans (ih _)

/-- R93, R131: a DEPART that is withdrawn is not the frame on the link. -/
theorem withdrawDepart_frameAt (x : StationNo) (hl : s.link.state.ownAge = some a) (h : s.frameAt a = some f) :
    (s.withdrawDepart x).frameAt a = some f := by
  let u := s.withDeparts (s.member.departs.filter (fun d => decide (d.1 ≠ x)))
  unfold State.withdrawDepart
  dsimp only
  cases hq : u.queuedDepart x with
  | none => exact h
  | some f' =>
    have hmatch := List.find?_some hq
    simp only [Bool.and_eq_true, Bool.not_eq_true', decide_eq_true_eq] at hmatch
    obtain ⟨hoff, hx⟩ := hmatch
    have hage : f'.age ≠ a := by
      rintro rfl
      have hon : u.onLink f' = true := decide_eq_true hl
      exact nomatch hoff.symm.trans hon
    change (u.removeFrame f').fillDepart.frameAt a = _
    rw [removeFrame_depart hx]
    exact frameAt_of_prefix (fillDepart_grows _) ((frameAt_framesWithout (s := u) hage).trans h)

theorem departNames_frameAt (d : StationNo) (g : Tag) (k : DownCause) (hl : s.link.state.ownAge = some a)
    (h : s.frameAt a = some f) : (s.departNames d g k).frameAt a = some f := by
  unfold State.departNames
  split
  · refine withdrawDepart_frameAt d (by rw [enterNotice_link, raiseEpoch_link]; exact hl) ?_
    refine frameAt_of_prefix ?_ h
    rw [enterNotice_queue, State.raiseEpoch, ← setRecord_queue s d]
    exact wakeWaiters_frames _ _
  · exact h

end

/-! ### A membership frame leaves the queue (R98, R135) -/

section
variable {s : State} {f : FrameRecord} {c : FrameContent}

theorem departNamed_of_content (hk : f.kind = c.kind) (hp : f.payload = some c) {x : StationNo} :
    f.departNamed = some x ↔ ∃ g, c = .depart x g := by
  rw [departNamed_eq_some, hp]
  simp only [Option.some.injEq]
  exact ⟨And.right, fun ⟨g, hg⟩ => ⟨by rw [hk, hg]; rfl, g, hg⟩⟩

/-- A membership frame that is no DEPART of another station leaves, and no other comes. -/
theorem leaveQueue_alone (hk : f.kind = c.kind) (hp : f.payload = some c) (hc : c.kind.isLock = false)
    (hother : ∀ x g, c = .depart x g → x = s.own) : s.leaveQueue f = s.withFrames (s.FramesWithout f.age) := by
  have hno : ¬ f.departsOther s.own = true := by
    intro h
    obtain ⟨x, hx, hne⟩ := departsOther_iff.1 h
    obtain ⟨g, hg⟩ := (departNamed_of_content hk hp).1 hx
    exact hne (hother x g hg)
  unfold State.leaveQueue State.removeFrame
  rw [if_neg hno, hk, hc]
  rfl

/-- R98: behind a DEPART of another station the oldest pending one is placed. -/
theorem leaveQueue_depart {d : StationNo} (hd : f.departNamed = some d) (hne : d ≠ s.own) :
    s.leaveQueue f = (s.withFrames (s.FramesWithout f.age)).fillDepart := by
  unfold State.leaveQueue
  rw [if_pos (departsOther_iff.2 ⟨d, hd, hne⟩), removeFrame_depart hd]

end

/-! ### The own JOIN (R89) -/

section
variable {s : State}

/-- R89, R101, R102: what the acceptance of the own JOIN leaves. -/
theorem joinAccepted_joins (hown : s.own ≠ 0) : s.joinAccepted.member.station = .member ∧
    s.joinAccepted.record s.own = { s.record s.own with state := .present, tag := s.member.ownTag } ∧
    (∀ x, x ≠ s.own → s.joinAccepted.record x = s.record x) ∧ OwnTimersRun s s.joinAccepted ∧
    s.joinAccepted.notices = (s.enterNotice (.joined s.own)).notices ∧ s.joinAccepted.link = s.link ∧
    s.joinAccepted.queue = s.queue ∧ s.joinAccepted.lock = s.lock ∧ s.joinAccepted.ring = s.ring := by
  let v := (s.setStation .member).setRecord s.own { s.record s.own with state := .present, tag := s.member.ownTag }
  have hrecord : ∀ x, v.record x = if x = s.own then
      { s.record s.own with state := .present, tag := s.member.ownTag } else s.record x :=
    fun x => record_setRecord_of_ne_zero _ hown x _
  have hconfig : v.config = s.config := setRecord_config _ _ _
  have hjoins : s.joinAccepted = v.startOwnTimers.enterNotice (.joined s.own) := rfl
  have hafter : ∀ x, s.joinAccepted.record x = v.record x := by
    intro x
    rw [hjoins, enterNotice_record]
    rfl
  refine ⟨?_, (hafter _).trans ((hrecord _).trans (if_pos rfl)),
    fun x hx => (hafter x).trans ((hrecord x).trans (if_neg hx)), ?_, ?_, ?_, ?_, ?_, ?_⟩ <;> rw [hjoins]
  · rw [enterNotice_member]
    exact setRecord_station _ _ _
  · unfold OwnTimersRun
    rw [enterNotice_member, ← hconfig]
    exact ⟨rfl, rfl⟩
  · exact enterNotice_notices_congr _ (setRecord_notices _ _ _)
  · exact (enterNotice_link _).trans (setRecord_link _ _ _)
  · exact (enterNotice_queue _).trans (setRecord_queue _ _ _)
  · exact (enterNotice_lock _).trans (setRecord_lock _ _ _)
  · exact (enterNotice_ring _).trans (setRecord_ring _ _ _)

end

/-! ### An own DEPART of another station (R98, R99) -/

section
variable {s : State} {d : StationNo} {g : Tag} {f : FrameRecord} {z : LineAtEnd}

/-- The own timers as the acceptance of an own frame leaves them (R101, R102). -/
def State.withOwnTimers (s : State) (bt ft : Option Timer) : State :=
  s.withMember { s.member with beaconTimer := bt, fenceTimer := ft }

/-- R101, R102: the acceptance restarts a MEMBER's own timers first. -/
theorem ownAccepted_depart (hd : d ≠ s.own) : ∃ bt ft, s.ownAccepted (.depart d g)
      = (s.withOwnTimers bt ft).departNames d g .timeout ∧
    (s.member.station = .member → bt = some s.beaconInterval ∧ ft = some s.fenceTime) := by
  unfold State.ownAccepted
  by_cases hm : s.member.station = .member
  · rw [if_pos hm]
    exact ⟨_, _, if_neg hd, fun _ => ⟨rfl, rfl⟩⟩
  · rw [if_neg hm]
    exact ⟨s.member.beaconTimer, s.member.fenceTimer, if_neg hd, fun h => absurd h hm⟩

/-- R98, R135: what a DEPART of another station leaves when it leaves the queue. -/
theorem leaveQueue_depart_keeps (hd : f.departNamed = some d) (hne : d ≠ s.own) :
    (s.leaveQueue f).lock = s.lock ∧ (s.leaveQueue f).ring = s.ring ∧ (s.leaveQueue f).notices = s.notices ∧
      (s.leaveQueue f).link = s.link ∧ (s.leaveQueue f).member.standing = s.member.standing ∧
      ∀ x, (s.leaveQueue f).record x = s.record x := by
  rw [leaveQueue_depart hd hne]
  exact ⟨fillDepart_lock _, fillDepart_ring _, fillDepart_notices _, fillDepart_link _, fillDepart_standing _,
    record_congr (fillDepart_records _)⟩

/-- R98: its place is taken, behind frames without a DEPART. -/
theorem leaveQueue_depart_withdrawn {u : State} (hq : u.queue = s.queue) (hd : f.departNamed = some d)
    (hne : d ≠ u.own) (hno : NoDeparts (s.FramesWithout f.age)) :
    DepartIsWithdrawn s (u.leaveQueue f) f u.member.departs := by
  rw [leaveQueue_depart hd hne]
  refine fillDepart_withdrawn (u := u.withFrames (u.FramesWithout f.age)) ?_ hno
  change OutboundQueue.mk (u.queue.frames.filter _) u.queue.nextAge = _
  rw [hq]
  rfl

/-- R98, R99: no entry waits on d, and no DEPART of it is in the queue off the link. -/
theorem departNames_unqueued {k : DownCause} (h0 : d ≠ 0) (h : (s.record d).departedBy g = true)
    (hnone : s.NoneWaitsOn d) (hno : ∀ h ∈ s.queue.frames, s.onLink h = true ∨ h.departNamed ≠ some d) :
    (s.departNames d g k).queue = s.queue ∧
      (s.departNames d g k).member.departs = s.member.departs.filter (fun p => decide (p.1 ≠ d)) := by
  obtain ⟨hqueue, hlink, hdeparts⟩ := departed_keeps (k := k) hnone
  rw [departNames_fits h0 h, withdrawDepart_unqueued, ← hdeparts]
  · exact ⟨hqueue, rfl⟩
  · intro f hf
    rw [hqueue] at hf
    unfold State.onLink
    rw [hlink]
    exact hno f hf

end

/-! ### The statement -/

section
variable {s : State} {a : Nat} {c : FrameContent} {f : FrameRecord} {z : LineAtEnd}

theorem exec_ownVetoSlotEnd {heard : LinkFrame} (hl : s.link.state = .sending ⟨a, c⟩) :
    exec (.vetoSlotEnd heard (.ends false z)) s = .next (s.ownVetoEnd ⟨a, c⟩ false z) := by
  simp [exec, execVetoSlotEnd, State.endVetoSlot, hl]

/-- R136: a membership frame's acceptance is told to the membership unit. -/
theorem accepted_join {g : Tag} {d : Digest} (ho : f.owner = .membership) : s.accepted f (.join g d) .none
    = if s.member.station = .joining then s.joinAccepted else s := by
  simp [State.accepted, ho]

theorem accepted_beacon {g : Tag} (ho : f.owner = .membership) : s.accepted f (.beacon g) .none = s := by
  simp [State.accepted, ho]

theorem accepted_depart {d : StationNo} {g : Tag} (ho : f.owner = .membership) : s.accepted f (.depart d g) .none
    = if d = s.own ∧ s.member.station = .leaving then s.endLeaving else s := by
  simp [State.accepted, ho]

/-- R122, R131, R135: an own frame that is accepted leaves the queue before its owner is told. -/
theorem ownVetoEnd_accepts (hown : s.own ≠ 0) (hc : s.Accepts c)
    (hat : (s.ownAccepted c).frameAt a = some f) : s.ownVetoEnd ⟨a, c⟩ false z
      = (((s.ownAccepted c).linkIdle z).leaveQueue f).accepted f c .none := by
  have hat' : ((s.ownAccepted c).linkIdle z).frameAt a = some f := hat
  rw [ownVetoEnd_membership hown hc, State.ownFrameAccepted, State.reportAccepted, hat']

section
variable (hown : s.own ≠ 0) (hat : s.frameAt a = some f) (ho : f.owner = .membership) (hk : f.kind = c.kind)
  (hp : f.payload = some c)
include hown hat ho hk hp

/-- R89. -/
theorem ownVetoEnd_join {g : Tag} {d : Digest} (hc : c = .join g d) (hg : g ≠ 0) (hm : s.member.station = .joining) :
    s.ownVetoEnd ⟨a, c⟩ false z = ((s.linkIdle z).withFrames (s.FramesWithout a)).joinAccepted := by
  subst hc
  obtain ⟨-, hage⟩ := frameAt_some hat
  have hnot : s.member.station ≠ .member := by rw [hm]; nofun
  have haccepted : s.ownAccepted (.join g d) = s := if_neg hnot
  rw [ownVetoEnd_accepts hown (c := .join g d) ⟨hg, fun h => absurd h hnot⟩ (by rw [haccepted]; exact hat), haccepted,
    leaveQueue_alone hk hp rfl nofun, hage, accepted_join ho]
  exact if_pos hm

/-- R101, R102. -/
theorem ownVetoEnd_beacon {g : Tag} (hc : c = .beacon g) (hg : g ≠ 0) (hm : s.member.station = .member) :
    s.ownVetoEnd ⟨a, c⟩ false z = (s.startOwnTimers.linkIdle z).withFrames (s.FramesWithout a) := by
  subst hc
  obtain ⟨-, hage⟩ := frameAt_some hat
  have haccepted : s.ownAccepted (.beacon g) = s.startOwnTimers := if_pos hm
  rw [ownVetoEnd_accepts hown (show s.Accepts (.beacon g) from hg) (by rw [haccepted]; exact hat), haccepted,
    leaveQueue_alone hk hp rfl nofun, hage, accepted_beacon ho]
  rfl

/-- R107. -/
theorem ownVetoEnd_departHere {g : Tag} (hc : c = .depart s.own g) (hm : s.member.station = .leaving) :
    s.ownVetoEnd ⟨a, c⟩ false z = ((s.linkIdle z).withFrames (s.FramesWithout a)).endLeaving := by
  subst hc
  obtain ⟨-, hage⟩ := frameAt_some hat
  have haccepted : s.ownAccepted (.depart s.own g) = s := by
    unfold State.ownAccepted
    rw [if_neg (by rw [hm]; nofun)]
    exact if_pos rfl
  have halone : (s.linkIdle z).leaveQueue f = (s.linkIdle z).withFrames (s.FramesWithout f.age) :=
    leaveQueue_alone (s := s.linkIdle z) hk hp rfl fun x w h => by cases h; rfl
  rw [ownVetoEnd_accepts hown (c := .depart s.own g) trivial (by rw [haccepted]; exact hat), haccepted, halone, hage,
    accepted_depart ho]
  exact if_pos ⟨rfl, hm⟩

/-- R98, R99. -/
theorem ownVetoEnd_depart {d : StationNo} {g : Tag} (hl : s.link.state.ownAge = some a) (hc : c = .depart d g)
    (hd : d ≠ s.own) : ∃ bt ft, s.ownVetoEnd ⟨a, c⟩ false z
        = (((s.withOwnTimers bt ft).departNames d g .timeout).linkIdle
          z).leaveQueue f ∧
      (s.member.station = .member → bt = some s.beaconInterval ∧ ft = some s.fenceTime) := by
  subst hc
  obtain ⟨bt, ft, haccepted, htimers⟩ := ownAccepted_depart (g := g) hd
  refine ⟨bt, ft, ?_, htimers⟩
  have hat' := departNames_frameAt (s := s.withOwnTimers bt ft) d g .timeout
    hl hat
  rw [ownVetoEnd_accepts hown (c := .depart d g) trivial (by rw [haccepted]; exact hat'), haccepted, accepted_depart ho]
  refine if_neg fun h => hd (h.1.trans ?_)
  exact own_of_shell (((leaveQueue_shell _ _).trans (departNames_shell _ _ _ _)))

end

end

/-! ### The statement -/

section
variable {s : State} {a : Nat} {d : StationNo} {g : Tag} {f : FrameRecord} {z : LineAtEnd} {bt ft : Option Timer}

/-- R98, R99: the state after an own DEPART of d is accepted, with the own timers as they are then. -/
def State.ownDepartAccepted (s : State) (d : StationNo) (g : Tag) (f : FrameRecord) (z : LineAtEnd)
    (bt ft : Option Timer) : State :=
  (((s.withOwnTimers bt ft).departNames d g .timeout).linkIdle z).leaveQueue f

section
variable (hfd : f.departNamed = some d) (hd : d ≠ s.own)
include hfd hd

/-- What its leaving the queue leaves of what R99 has done. -/
theorem ownDepartAccepted_keeps :
    (s.ownDepartAccepted d g f z bt ft).lock = ((s.withOwnTimers bt ft).departNames d g .timeout).lock ∧
      (s.ownDepartAccepted d g f z bt ft).ring = s.ring ∧
      (s.ownDepartAccepted d g f z bt ft).notices = ((s.withOwnTimers bt ft).departNames d g .timeout).notices ∧
      (s.ownDepartAccepted d g f z bt ft).link = LinkAfterFrame z ∧
      (s.ownDepartAccepted d g f z bt ft).member.standing = (s.withOwnTimers bt ft).member.standing ∧
      ∀ x, (s.ownDepartAccepted d g f z bt ft).record x
        = ((s.withOwnTimers bt ft).departNames d g .timeout).record x := by
  let u := (s.withOwnTimers bt ft).departNames d g .timeout
  have hown : (u.linkIdle z).own = s.own := own_of_shell (departNames_shell _ _ _ _)
  obtain ⟨hlock, hring, hnotices, hlink, hstanding, hrecord⟩ :=
    leaveQueue_depart_keeps (s := u.linkIdle z) hfd (by rw [hown]; exact hd)
  exact ⟨hlock, hring.trans departNames_ring, hnotices, hlink.trans linkIdle_link,
    hstanding.trans departNames_standing, hrecord⟩

/-- R98: the oldest DEPART pending takes the place, where no other is queued and none waits on d. -/
theorem ownDepartAccepted_withdrawn (h0 : d ≠ 0) (hl : s.link.state.ownAge = some f.age)
    (hno : NoDeparts (s.FramesWithout f.age)) (hnone : s.NoneWaitsOn d) :
    ((s.record d).departedBy g = true → DepartIsWithdrawn s (s.ownDepartAccepted d g f z bt ft) f
      (s.member.departs.filter (fun p => decide (p.1 ≠ d)))) ∧
    (¬ (s.record d).departedBy g = true →
      DepartIsWithdrawn s (s.ownDepartAccepted d g f z bt ft) f s.member.departs) := by
  let v := s.withOwnTimers bt ft
  have hown : ∀ u : State, u.shell = s.shell → d ≠ u.own := fun u hu => by
    rw [own_of_shell hu]
    exact hd
  have hqueued : ∀ h ∈ s.queue.frames, v.onLink h = true ∨ h.departNamed ≠ some d := by
    intro h hh
    by_cases hage : h.age = f.age
    · exact .inl (decide_eq_true (hl.trans (congrArg some hage.symm)))
    · exact .inr fun hx => (hno h (List.mem_filter.2 ⟨hh, decide_eq_true hage⟩)).1 (departNamed_eq_some.1 hx).1
  refine ⟨fun hfits => ?_, fun hunfit => ?_⟩
  · obtain ⟨hqueue, hdeparts⟩ := departNames_unqueued (s := v) (k := .timeout) h0 hfits hnone hqueued
    have hwithdrawn := leaveQueue_depart_withdrawn (u := (v.departNames d g .timeout).linkIdle z) hqueue hfd
      (hown _ (departNames_shell _ _ _ _)) hno
    exact hdeparts ▸ hwithdrawn
  · have hsame : v.departNames d g .timeout = v := departNames_unfit hunfit
    have hwithdrawn := leaveQueue_depart_withdrawn (s := s) (u := v.linkIdle z) rfl hfd (hown _ rfl) hno
    unfold State.ownDepartAccepted
    rw [hsame]
    exact hwithdrawn

end

end

/-- Settles O47, a clause for each own membership frame. -/
theorem ownMembershipFramesAccepted : Obligations.OwnMembershipFramesAccepted := by
  intro s a c f heard z hl hown hat ho hk hp
  obtain ⟨-, hage⟩ := frameAt_some hat
  refine ⟨_, exec_ownVetoSlotEnd hl, fun g d hc hg hm => ?_, fun g hc hg hm => ?_, fun d g hc h0 hd => ?_,
    fun g hc hm => ?_⟩
  · rw [ownVetoEnd_join hown hat ho hk hp hc hg hm]
    obtain ⟨hstation, hrecord, hothers, htimers, hnotices, hlink, hqueue, hlock, hring⟩ :=
      joinAccepted_joins (s := (s.linkIdle z).withFrames (s.FramesWithout a)) hown
    exact ⟨hstation, hrecord, hothers, htimers, hnotices.trans (enterNotice_notices_congr _ rfl),
      hlink.trans (linkIdle_link (s := s)), congrArg OutboundQueue.frames hqueue, hlock, hring⟩
  · rw [ownVetoEnd_beacon hown hat ho hk hp hc hg hm, linkIdle_eq]
    exact ⟨(if_pos hm).symm, rfl⟩
  · have hlink : s.link.state.ownAge = some a := by rw [hl]; rfl
    have hfd : f.departNamed = some d := (departNamed_of_content hk hp).2 ⟨g, hc⟩
    obtain ⟨bt, ft, haccepted, htimers⟩ := ownVetoEnd_depart (z := z) hown hat ho hk hp hlink hc hd
    let v := s.withOwnTimers bt ft
    obtain ⟨hlock, hring, hnotices, hafter, hstanding, hrecord⟩ :=
      ownDepartAccepted_keeps (g := g) (z := z) (bt := bt) (ft := ft) hfd hd
    obtain ⟨hstation, -, hbeacon, hfence⟩ := fields_of_standing hstanding
    rw [haccepted]
    refine ⟨hafter, hstation, hring, fun x hx => (hrecord x).trans (departNames_other (s := v) h0 hx), fun hm => ?_,
      fun hfits => ?_, fun hunfit => ?_, fun hno hnone => ?_⟩
    · obtain ⟨hbt, hft⟩ := htimers hm
      exact ⟨hbeacon.trans hbt, hfence.trans hft⟩
    · have hfits' : (v.record d).departedBy g = true := departedBy_iff.2 hfits
      refine ⟨(hrecord d).trans (departNames_record h0 hfits'), ?_, fun hu e k sl w ep dl pr he hst => ?_⟩
      · exact hnotices.trans ((departNames_notices h0 hfits').trans (enterNotice_notices_congr _ rfl))
      · have hprobes := raiseEpoch_probes (s := v) (r := ⟨.absent, none, (v.record d).epoch, none⟩) hu hd he hst
        have hentries := congrArg LockEngine.entries (hlock.trans (departNames_lock h0 hfits'))
        unfold State.entry at hprobes ⊢
        rw [← hprobes]
        exact congrArg _ hentries
    · have hsame : v.departNames d g .timeout = v := departNames_unfit (mt departedBy_iff.1 hunfit)
      rw [hsame] at hrecord hnotices hlock
      exact ⟨hrecord d, hnotices, hlock⟩
    · subst hage
      obtain ⟨hwithdrawn, hkept⟩ :=
        ownDepartAccepted_withdrawn (g := g) (z := z) (bt := bt) (ft := ft) hfd hd h0 hlink hno hnone
      exact ⟨fun hfits => hwithdrawn (departedBy_iff.2 hfits), fun hunfit => hkept (mt departedBy_iff.1 hunfit)⟩
  · rw [ownVetoEnd_departHere hown hat ho hk hp hc hm]
    have hends := endLeaving_ends (s := (s.linkIdle z).withFrames (s.FramesWithout a)) hown (linkIdle_ownAge (s := s))
    exact ⟨hends.station, hends.link, hends.ownRecord, hends.others,
      hends.notices.trans (enterNotice_notices_congr _ rfl), fun x hx => (hends.frames x hx).1⟩

end Sys2Proof.Machine
end

section
/-! PROOFS. The answer field (R120, R121): what is read of an answer that is sent, and the two fields that are no
answer. -/

namespace Sys2Proof.Machine

open Sys2Proof

/-! ### The parts of an answer -/

theorem answerCode_bits (c : AnswerCode) : answerCode c.bits = some c := by
  cases c <;> rfl

section
variable (c : AnswerCode) (st : StationNo) (v : BitVec 16)

theorem answerBits_fields : (answerBits c st v).extractLsb' 4 24 = c.bits ++ st ++ v :=
  BitVec.extractLsb'_append_eq_left

theorem answerBits_check : (answerBits c st v).extractLsb' 0 4 = answerCheck (c.bits ++ st ++ v) :=
  BitVec.extractLsb'_append_eq_right

theorem code_of_fields : (c.bits ++ st ++ v).extractLsb' 21 3 = c.bits := by
  rw [BitVec.extractLsb'_append_eq_of_le (by decide)]
  exact BitVec.extractLsb'_append_eq_left

theorem station_of_fields : (c.bits ++ st ++ v).extractLsb' 16 5 = st := by
  rw [BitVec.extractLsb'_append_eq_of_le (Nat.le_refl 16)]
  exact BitVec.extractLsb'_append_eq_right

theorem value_of_fields : (c.bits ++ st ++ v).extractLsb' 0 16 = v :=
  BitVec.extractLsb'_append_eq_right

/-- R121: 111 is no code, so no answer reads as a silent field. -/
theorem answerBits_ne_silent : answerBits c st v ≠ BitVec.allOnes 28 := by
  intro h
  have hcode : c.bits = ((BitVec.allOnes 28).extractLsb' 4 24).extractLsb' 21 3 := by
    rw [← h, answerBits_fields, code_of_fields]
  revert hcode
  cases c <;> decide

/-- R120, R121: what a station reads of an answer, for a frame of kind k. -/
theorem decodeAnswer_answerBits (k : FrameKind) :
    decodeAnswer k (answerBits c st v) = if c.allowed k then .code c st v else .damaged := by
  simp only [decodeAnswer, answerBits_ne_silent, if_false, answerBits_fields, answerBits_check, if_true,
    code_of_fields, answerCode_bits, station_of_fields, value_of_fields]

end

/-! ### Fields that are no answer -/

theorem decodeAnswer_silent (k : FrameKind) : decodeAnswer k (BitVec.allOnes 28) = .none := if_pos rfl

/-- R121: a silent field has a right check, so one whose check is wrong is not silent. -/
theorem decodeAnswer_wrongCheck {k : FrameKind} {x : BitVec 28}
    (h : x.extractLsb' 0 4 ≠ answerCheck (x.extractLsb' 4 24)) : decodeAnswer k x = .damaged := by
  have hnotSilent : x ≠ BitVec.allOnes 28 := by
    rintro rfl
    exact h (by decide)
  simp only [decodeAnswer, if_neg hnotSilent, if_neg h]

/-- Settles O56: an answer's parts are read back, and its code decides by the kind of the frame. -/
theorem answersDecodeToWhatIsSent : Obligations.AnswersDecodeToWhatIsSent := by
  refine ⟨fun k c st v => ⟨fun h => ?_, fun h => ?_⟩, decodeAnswer_silent, fun k x h => decodeAnswer_wrongCheck h⟩
  · rw [decodeAnswer_answerBits, if_pos h]
  · rw [decodeAnswer_answerBits, h]
    rfl

end Sys2Proof.Machine
end

section
/-! PROOFS. Frames as they are sent and as they are read (R113 to R116, R187): the fields that pass a station's checks
are, bit for bit, those of the frame its sender sends. -/

namespace Sys2Proof.Machine

open Sys2Proof

/-! ### Bytes and fields (R187) -/

theorem bytes16_join16 (hi lo : Byte) : bytes16 (join16 hi lo) = [hi, lo] := by
  unfold bytes16 join16
  rw [BitVec.extractLsb'_append_eq_left, BitVec.extractLsb'_append_eq_right]

theorem join24_extract (x : BitVec 24) :
    join24 (x.extractLsb' 16 8) (x.extractLsb' 8 8) (x.extractLsb' 0 8) = x := by
  unfold join24
  rw [BitVec.extractLsb'_append_extractLsb'_eq_extractLsb' (start₂ := 16) (start₁ := 8) rfl,
    BitVec.extractLsb'_append_extractLsb'_eq_extractLsb' (start₂ := 8) (start₁ := 0) rfl]
  exact BitVec.extractLsb'_eq_self

theorem bytes24_join24 (hi mid lo : Byte) : bytes24 (join24 hi mid lo) = [hi, mid, lo] := by
  unfold bytes24 join24
  have hhi : (hi ++ mid ++ lo).extractLsb' 16 8 = hi := by
    rw [BitVec.extractLsb'_append_eq_of_le (by decide)]
    exact BitVec.extractLsb'_append_eq_left
  have hmid : (hi ++ mid ++ lo).extractLsb' 8 8 = mid := by
    rw [BitVec.extractLsb'_append_eq_of_le (Nat.le_refl 8)]
    exact BitVec.extractLsb'_append_eq_right
  rw [hhi, hmid, BitVec.extractLsb'_append_eq_right]

/-- R187: what is read of a CLAIM's flags byte. -/
theorem flags_of_claimFlags (k : Context) (p n : Bool) : flagsReserved (claimFlags k p n) = 0 ∧
    flagsProbe (claimFlags k p n) = p ∧ flagsNowait (claimFlags k p n) = n ∧ flagsContext (claimFlags k p n) = k := by
  revert k p n
  decide

/-- R187: with its reserved bits clear a flags byte is the one a sender writes. -/
theorem claimFlags_of_flags {b : Byte} {p : Bool} (hreserved : flagsReserved b = 0) (hprobe : flagsProbe b = p) :
    claimFlags (flagsContext b) p (flagsNowait b) = b := by
  have h : ∀ b : Byte, flagsReserved b = 0 → claimFlags (flagsContext b) (flagsProbe b) (flagsNowait b) = b := by
    decide +kernel
  rw [← hprobe, h b hreserved]

theorem byte_of_station {b : Byte} (h : b.extractLsb' 5 3 = 0) : (0 : BitVec 3) ++ b.extractLsb' 0 5 = b := by
  rw [← h, BitVec.extractLsb'_append_extractLsb'_eq_extractLsb' (start₂ := 5) (start₁ := 0) rfl]
  exact BitVec.extractLsb'_eq_self

/-! ### Kind and payload (R114, R116) -/

/-- R116: a content whose frame is not vetoed for its tag. -/
def FrameContent.Tagged (c : FrameContent) : Prop := (∀ d, c ≠ .join 0 d) ∧ c ≠ .beacon 0

/-- R114, R187: each content is read back from its kind code and its payload. -/
theorem parsePayload_payload {c : FrameContent} (hc : c.Tagged) : parsePayload c.kind.code c.payload = some c := by
  obtain ⟨hjoin, hbeacon⟩ := hc
  cases c with
  | join g d =>
    have haccepts : State.reset.Accepts (.join g d) := ⟨fun h => hjoin d (by rw [h]), nofun⟩
    exact haccepts.parsePayload
  | beacon g =>
    have haccepts : State.reset.Accepts (.beacon g) := fun h => hbeacon (by rw [h])
    exact haccepts.parsePayload
  | depart d g =>
    have haccepts : State.reset.Accepts (.depart d g) := trivial
    exact haccepts.parsePayload
  | grant r v i =>
    change some (FrameContent.grant (join24 _ _ _) (join16 _ _) (join16 _ _)) = _
    rw [join24_extract, join16_extract, join16_extract]
  | claim r k t n =>
    cases t with
    | none =>
      obtain ⟨hreserved, hprobe, hnowait, hcontext⟩ := flags_of_claimFlags k false n
      change (if flagsReserved (claimFlags k false n) = 0 ∧ flagsProbe (claimFlags k false n) = false then
        some (FrameContent.claim (join24 _ _ _) (flagsContext (claimFlags k false n)) none
          (flagsNowait (claimFlags k false n))) else none) = _
      rw [if_pos ⟨hreserved, hprobe⟩, join24_extract, hcontext, hnowait]
    | some t =>
      obtain ⟨hreserved, hprobe, hnowait, hcontext⟩ := flags_of_claimFlags k true n
      change (if flagsReserved (claimFlags k true n) = 0 ∧ flagsProbe (claimFlags k true n) = true then
        some (FrameContent.claim (join24 _ _ _) (flagsContext (claimFlags k true n)) (some (join16 _ _))
          (flagsNowait (claimFlags k true n))) else none) = _
      rw [if_pos ⟨hreserved, hprobe⟩, join24_extract, join16_extract, hcontext, hnowait]
  | query r =>
    change some (FrameContent.query (join24 _ _ _)) = _
    rw [join24_extract]

/-- R114, R116, R187: and a kind code and payload that spell a content are its own. -/
theorem kind_and_payload_of_parsePayload {k : BitVec 3} {p : List Byte} {c : FrameContent}
    (h : parsePayload k p = some c) : k = c.kind.code ∧ p = c.payload := by
  unfold parsePayload at h
  split_ifs at h with h0 h1 h2 h3 h4 h5
  · split at h
    · split_ifs at h
      cases h
      exact ⟨h0, by simp [FrameContent.payload, bytes16_join16]⟩
    · exact nomatch h
  · split at h
    · split_ifs at h
      cases h
      exact ⟨h1, by simp [FrameContent.payload, bytes16_join16]⟩
    · exact nomatch h
  · split at h
    · split_ifs at h with hreserved
      cases h
      exact ⟨h2, by rw [FrameContent.payload, bytes16_join16, byte_of_station hreserved]⟩
    · exact nomatch h
  · split at h
    · cases h
      exact ⟨h3, by simp [FrameContent.payload, bytes16_join16, bytes24_join24]⟩
    · exact nomatch h
  · split at h
    · split_ifs at h with hflags
      cases h
      obtain ⟨hreserved, hprobe⟩ := hflags
      exact ⟨h4, by simp [FrameContent.payload, bytes24_join24, claimFlags_of_flags hreserved hprobe]⟩
    · split_ifs at h with hflags
      cases h
      obtain ⟨hreserved, hprobe⟩ := hflags
      exact ⟨h4, by simp [FrameContent.payload, bytes16_join16, bytes24_join24, claimFlags_of_flags hreserved hprobe]⟩
    · exact nomatch h
  · split at h
    · cases h
      exact ⟨h5, by simp [FrameContent.payload, bytes24_join24]⟩
    · exact nomatch h

/-! ### Frames (R113 to R116) -/

section
variable {f : LinkFrame} {x : StationNo} {c : FrameContent}

/-- R115: an operand with as many bytes as its length field says leaves none out. -/
theorem payloadTaken_of_length (h : f.payload.length = f.length.toNat) : payloadTaken f = f.payload := by
  refine List.ext_getElem (by simp [payloadTaken, h]) fun i hi hi' => ?_
  simp [payloadTaken, hi']

theorem payload_length_lt (c : FrameContent) : c.payload.length < 16 := by
  cases c with
  | claim _ _ t _ => cases t <;> simp [FrameContent.payload, bytes16, bytes24]
  | _ => simp [FrameContent.payload, bytes16, bytes24]

theorem linkFrame_length (x : StationNo) (c : FrameContent) :
    (linkFrame x c).payload.length = (linkFrame x c).length.toNat :=
  (Nat.mod_eq_of_lt (payload_length_lt c)).symm

theorem linkFrame_check (x : StationNo) (c : FrameContent) :
    (linkFrame x c).check = computedCheck (linkFrame x c) := by
  simp only [linkFrame]
  exact computedCheck_check

/-- R116: a frame that is sent says its content. -/
theorem frameContent_linkFrame (hx : x ≠ 0) (hc : c.Tagged) : frameContent (linkFrame x c) = some c := by
  have hbytes : payloadTaken (linkFrame x c) = c.payload := payloadTaken_of_length (linkFrame_length x c)
  have hkind : (linkFrame x c).kind = c.kind.code := rfl
  unfold frameContent
  rw [hbytes, hkind, parsePayload_payload hc]
  exact if_pos ⟨rfl, hx⟩

/-- R116: the fields of a frame that says a content. -/
theorem fields_of_frameContent (h : frameContent f = some c) :
    f.kind = c.kind.code ∧ payloadTaken f = c.payload ∧ f.cls = c.kind.cls ∧ f.sender ≠ 0 := by
  unfold frameContent at h
  split at h
  · rename_i hparse
    split_ifs at h with hsent
    cases h
    obtain ⟨hkind, hpayload⟩ := kind_and_payload_of_parsePayload hparse
    exact ⟨hkind, hpayload, hsent⟩
  · exact nomatch h

/-- R115, R116: with a right check too it is the frame that its sender sends. -/
theorem eq_linkFrame (hlength : f.payload.length = f.length.toNat) (hcheck : f.check = computedCheck f)
    (h : frameContent f = some c) : f = linkFrame f.sender c := by
  obtain ⟨hkind, hpayload, hcls, -⟩ := fields_of_frameContent h
  rw [payloadTaken_of_length hlength] at hpayload
  obtain ⟨cls, sender, kind, length, payload, check⟩ := f
  dsimp only at hkind hpayload hcls hlength hcheck ⊢
  subst hkind hpayload hcls
  have hlen : length = BitVec.ofNat 4 c.payload.length := by
    rw [hlength, BitVec.ofNat_toNat, BitVec.setWidth_eq]
  rw [hcheck, hlen]
  rfl

end

/-- Settles O43: the fields of a frame that is sent are read back, and those that are read fix the frame. -/
theorem framesThatPassAreTheFramesThatAreSent : Obligations.FramesThatPassAreTheFramesThatAreSent := by
  refine ⟨fun x c hx hjoin hbeacon => ⟨frameContent_linkFrame hx ⟨hjoin, hbeacon⟩, linkFrame_check x c, ?_⟩,
    fun f c hlength hcheck h => ⟨eq_linkFrame hlength hcheck h, ?_⟩⟩
  · simp [Instr.wellFormed, VetoMoment.wellFormed, linkFrame_length]
  · obtain ⟨-, -, -, hsender⟩ := fields_of_frameContent h
    exact hsender

end Sys2Proof.Machine
end

section
/-! PROOFS. The veto slot (R115 to R117, R126): what a station finds in a frame, and what its end makes of one. -/

namespace Sys2Proof.Machine

open Sys2Proof

/-! ### What a station finds (R116) -/

section
variable {s : State} {heard : LinkFrame} {c : FrameContent}

theorem vetoDigest_eq_some {d : Digest} :
    s.vetoDigest = some d ↔ s.member.station = .member ∧ s.config.digest = some d := by
  unfold State.vetoDigest
  split_ifs with h <;> simp [h]

/-- R116: a frame whose check is right and that says a content is vetoed at a MEMBER alone, for a JOIN of another
digest. -/
theorem vetoes_iff_of_content (hcheck : heard.check = computedCheck heard) (h : frameContent heard = some c) :
    s.vetoes heard = true ↔ ∃ g d d', c = .join g d ∧ s.vetoDigest = some d' ∧ d' ≠ d := by
  unfold State.vetoes frameVetoed
  rw [if_pos hcheck, h]
  cases c with
  | join g d =>
    cases s.vetoDigest with
    | none => simp
    | some d' => simpa using ne_comm
  | _ => simp

theorem vetoes_iff_finds : s.vetoes heard = true ↔ s.Finds heard := by
  by_cases hcheck : heard.check = computedCheck heard
  · cases h : frameContent heard with
    | none => simp [State.vetoes, frameVetoed, State.Finds, hcheck, h]
    | some c =>
      rw [vetoes_iff_of_content hcheck h]
      simp [State.Finds, hcheck, h, vetoDigest_eq_some, and_assoc]
  · simp [State.vetoes, frameVetoed, State.Finds, hcheck]

theorem vetoes_eq_false (h : ¬ s.Finds heard) : s.vetoes heard = false :=
  Bool.eq_false_iff.2 (mt vetoes_iff_finds.1 h)

/-- R116: a sender finds nothing in its own CLAIM, GRANT or QUERY. -/
theorem vetoes_ownLockFrame (hown : s.own ≠ 0) (hc : c.kind.isLock = true) :
    s.vetoes (linkFrame s.own c) = false := by
  have htagged : c.Tagged := by
    constructor
    · rintro d rfl
      exact nomatch hc
    · rintro rfl
      exact nomatch hc
  refine Bool.eq_false_iff.2 fun h => ?_
  have hsays := frameContent_linkFrame hown htagged
  obtain ⟨g, d, -, rfl, -⟩ := (vetoes_iff_of_content (linkFrame_check s.own c) hsays).1 h
  exact nomatch hc

end

/-! ### A frame heard (R92) -/

section
variable {s : State} {x : StationNo} {c : FrameContent}

theorem joinHeard_standing (g : Tag) : (s.joinHeard x g).member.standing = s.member.standing := by
  unfold State.joinHeard
  dsimp only
  rw [withdrawDepart_standing]
  split <;> simp

theorem heardPresence_standing : (s.heardPresence x c).member.standing = s.member.standing := by
  unfold State.heardPresence
  split
  · rfl
  · cases c with
    | join g d => exact joinHeard_standing g
    | beacon g => exact beaconTag_standing.trans (presence_standing s x)
    | depart d g =>
      dsimp only
      split
      · rfl
      · exact presence_standing s x
    | _ => exact presence_standing s x

/-- R107, R126: only the end of LEAVING sends the transceiver elsewhere. -/
theorem departHere_link {g : Tag} (h : s.member.station ≠ .leaving) : (s.departHere g).link = s.link := by
  unfold State.departHere
  split
  · split
    · exact fence_link s .departed
    · exact absurd ‹_› h
    · rfl
  · rfl

theorem heardFrame_link (h : s.member.station ≠ .leaving) : (s.heardFrame x c).link = s.link := by
  obtain ⟨hstation, -⟩ := fields_of_standing (heardPresence_standing (s := s) (x := x) (c := c))
  unfold State.heardFrame
  cases c with
  | depart d g =>
    dsimp only
    split
    · rw [departHere_link (by rwa [hstation]), heardPresence_link]
    · rw [departNames_link, heardPresence_link]
  | _ => exact heardPresence_link s x _

end

/-! ### The end of the slot (R117) -/

section
variable {s : State} {heard : LinkFrame} {b : Bool} {z : LineAtEnd}

theorem exec_slotEnd_decided {v : Bool} (hl : s.link.state = .vetoSlot v) :
    exec (.vetoSlotEnd heard (.ends b z)) s = .next (s.heardVetoEnd heard (b || v) z) := by
  simp [exec, execVetoSlotEnd, State.endVetoSlot, hl]

theorem exec_slotEnd_listening (hl : s.link.state = .listening) :
    exec (.vetoSlotEnd heard (.ends b z)) s = .next (s.heardVetoEnd heard (b || s.vetoes heard) z) := by
  simp [exec, execVetoSlotEnd, State.endVetoSlot, hl]

theorem heardVetoEnd_vetoed : s.heardVetoEnd heard true z = { s with link := LinkAfterFrame z } :=
  (if_pos rfl).trans linkIdle_eq

/-- R117: a frame that this station or another vetoes is dropped. -/
theorem exec_slotEnd_drops (h : s.link.state = .vetoSlot true ∨ (s.link.state = .listening ∧ s.Finds heard) ∨
      (b = true ∧ (s.link.state = .listening ∨ s.link.state = .vetoSlot false))) :
    exec (.vetoSlotEnd heard (.ends b z)) s = .next { s with link := LinkAfterFrame z } := by
  obtain hl | ⟨hl, hfinds⟩ | ⟨rfl, hl | hl⟩ := h
  · rw [exec_slotEnd_decided hl, Bool.or_true, heardVetoEnd_vetoed]
  · rw [exec_slotEnd_listening hl, vetoes_iff_finds.2 hfinds, Bool.or_true, heardVetoEnd_vetoed]
  · rw [exec_slotEnd_listening hl, Bool.true_or, heardVetoEnd_vetoed]
  · rw [exec_slotEnd_decided hl, Bool.true_or, heardVetoEnd_vetoed]

/-- R117: one that none vetoes goes on by what it says. -/
theorem exec_slotEnd_passes (h : s.link.state = .vetoSlot false ∨ (s.link.state = .listening ∧ ¬ s.Finds heard)) :
    exec (.vetoSlotEnd heard (.ends false z)) s = .next (s.heardVetoEnd heard false z) := by
  obtain hl | ⟨hl, hfinds⟩ := h
  · exact exec_slotEnd_decided hl
  · rw [exec_slotEnd_listening hl, vetoes_eq_false hfinds, Bool.or_false]

theorem heardVetoEnd_says {c : FrameContent} (h : frameContent heard = some c) : s.heardVetoEnd heard false z
    = if c.kind.isLock then s.setLink (.listeningAnswer ⟨heard.sender, c, false, none, none⟩)
      else (s.linkIdle z).heardFrame heard.sender c := by
  simp only [State.heardVetoEnd, h, Bool.false_eq_true, if_false]

end

/-- Settles O44, a clause for the decision, a vetoed frame, one that passes at a listener, and one at its sender. -/
theorem vetoSlotDropsAFrameOrPassesItOn : Obligations.VetoSlotDropsAFrameOrPassesItOn := by
  intro s heard z
  refine ⟨fun hl => ⟨s.vetoes heard, ?_, vetoes_iff_finds⟩, fun b h => exec_slotEnd_drops h, fun h => ⟨?_, ?_⟩,
    fun o hl hown hlock => ?_, fun o hl => ?_, fun v hl => ?_⟩
  · simp [exec, execVetoSlotEnd, State.decideVeto, hl, State.setLink, State.withLink]
  · intro c hc hlock
    rw [exec_slotEnd_passes h, heardVetoEnd_says hc, if_pos hlock]
    rfl
  · intro c hc hlock hstation
    refine ⟨_, exec_slotEnd_passes h, ?_⟩
    rw [heardVetoEnd_says hc, if_neg (by rw [hlock]; nofun), heardFrame_link (s := s.linkIdle z) hstation,
      linkIdle_link]
  · have hpasses := vetoes_ownLockFrame hown hlock
    refine ⟨?_, ?_, ?_⟩
    · simp [exec, execVetoSlotEnd, State.decideVeto, hl]
    · simp [exec_ownVetoSlotEnd hl, State.ownVetoEnd, hpasses, hlock, State.setLink, State.withLink]
    · simp [State.sentBits, hl, State.sentVetoBit, hpasses]
  · simp [State.sentBits, hl, sentAnswerField]
  · simp [State.drivesVeto, hl]

end Sys2Proof.Machine
end

section
/-! PROOFS. The lead, the head frame, and idle regained (R89, R110 to R113, R130). -/

namespace Sys2Proof.Machine

open Sys2Proof

/-! ### The head frame (R130) -/

section
variable {s : State} {f g : FrameRecord} {l : List FrameRecord}

theorem ahead_iff : f.ahead g = true ↔
    f.kind.cls.toNat < g.kind.cls.toNat ∨ (f.kind.cls = g.kind.cls ∧ f.age < g.age) := by
  simp [FrameRecord.ahead]

theorem ahead_asymm (h : f.ahead g = true) : ¬ g.ahead f = true := by
  rw [ahead_iff] at h ⊢
  obtain hlt | ⟨heq, hage⟩ := h
  · rintro (hgt | ⟨heq, -⟩)
    · omega
    · rw [heq] at hlt
      omega
  · rintro (hgt | ⟨-, hgt⟩)
    · rw [heq] at hgt
      omega
    · omega

theorem headOf_eq_none : headOf l = none ↔ l = [] := by
  cases l with
  | nil => simp [headOf]
  | cons a l =>
    unfold headOf
    split
    · simp
    · split <;> simp

/-- R130: the frame that goes ahead of every other is the head. -/
theorem headOf_eq_some (hf : f ∈ l) (hahead : ∀ g ∈ l, g ≠ f → f.ahead g = true) : headOf l = some f := by
  induction l with
  | nil => exact nomatch hf
  | cons a l ih =>
    obtain ⟨hfirst, hlater⟩ := List.forall_mem_cons.1 hahead
    unfold headOf
    cases hhead : headOf l with
    | none =>
      rw [headOf_eq_none] at hhead
      subst hhead
      rw [List.mem_singleton.1 hf]
    | some g =>
      dsimp only
      by_cases haf : a = f
      · subst haf
        by_cases hga : g = a
        · rw [hga, ite_self]
        · rw [if_neg (ahead_asymm (hlater g (headOf_mem hhead) hga))]
      · have hfl : f ∈ l := (List.mem_cons.1 hf).resolve_left (Ne.symm haf)
        obtain rfl : f = g := Option.some.inj ((ih hfl hlater).symm.trans hhead)
        rw [if_pos (hfirst haf)]

/-- R134: with no own frame on the link all but the marked frames are offered. -/
theorem headFrame_eq (h : s.link.state.ownAge = none) :
    s.headFrame = headOf (s.queue.frames.filter fun f => !f.withdrawn) := by
  simp [State.headFrame, onLink_of_noFrame h]

end

/-! ### The lead (R111 to R113) -/

section
variable {s : State}

theorem lead_ownAge (hl : s.link.state = .leading) : s.link.state.ownAge = none := by
  rw [hl]
  rfl

/-- R112: an arbitration start in which the head frame f is taken. -/
theorem startArbitration_takes {f : FrameRecord} {c : FrameContent} (hl : s.link.state = .leading)
    (hhead : s.headFrame = some f) (hc : s.contentOf f = some c) :
    s.startArbitration = s.setLink (.arbitrating ⟨f.age, c⟩) := by
  simp only [State.startArbitration, hl, hhead, hc]

theorem startArbitration_none (hl : s.link.state = .leading) (hhead : s.headFrame = none) :
    s.startArbitration = s.setLink .listening := by
  simp only [State.startArbitration, hl, hhead]

theorem tailRises_stands (h : s.link.state ≠ .idle ∨ s.link.line ≠ .tail) : s.tailRises = s := by
  unfold State.tailRises
  split
  · rename_i hidle
    rw [if_neg (h.resolve_left (not_not_intro hidle))]
  · rfl

end

/-! ### Idle regained (R89, R111) -/

section
variable {s : State}

theorem exec_idleRegained (hl : s.link.state = .seeking) (hline : s.link.line = .recessive) :
    exec .idleRegained s = .next s.regainIdle := by
  simp [exec, execIdleRegained, hl, hline]

theorem wantJoin_of_tag {g : Tag} {d : Digest} (hg : s.member.ownTag = some g) (hd : s.config.digest = some d) :
    s.wantJoin = s.placeMember (.join g d) := by
  simp only [State.wantJoin, hg, hd]

/-- R89, R129: the own JOIN is queued, where none is. -/
theorem wantJoin_places {g : Tag} {d : Digest} (hg : s.member.ownTag = some g) (hd : s.config.digest = some d)
    (hno : ∀ f ∈ s.queue.frames, ∀ g' d', f.payload ≠ some (.join g' d')) :
    s.wantJoin = s.placeFrame .join .membership (some (.join g d)) := by
  rw [wantJoin_of_tag hg hd]
  refine placeMember_places fun f hf p hp => Bool.eq_false_iff.2 fun hconflict => ?_
  obtain ⟨g', d', rfl⟩ := memberConflict_join.1 hconflict
  exact hno f hf g' d' hp

theorem wantJoin_stands {g : Tag} {d : Digest} (hg : s.member.ownTag = some g) (hd : s.config.digest = some d)
    (hqueued : ∃ f ∈ s.queue.frames, ∃ g' d', f.payload = some (.join g' d')) : s.wantJoin = s := by
  obtain ⟨f, hf, g', d', hp⟩ := hqueued
  rw [wantJoin_of_tag hg hd]
  exact placeMember_stands hf hp (memberConflict_join.2 ⟨g', d', rfl⟩)

end

/-- Settles O40, a clause for each moment of a lead, the pulse heard, and idle regained. -/
theorem leadTakesTheHeadFrameAndIdleIsRegained : Obligations.LeadTakesTheHeadFrameAndIdleIsRegained := by
  intro s
  refine ⟨fun hl hline hq => ?_, fun hl hq => ?_, fun hl hline => ?_, fun hl => ?_, fun hl hline => ?_, fun h => ?_,
    fun hl f hf hmarked hahead c hc => ?_, fun hl hmarked => ?_, fun o hl => ?_, fun hl hline => ?_,
    fun hl hline => ?_, fun hl => ?_, fun hl hline => ?_, fun hl hline hm => ?_,
    fun g d hl hline hm hg hd => ⟨fun hno => ?_, fun hqueued => ?_⟩⟩
  · simp [exec, execLead, State.beginLead, hl, hline, hq, State.withLink]
  · simp [exec, execLead, State.beginLead, hl, hq]
  · simp [exec, execLead, State.beginLead, hl, hline]
  · obtain hl | hl := hl <;> simp [exec, execLead, State.pulseFalls, hl, State.withLink]
  · simp [exec, execLead, State.tailRises, hl, hline, State.linkIdle, State.withLink]
  · simp [exec, execLead, tailRises_stands h]
  · have hhead : s.headFrame = some f := by
      rw [headFrame_eq (lead_ownAge hl)]
      refine headOf_eq_some (by simp [hf, hmarked]) fun g hg hne => ahead_iff.2 ?_
      obtain ⟨hg, hgmarked⟩ := List.mem_filter.1 hg
      exact hahead g hg (by simpa using hgmarked) hne
    simp [exec, execLead, startArbitration_takes hl hhead hc, State.setLink, State.withLink]
  · have hhead : s.headFrame = none := by
      rw [headFrame_eq (lead_ownAge hl), headOf_eq_none]
      simpa using hmarked
    simp [exec, execLead, startArbitration_none hl hhead, State.setLink, State.withLink]
  · simp [exec, execArbitrationFieldPassed, hl, State.setLink, State.withLink]
  · simp [exec, execLeadHeard, hl, hline, State.pulseLength, State.withLink]
  · simp [exec, execLeadHeard, hl, hline, State.pulseLength, State.withLink, State.T, State.bitTime]
  · simp [exec, execLeadHeard, hl, State.linkSeeking, State.withLink]
  · simp [exec, execIdleRegained, hl, hline]
  · rw [exec_idleRegained hl hline, State.regainIdle, if_neg hm]
    rfl
  · rw [exec_idleRegained hl hline, State.regainIdle, if_pos hm]
    exact congrArg _ (wantJoin_places (s := s.linkIdle _) hg hd hno)
  · rw [exec_idleRegained hl hline, State.regainIdle, if_pos hm]
    exact congrArg _ (wantJoin_stands (s := s.linkIdle _) hg hd hqueued)

end Sys2Proof.Machine
end

section
/-! PROOFS. The attempt of a marked CLAIM fails beside a DEFERRED sibling that has a frame with the age of the next
frame to come. -/

namespace Sys2Proof.Machine

open Sys2Proof

/-- The CLAIM of the claim in flight, which R4 has marked. -/
def markedClaim : FrameRecord := { ownClaim with withdrawn := true }

def sentClaim : OwnFrame := ⟨0, .claim 0 0 none false⟩

/-- The station sends it, the younger sibling's stray frame queued behind it. No run from reset comes here: a DEFERRED
entry has no frame (R2), and the ages in the queue lie below the next one (`State.QueuesFit`), neither of which the
statement asks. -/
abbrev markedBesideStray : State := besideStray (.sending sentClaim) [markedClaim]

theorem markedBesideStray_placed :
    markedBesideStray.PlacedBehind 0 claimBeside markedClaim 0 0 .limited (some 0) :=
  ⟨rfl, rfl, rfl, List.mem_cons_self, rfl, rfl, besideStray_named _ _, rfl, by decide⟩

/-- The claim in flight is evaluated again and claims with a frame of the age at which its younger sibling's stray frame
is then withdrawn, both with it. -/
theorem markedBesideStray_empties : EmptiesQueue .collision markedBesideStray = true := by decide +kernel

/-- Refutes O41 for a marked CLAIM, on a state that no run reaches: the entry that the end of the attempt evaluates
again is left CLAIMING with neither a want nor a frame. -/
theorem not_attemptsThatFailAreCounted : ¬ Obligations.AttemptsThatFailAreCounted := by
  intro h
  obtain ⟨-, -, hends⟩ := h markedBesideStray
  have hfails : AttemptEnds markedBesideStray sentClaim .collision _ := .inl (.inl ⟨.inr rfl, rfl, rfl⟩)
  obtain ⟨hmarked, -⟩ := hends sentClaim markedClaim .collision _ hfails rfl
  obtain ⟨-, hplaced, -⟩ := hmarked rfl rfl rfl
  obtain ⟨t, ht, -, hevaluated, -⟩ := hplaced _ _ _ _ _ markedBesideStray_placed
  obtain ⟨-, hclaims⟩ := hevaluated rfl
  obtain ⟨hnoHolder, halone⟩ := besideStray_claimsAlone (.sending sentClaim) [markedClaim]
  obtain ⟨-, -, hserved⟩ := hclaims hnoHolder halone
  have hempty := markedBesideStray_empties
  simp only [EmptiesQueue, ht, Bool.and_eq_true, List.isEmpty_iff] at hempty
  obtain ⟨hwants, hframes⟩ := hempty
  rw [hwants, hframes] at hserved
  obtain hw | ⟨f, hf, -⟩ := hserved
  · exact nomatch hw
  · exact nomatch hf

end Sys2Proof.Machine
end

section
/-! PROOFS. The host port's writes to the slots, END, the post lock and the ring status (R143, R144, R146, R148, R154,
R155, R178, R184, R185), and what frees the post lock or leaves it as it stands (R155). -/

namespace Sys2Proof.Machine

open Sys2Proof

/-! ### Commands at the port outside reset -/

section
variable {s : State} (h : s.resetHeld = false)
include h

theorem atPort_released (t : State) : s.atPort t = t := if_neg (by simp [h])

theorem exec_slotWrite (i : SlotIx) (l : List (Fin 16 × Byte)) : exec (.slotWrite i l) s = .next (s.writeSlot i l) :=
  congrArg _ (atPort_released h _)

theorem exec_endWrite (v : Byte) : exec (.endWrite v) s = .next (s.writeEnd v) :=
  congrArg _ (atPort_released h _)

theorem exec_postLockRead (whole : Bool) : exec (.postLockRead whole) s = .next (s.readPostLock whole) :=
  congrArg _ (atPort_released h _)

theorem exec_postLockWrite (v : Byte) : exec (.postLockWrite v) s
    = .next (if v = 0 then s.withRing { s.ring with postLock := false } else s) :=
  congrArg _ (atPort_released h _)

theorem exec_refusedWriteClear (v : Byte) : exec (.refusedWriteClear v) s
    = .next (if v.getLsbD 2 then s.withRing { s.ring with refusedWrite := false } else s) :=
  congrArg _ (atPort_released h _)

theorem exec_leave : exec .leave s = .next s.leaveCommand := congrArg _ (atPort_released h _)

theorem exec_restart : exec .restart s = .next s.restartCommand := congrArg _ (atPort_released h _)

end

/-! ### The bytes of a slot's request part (R184) -/

theorem isRequestOffset_iff {o : Fin 16} : isRequestOffset o = true ↔ 2 ≤ o.val ∧ o.val < 10 := by
  simp [isRequestOffset]

theorem isWordOffset_iff {o : Fin 16} : isWordOffset o = true ↔ o.val = 2 ∨ o.val = 3 := by
  simp [isWordOffset]

theorem isRequestOffset_of_isWordOffset {o : Fin 16} (h : isWordOffset o = true) : isRequestOffset o = true := by
  rw [isWordOffset_iff] at h
  rw [isRequestOffset_iff]
  omega

/-- What a byte leaves at an offset: the request word's second byte has two bits. -/
def storedAt (o : Fin 16) (b : Byte) : Byte := if o = 3 then b &&& 3 else b

/-- The bytes at the offsets 2 to 9. -/
def Slot.requestBytes (x : Slot) : List Byte :=
  [x.kind ++ BitVec.ofBool x.notify ++ x.context, x.policy.setWidth 8] ++ bytes24 x.resource ++ [x.target]
    ++ bytes16 x.waitLimit

theorem read_eq_requestBytes (x : Slot) {o : Fin 16} (h : isRequestOffset o = true) :
    x.read o = x.requestBytes.getD (o.val - 2) 0 := by
  rw [isRequestOffset_iff] at h
  obtain ⟨hlow, hhigh⟩ := h
  obtain ⟨n, hn⟩ := o
  change 2 ≤ n at hlow
  change n < 10 at hhigh
  interval_cases n <;> rfl

theorem bytes24_setByte24 (x : BitVec 24) (b : Byte) :
    bytes24 (setByte24 x 0 b) = (bytes24 x).set 0 b ∧
    bytes24 (setByte24 x 1 b) = (bytes24 x).set 1 b ∧
    bytes24 (setByte24 x 2 b) = (bytes24 x).set 2 b := by
  have hlow : x.extractLsb' 0 (8 + 8) = x.extractLsb' 8 8 ++ x.extractLsb' 0 8 :=
    (BitVec.extractLsb'_append_extractLsb'_eq_extractLsb' (start₂ := 8) (start₁ := 0) rfl).symm
  have hhigh : x.extractLsb' 8 (8 + 8) = x.extractLsb' 16 8 ++ x.extractLsb' 8 8 :=
    (BitVec.extractLsb'_append_extractLsb'_eq_extractLsb' (start₂ := 16) (start₁ := 8) rfl).symm
  have hfirst : setByte24 x 0 b = join24 b (x.extractLsb' 8 8) (x.extractLsb' 0 8) :=
    (congrArg (b ++ ·) hlow).trans (BitVec.append_assoc ..).symm
  have hlast : setByte24 x 2 b = join24 (x.extractLsb' 16 8) (x.extractLsb' 8 8) b := congrArg (· ++ b) hhigh
  rw [hfirst, hlast]
  exact ⟨bytes24_join24 .., bytes24_join24 .., bytes24_join24 ..⟩

theorem word_of_byte (b : Byte) :
    b.extractLsb' 5 3 ++ BitVec.ofBool (b.getLsbD 4) ++ b.extractLsb' 0 4 = b := by
  revert b; decide +kernel

theorem policy_of_byte (b : Byte) : (b.extractLsb' 0 2).setWidth 8 = b &&& 3 := by
  revert b; decide +kernel

/-- R184: a byte replaces the one at its offset of the request part; at another offset it is ignored. -/
theorem requestBytes_writeByte (x : Slot) (w : Fin 16 × Byte) : (x.writeByte w).requestBytes
    = if isRequestOffset w.1 then x.requestBytes.set (w.1.val - 2) (storedAt w.1 w.2) else x.requestBytes := by
  obtain ⟨⟨n, hn⟩, b⟩ := w
  obtain ⟨hfirst, hmiddle, hlast⟩ := bytes24_setByte24 x.resource b
  match n, hn with
  | 2, _ => exact congrArg (· :: x.requestBytes.tail) (word_of_byte b)
  | 3, _ => exact congrArg (_ :: · :: x.requestBytes.drop 2) (policy_of_byte b)
  | 4, _ => exact congrArg (x.requestBytes.take 2 ++ · ++ x.requestBytes.drop 5) hfirst
  | 5, _ => exact congrArg (x.requestBytes.take 2 ++ · ++ x.requestBytes.drop 5) hmiddle
  | 6, _ => exact congrArg (x.requestBytes.take 2 ++ · ++ x.requestBytes.drop 5) hlast
  | 8, _ => exact congrArg (x.requestBytes.take 6 ++ ·) (bytes16_join16 ..)
  | 9, _ => exact congrArg (x.requestBytes.take 6 ++ ·) (bytes16_join16 ..)
  | 0, _ | 1, _ | 7, _ | 10, _ | 11, _ | 12, _ | 13, _ | 14, _ | 15, _ => rfl
  | n + 16, h => omega

/-- R184: what is read of the request part after one byte. -/
theorem read_writeByte (x : Slot) (w : Fin 16 × Byte) {o : Fin 16} (h : isRequestOffset o = true) :
    (x.writeByte w).read o = if w.1 = o then storedAt o w.2 else x.read o := by
  rw [read_eq_requestBytes _ h, read_eq_requestBytes _ h, requestBytes_writeByte]
  rw [isRequestOffset_iff] at h
  have hlength : x.requestBytes.length = 8 := rfl
  split
  · rename_i hw
    rw [isRequestOffset_iff] at hw
    split
    · subst o
      rw [List.getD_eq_getElem?_getD, List.getElem?_set_self (by omega), Option.getD_some]
    · have hne : w.1.val ≠ o.val := Fin.val_ne_of_ne ‹_›
      rw [List.getD_eq_getElem?_getD, List.getElem?_set_ne (by omega), List.getD_eq_getElem?_getD]
  · rename_i hw
    rw [if_neg]
    rintro rfl
    exact hw (isRequestOffset_iff.2 h)

/-! ### A row of bytes -/

theorem writtenAt_append (l : List (Fin 16 × Byte)) (w : Fin 16 × Byte) (o : Fin 16) (old : Byte) :
    writtenAt (l ++ [w]) o old = if w.1 = o then w.2 else writtenAt l o old := by
  unfold writtenAt
  split <;> simp [List.filter_append, *]

/-- Bytes at the other offsets leave what is written at one of the request part. -/
theorem writtenAt_request (l : List (Fin 16 × Byte)) {o : Fin 16} (h : isRequestOffset o = true) (old : Byte) :
    writtenAt (l.filter (fun w => isRequestOffset w.1)) o old = writtenAt l o old := by
  unfold writtenAt
  rw [List.filter_filter]
  congr 4
  funext w
  by_cases hw : w.1 = o <;> simp [hw, h]

theorem storedAt_read (x : Slot) (o : Fin 16) : storedAt o (x.read o) = x.read o := by
  have hpolicy : ∀ p : BitVec 2, p.setWidth 8 &&& (3 : Byte) = p.setWidth 8 := by decide
  unfold storedAt
  split
  · subst o
    exact hpolicy x.policy
  · rfl

/-- R184: what is read of the request part after a row of bytes. -/
theorem read_foldl_writeByte (l : List (Fin 16 × Byte)) (x : Slot) {o : Fin 16} (h : isRequestOffset o = true) :
    (l.foldl Slot.writeByte x).read o = storedAt o (writtenAt l o (x.read o)) := by
  induction l using List.reverseRecOn with
  | nil => exact (storedAt_read x o).symm
  | append_singleton l w ih =>
    rw [List.foldl_append, List.foldl_cons, List.foldl_nil, read_writeByte _ _ h, ih, writtenAt_append]
    split <;> rfl

theorem result_writeByte (x : Slot) (w : Fin 16 × Byte) : (x.writeByte w).result = x.result := by
  unfold Slot.writeByte
  simp only [apply_ite Slot.result, ite_self]

theorem result_foldl_writeByte (l : List (Fin 16 × Byte)) (x : Slot) :
    (l.foldl Slot.writeByte x).result = x.result := by
  induction l generalizing x with
  | nil => rfl
  | cons w l ih => rw [List.foldl_cons, ih, result_writeByte]

/-! ### A write to a slot (R143, R144) -/

section
variable (x : Slot) {l : List (Fin 16 × Byte)}

theorem take_of_word (h : ∃ w ∈ l, isWordOffset w.1 = true) :
    x.take l = { l.foldl Slot.writeByte x with state := .filled, result := .absent } := by
  unfold Slot.take
  exact if_pos (List.any_eq_true.2 h)

theorem take_of_no_word (h : ∀ w ∈ l, isWordOffset w.1 = false) : x.take l = l.foldl Slot.writeByte x := by
  unfold Slot.take
  exact if_neg (by simpa using h)

/-- R143: the request part does not tell whether the slot became FILLED. -/
theorem read_take {o : Fin 16} (h : isRequestOffset o = true) :
    (x.take l).read o = storedAt o (writtenAt l o (x.read o)) := by
  rw [← read_foldl_writeByte l x h, read_eq_requestBytes _ h, read_eq_requestBytes _ h]
  unfold Slot.take
  dsimp only
  split <;> rfl

end

/-- The bytes of a write that fall in the request part. -/
def requestBytesOf (l : List (Fin 16 × Byte)) : List (Fin 16 × Byte) := l.filter (fun w => isRequestOffset w.1)

theorem mem_requestBytesOf {l : List (Fin 16 × Byte)} {w : Fin 16 × Byte} :
    w ∈ requestBytesOf l ↔ w ∈ l ∧ isRequestOffset w.1 = true := List.mem_filter

section
variable (s : State) (i : SlotIx) {l : List (Fin 16 × Byte)}

theorem writeSlot_readOnly (h : ∀ w ∈ l, isRequestOffset w.1 = false) : s.writeSlot i l = s := by
  unfold State.writeSlot
  exact if_pos (by simpa using h)

variable (h : ∃ w ∈ l, isRequestOffset w.1 = true)
include h

theorem writeSlot_pending (hp : (s.slot i).state = .pending) :
    s.writeSlot i l = { s with ring := { s.ring with refusedWrite := true } } := by
  unfold State.writeSlot
  exact (if_neg (by simpa using h)).trans (if_pos hp)

theorem writeSlot_taken (hp : (s.slot i).state ≠ .pending) :
    s.writeSlot i l = s.setSlot i ((s.slot i).take (requestBytesOf l)) := by
  unfold State.writeSlot
  exact (if_neg (by simpa using h)).trans (if_neg hp)

end

/-- Settles O15: by the bytes that reach the request part, and by whether the slot is PENDING. -/
theorem slotWriteIsTakenOrRefusedByTheSlotState : Obligations.SlotWriteIsTakenOrRefusedByTheSlotState := by
  intro i bytes s hreset
  rw [exec_slotWrite hreset]
  refine ⟨fun hreadOnly => ?_, fun hrequest => ?_⟩
  · refine congrArg _ (writeSlot_readOnly s i (fun w hw => ?_))
    have := hreadOnly w hw
    rw [Bool.eq_false_iff, ne_eq, isRequestOffset_iff]
    omega
  simp only [← isRequestOffset_iff] at hrequest
  refine ⟨fun hp => congrArg _ (writeSlot_pending s i hrequest hp), fun hp =>
    ⟨_, congrArg _ (writeSlot_taken s i hrequest hp), fun o hlow hhigh => ?_, fun ⟨w, hw, hword⟩ => ?_,
      fun hnone => ?_⟩⟩
  · have ho := isRequestOffset_iff.2 ⟨hlow, hhigh⟩
    rw [read_take _ ho, requestBytesOf, writtenAt_request _ ho]
    rfl
  · rw [← isWordOffset_iff] at hword
    rw [take_of_word _ ⟨w, mem_requestBytesOf.2 ⟨hw, isRequestOffset_of_isWordOffset hword⟩, hword⟩]
    exact ⟨rfl, rfl⟩
  · rw [take_of_no_word, state_foldl_writeByte, result_foldl_writeByte]
    · exact ⟨rfl, rfl⟩
    · intro w hw
      have := hnone w (mem_requestBytesOf.1 hw).1
      rw [Bool.eq_false_iff, ne_eq, isWordOffset_iff]
      omega

/-! ### END, the post lock and REFUSED_WRITE (R146, R148, R154, R155) -/

section
variable {s : State} {v : Byte}

theorem writeEnd_inRange (h : v.toNat < 24) : s.writeEnd v = { s with
    ring := { s.ring with
      endIx := ⟨v.toNat, h⟩
      postLock := false
      stalled := s.ring.stalled && decide ((⟨v.toNat, h⟩ : SlotIx) ≠ s.ring.current) } } := by
  simp only [State.writeEnd, h, dite_true, ne_eq, Fin.ext_iff]
  rfl

theorem writeEnd_above (h : 24 ≤ v.toNat) : s.writeEnd v = s := dif_neg (Nat.not_lt.2 h)

end

/-- Settles O16: by whether the value is a slot index. -/
theorem endWriteSetsEndAndFreesThePostLock : Obligations.EndWriteSetsEndAndFreesThePostLock := by
  intro v s hreset
  rw [exec_endWrite hreset]
  exact ⟨fun h => congrArg _ (writeEnd_inRange h), fun h => congrArg _ (writeEnd_above h)⟩

/-- Settles O19: by bit 2 of the byte. -/
theorem refusedWriteClearsOnBitTwo : Obligations.RefusedWriteClearsOnBitTwo := by
  intro v s hreset
  rw [exec_refusedWriteClear hreset]
  exact ⟨fun h => congrArg _ (if_pos h), fun h => congrArg _ (if_neg (by rw [h]; exact Bool.false_ne_true))⟩

theorem readPostLock_whole (s : State) : s.readPostLock true = { s with
    ring := { s.ring with postLock := true }
    port := { s.port with miso := [if s.ring.postLock then 1 else 0] } } := by
  have hbyte : ∀ b : Bool, (BitVec.ofBool b).setWidth 8 = if b then (1 : Byte) else 0 := by decide
  simp only [State.readPostLock, if_true, hbyte]
  rfl

/-! ### What leaves the post lock as it stands (R103, R155) -/

section
variable (s : State)

theorem leaveCommand_shell : s.leaveCommand.shell = s.shell := by
  unfold State.leaveCommand
  split
  · simp [State.beginLeave]
  · rfl

theorem exec_fenceTimerExpiry_shell : ∃ t, exec .fenceTimerExpiry s = .next t ∧ t.shell = s.shell := by
  refine ⟨_, rfl, ?_⟩
  split
  · exact fence_shell s .silence
  · rfl

theorem exec_vetoSlotEnd_shell (f : LinkFrame) (m : VetoMoment) :
    ∃ t, exec (.vetoSlotEnd f m) s = .next t ∧ t.shell = s.shell := by
  cases m with
  | checked => exact ⟨_, rfl, decideVeto_shell s f⟩
  | ends vetoed atEnd => exact ⟨_, rfl, endVetoSlot_shell s f vetoed atEnd⟩

theorem exec_lossOfSynchronization_shell : ∃ t, exec .lossOfSynchronization s = .next t ∧ t.shell = s.shell := by
  refine ⟨_, rfl, ?_⟩
  cases s.link.state <;> simp

end

/-- Settles O17: the host's own accesses by their equations; LEAVE and the events that can fence by the part of the
state that they cannot touch, the post lock among it. -/
theorem postLockFollowsItsTable : Obligations.PostLockFollowsItsTable := by
  refine fun s => ⟨fun hreset => ⟨?_, ?_, fun v hv => ?_, fun v hv => ?_, fun v hv => ?_, fun hst => ?_, ?_⟩,
    ⟨_, rfl, rfl⟩, ⟨_, rfl, rfl⟩, ?_, fun heard m => ?_, ?_⟩
  · exact ⟨_, exec_postLockRead hreset true, readPostLock_whole s⟩
  · exact (exec_postLockWrite hreset 0).trans (congrArg _ (if_pos rfl))
  · exact (exec_postLockWrite hreset v).trans (congrArg _ (if_neg hv))
  · exact ⟨_, exec_endWrite hreset v, by rw [writeEnd_inRange hv]⟩
  · exact (exec_endWrite hreset v).trans (congrArg _ (writeEnd_above hv))
  · exact ⟨_, exec_restart hreset, by rw [State.restartCommand, if_neg hst]; rfl⟩
  · exact ⟨_, exec_leave hreset, postLock_of_shell (leaveCommand_shell s)⟩
  · exact (exec_fenceTimerExpiry_shell s).imp fun t ht => ht.imp_right postLock_of_shell
  · exact (exec_vetoSlotEnd_shell s heard m).imp fun t ht => ht.imp_right postLock_of_shell
  · exact (exec_lossOfSynchronization_shell s).imp fun t ht => ht.imp_right postLock_of_shell

end Sys2Proof.Machine
end

section
/-! PROOFS. The ring and count locations of the window (R154, R181, R188, R189). -/

namespace Sys2Proof.Machine

open Sys2Proof

section
variable (s : State)

/-! ### The PENDING slots -/

theorem slots_toList : s.ring.slots.toList = (List.finRange 24).map s.slot := by
  refine List.ext_getElem (by simp) (fun n _ _ => ?_)
  simp [State.slot]

theorem pendingCount_eq :
    s.pendingCount = (List.finRange 24).countP (fun i => decide ((s.slot i).state = .pending)) := by
  rw [State.pendingCount, slots_toList, List.countP_map]
  rfl

theorem pendingCount_le : s.pendingCount ≤ 24 :=
  List.countP_le_length.trans_eq Vector.length_toList

theorem pendingCount_eq_zero : s.pendingCount = 0 ↔ ∀ i, (s.slot i).state ≠ .pending := by
  simp [pendingCount_eq, List.countP_eq_zero]

theorem ringIdle_eq :
    s.ringIdle = decide (s.ring.current = s.ring.endIx ∧ ∀ i, (s.slot i).state ≠ .pending) := by
  simp only [State.ringIdle, pendingCount_eq_zero, Bool.decide_and]

/-! ### The ring locations (R154) -/

theorem windowByte_ringStatus : s.windowByte 0x040 = s.ringStatus := rfl
theorem windowByte_pendingCount : s.windowByte 0x041 = BitVec.ofNat 8 s.pendingCount := rfl
theorem windowByte_current : s.windowByte 0x042 = BitVec.ofNat 8 s.ring.current.val := rfl
theorem windowByte_end : s.windowByte 0x043 = BitVec.ofNat 8 s.ring.endIx.val := rfl

/-- R180: the flags by their bits. -/
theorem ringStatus_bits :
    s.ringStatus.getLsbD 0 = s.ringIdle ∧ s.ringStatus.getLsbD 1 = s.ring.stalled ∧
    s.ringStatus.getLsbD 2 = s.ring.refusedWrite ∧ s.ringStatus.getLsbD 3 = s.ring.postLock ∧
    s.ringStatus.extractLsb' 4 4 = 0 := by
  have hbits : ∀ a b c d : Bool,
      let x : Byte := (0 : BitVec 4) ++ BitVec.ofBool a ++ BitVec.ofBool b ++ BitVec.ofBool c ++ BitVec.ofBool d
      x.getLsbD 0 = d ∧ x.getLsbD 1 = c ∧ x.getLsbD 2 = b ∧ x.getLsbD 3 = a ∧ x.extractLsb' 4 4 = 0 := by decide
  exact hbits _ _ _ _

end

/-- A count or an index that fits a byte reads as itself. -/
theorem toNat_byte {n : Nat} (h : n ≤ 24) : (BitVec.ofNat 8 n).toNat = n :=
  (BitVec.toNat_ofNat ..).trans (Nat.mod_eq_of_lt (by omega))

/-- Settles O25: the flags bit by bit, the ring locations by their ranges, and the counts where the status view has
them. -/
theorem statusLocationsReadTheBlocks : Obligations.StatusLocationsReadTheBlocks := by
  intro s
  obtain ⟨hidle, hstalled, hrefused, hlock, hrest⟩ := ringStatus_bits s
  rw [windowByte_ringStatus, windowByte_pendingCount, windowByte_current, windowByte_end]
  exact ⟨hidle.trans (ringIdle_eq s), hstalled, hrefused, hlock, hrest,
    (toNat_byte (pendingCount_le s)).trans (pendingCount_eq s), toNat_byte s.ring.current.isLt.le,
    toNat_byte s.ring.endIx.isLt.le, rfl, rfl, rfl, rfl, rfl⟩

end Sys2Proof.Machine
end

section
/-! PROOFS. Takings of a slot that holds no request (R147 to R149), and the requests that slots hold (R149, R150). -/

namespace Sys2Proof.Machine

open Sys2Proof

/-! ### The taking of the slot at CURRENT (R147) -/

section
variable {s : State}

theorem exec_taking_idle (h : s.ring.stalled = true ∨ s.ring.current = s.ring.endIx) : exec .taking s = .next s := by
  have hdue : s.takingDue = false := by obtain h | h := h <;> simp [State.takingDue, h]
  simp [exec, execTaking, hdue]

section
variable (hstalled : s.ring.stalled = false) (hrange : s.ring.current ≠ s.ring.endIx)
include hstalled hrange

theorem exec_taking_due : exec .taking s = .next (s.take s.ring.current) := by
  have hdue : s.takingDue = true := by simp [State.takingDue, hstalled, hrange]
  simp [exec, execTaking, hdue]

/-- R147, R152: a slot that completes with a code alone, without going to the lock engine. -/
theorem exec_taking_bare {c : Code} (h : s.take s.ring.current = (s.completeBare s.ring.current c).advance) :
    exec .taking s = .next { s with
      ring := s.RingDone ⟨some c, none, none, none, none⟩
      notices := s.NotesDone c } := by
  rw [exec_taking_due hstalled hrange, h, State.completeBare, complete_eq]
  simp only [State.advance, State.withRing, State.RingDone, State.NotesDone, Slot.Completed, SlotResult.bare,
    hstalled, Bool.false_and]

end

theorem take_unfilled {i : SlotIx} (h : (s.slot i).state = .empty ∨ (s.slot i).state = .done) :
    s.take i = (s.completeBare i .unfilled).advance := by
  obtain h | h := h <;> simp only [State.take, h]

theorem take_pending {i : SlotIx} (h : (s.slot i).state = .pending) :
    s.take i = { s with ring := { s.ring with stalled := true } } := by
  simp only [State.take, h]
  rfl

theorem take_malformed {i : SlotIx} (h : (s.slot i).state = .filled) (hrequest : (s.slot i).request = none) :
    s.take i = (s.completeBare i .malformed).advance := by
  simp only [State.take, h, hrequest]

end

/-- Settles O26: by whether a taking is due and by the state of the slot at CURRENT. -/
theorem takingHandlesUnfilledAndPendingSlots : Obligations.TakingHandlesUnfilledAndPendingSlots := by
  refine fun s => ⟨exec_taking_idle, fun hstalled hrange => ⟨fun h => ?_, fun h => ?_⟩⟩
  · exact exec_taking_bare hstalled hrange (take_unfilled h)
  · exact (exec_taking_due hstalled hrange).trans (congrArg _ (take_pending h))

/-! ### The malformed table, and the requests by their kinds (R149, R150) -/

section
variable {x : Slot}

theorem requestContext_of_eq {c : Context} (h : x.context.toNat = c.val) : x.requestContext = some c := by
  have hlt : x.context.toNat < 8 := h ▸ c.isLt
  exact (dif_pos hlt).trans (congrArg some (Fin.ext h))

theorem requestContext_above (h : 7 < x.context.toNat) : x.requestContext = none := dif_neg (by omega)

theorem request_acquire (hk : x.kind = 1) {c : Context} (hc : x.context.toNat = c.val) {p : WaitPolicy}
    {d : Option (BitVec 16)} (hp : x.waitPolicy = some (p, d)) : x.request = some (.acquire c x.resource p d) := by
  simp [Slot.request, hk, requestContext_of_eq hc, hp]

theorem request_release (hk : x.kind = 2) {c : Context} (hc : x.context.toNat = c.val) :
    x.request = some (.release c x.resource) := by
  simp [Slot.request, hk, requestContext_of_eq hc]

theorem request_query (hk : x.kind = 3) : x.request = some (.query x.resource) := by
  simp [Slot.request, hk]

theorem request_cancel (hk : x.kind = 4) {i : SlotIx} (hi : x.target.toNat = i.val) :
    x.request = some (.cancel i) := by
  simp [Slot.request, hk, hi]

theorem request_none_of_kind (h : x.kind.toNat = 0 ∨ 5 ≤ x.kind.toNat) : x.request = none := by
  have hne (k : BitVec 3) (hk : 1 ≤ k.toNat ∧ k.toNat ≤ 4) : x.kind ≠ k := by
    rintro rfl
    omega
  unfold Slot.request
  rw [if_neg (hne 1 (by decide)), if_neg (hne 2 (by decide)), if_neg (hne 3 (by decide)), if_neg (hne 4 (by decide))]

theorem request_none_of_context (hk : x.kind = 1 ∨ x.kind = 2) (h : 7 < x.context.toNat) : x.request = none := by
  obtain hk | hk := hk <;> simp [Slot.request, hk, requestContext_above h]

theorem request_none_of_policy (hk : x.kind = 1) (h : x.waitPolicy = none) : x.request = none := by
  simp [Slot.request, hk, h]

theorem request_none_of_target (hk : x.kind = 4) (h : 23 < x.target.toNat) : x.request = none := by
  simp [Slot.request, hk, Nat.not_lt.2 h]

end

/-- Settles O27: a slot that a row of the malformed table fits holds no request, and the others hold their kind's. -/
theorem requestsAreMalformedOrCarryTheirFields : Obligations.RequestsAreMalformedOrCarryTheirFields := by
  refine ⟨fun s hstalled hrange hfilled hrow => exec_taking_bare hstalled hrange (take_malformed hfilled ?_), fun x =>
    ⟨fun c hk hc => ⟨fun hp => ?_, fun hp => ?_, fun hp hlimit => ?_⟩, fun _ hk hc => request_release hk hc,
      request_query, fun _ hk hi => request_cancel hk hi⟩⟩
  · obtain hkind | ⟨hk, hcontext⟩ | ⟨hk, hp⟩ | ⟨hk, hp, hlimit⟩ | ⟨hk, htarget⟩ := hrow
    · exact request_none_of_kind hkind
    · exact request_none_of_context hk hcontext
    · exact request_none_of_policy hk (by simp [Slot.waitPolicy, hp])
    · exact request_none_of_policy hk (by simp [Slot.waitPolicy, hp, hlimit])
    · exact request_none_of_target hk htarget
  · exact request_acquire hk hc (by simp [Slot.waitPolicy, hp])
  · exact request_acquire hk hc (by simp [Slot.waitPolicy, hp])
  · exact request_acquire hk hc (by simpa [Slot.waitPolicy, hp] using hlimit)

end Sys2Proof.Machine
end

section
/-! PROOFS. The pop location (R163, R179), and what fills the notice queue and drives IRQ_N (R161, R162, R165). -/

namespace Sys2Proof.Machine

open Sys2Proof

/-! ### The bytes that a pop read clocks out (R179, R183) -/

theorem noticeBody_head_length (b : NoticeBody) : b.head.length = 11 := by cases b <;> rfl

theorem notice_bytes_length (x : Notice) : x.bytes.length = 12 := by
  rw [Notice.bytes, List.length_append, noticeBody_head_length]
  rfl

/-- Bytes read one by one from an offset, 0 where the record has none, are its rest padded with 0. -/
theorem range_map_getD (l : List Byte) (o n : Nat) :
    (List.range n).map (fun i => l.getD (o + i) 0) = (l.drop o ++ List.replicate n 0).take n := by
  refine List.ext_getElem (by simp) (fun i hi _ => ?_)
  have hin : i < n := by simpa using hi
  simp only [List.getElem_map, List.getElem_range, List.getElem_take, List.getElem_append, List.length_drop,
    List.getElem_drop, List.getElem_replicate]
  split
  · exact List.getD_eq_getElem l 0 (by omega)
  · exact List.getD_eq_default l 0 (by omega)

theorem popBytes_none_read (o n : Nat) :
    (List.range n).map (fun i => (popBytes none).getD (o + i) 0) = List.replicate n 0 := by
  have hzeros : popBytes none = List.replicate 12 0 := rfl
  rw [range_map_getD, hzeros, List.drop_replicate, List.replicate_append_replicate, List.take_replicate]
  congr 1
  omega

section
variable (x : Notice) {o n : Nat}

theorem popBytes_read_within (h : o + n < 12) :
    (List.range n).map (fun i => (popBytes (some x)).getD (o + i) 0) = (x.bytes.drop o).take n := by
  have hlength : n ≤ (x.bytes.drop o).length := by rw [List.length_drop, notice_bytes_length]; omega
  exact (range_map_getD x.bytes o n).trans (List.take_append_of_le_length hlength)

theorem popBytes_read_through (ho : o < 12) (h : 12 ≤ o + n) :
    (List.range n).map (fun i => (popBytes (some x)).getD (o + i) 0)
      = x.bytes.drop o ++ List.replicate (o + n - 12) 0 := by
  have hlength : (x.bytes.drop o).length = 12 - o := by rw [List.length_drop, notice_bytes_length]
  refine (range_map_getD x.bytes o n).trans ?_
  rw [List.take_append, List.take_of_length_le (by omega), List.take_replicate, hlength]
  congr 2
  omega

end

/-! ### A pop read (R163) -/

section
variable {s : State} {fresh : Bool} {o : Fin 12} {n : Nat}

theorem exec_popRead (h : s.resetHeld = false) : exec (.popRead fresh o n) s = .next (s.readPop fresh o n) :=
  congrArg _ (atPort_released h _)

theorem readPop_none (h : s.popRecord fresh = none) :
    s.readPop fresh o n = { s with port := ⟨none, List.replicate n 0⟩ } := by
  simp only [State.readPop, h, popBytes_none_read]
  rfl

theorem readPop_within {x : Notice} (h : s.popRecord fresh = some x) (hn : o.val + n < 12) :
    s.readPop fresh o n = { s with port := ⟨some x, (x.bytes.drop o.val).take n⟩ } := by
  simp only [State.readPop, h, popBytes_read_within x hn]
  exact if_neg (fun hend => absurd hend.2 (by omega))

theorem readPop_through {x : Notice} (h : s.popRecord fresh = some x) (hn : 12 ≤ o.val + n) :
    s.readPop fresh o n = { s with
      notices := { s.notices with records := s.notices.records.tail }
      port := ⟨none, x.bytes.drop o.val ++ List.replicate (o.val + n - 12) 0⟩ } := by
  simp only [State.readPop, h, popBytes_read_through x o.isLt hn]
  exact if_pos ⟨rfl, hn⟩

/-- R179: the transaction's first byte of the pop location fixes the head. -/
theorem popRecord_fresh : s.popRecord true = s.notices.records.head? := rfl

/-- R179: a read that goes on has the record that is fixed. -/
theorem popRecord_continued : s.popRecord false = s.port.popRecord := rfl

end

/-- Settles O20: by the record that the read returns, which its first byte fixes, and by whether byte 11 is read. -/
theorem popReadReturnsTheFixedHeadAndRemovesIt : Obligations.PopReadReturnsTheFixedHeadAndRemovesIt := by
  intro s hreset
  refine ⟨fun o n => ⟨fun hl => ?_, fun x l hl hn => ?_, fun x l hl hn => ?_⟩,
    fun o n => ⟨fun x hx hn => ?_, fun x hx hn => ?_, fun hx => ?_⟩⟩ <;> rw [exec_popRead hreset]
  · exact congrArg _ (readPop_none (by rw [popRecord_fresh, hl]; rfl))
  · exact congrArg _ (readPop_within (by rw [popRecord_fresh, hl]; rfl) hn)
  · rw [readPop_through (by rw [popRecord_fresh, hl]; rfl) hn, hl]
    rfl
  · exact congrArg _ (readPop_within (popRecord_continued.trans hx) hn)
  · exact congrArg _ (readPop_through (popRecord_continued.trans hx) hn)
  · exact congrArg _ (readPop_none (popRecord_continued.trans hx))

/-! ### IRQ_N (R165) -/

theorem irqAsserted_iff (s : State) : s.irqAsserted = true ↔
    (s.notices.records ≠ [] ∧ s.config.accepted = true ∧ s.config.interruptEnable = true) := by
  simp only [State.irqAsserted, Bool.and_eq_true, Bool.not_eq_true', List.isEmpty_eq_false_iff, and_assoc]

/-- Settles O24: by whether the notice finds room; and the pin by its definition. -/
theorem noticesEnterTheQueueAndDriveIrq : Obligations.NoticesEnterTheQueueAndDriveIrq := by
  refine ⟨fun b s => ⟨fun hroom => ?_, fun hfull => ?_⟩, irqAsserted_iff⟩
  · rw [enterNotice_eq, enterNotice_room b hroom]
  · rw [enterNotice_eq, enterNotice_full b hfull]

end Sys2Proof.Machine
end

section
/-! PROOFS. The configuration record and the resets: the commands that change the record, and the values that RESTART,
the reset pin, power-on and the release of reset leave (R166, R167, R169, R170, R174, R175, R186). -/

namespace Sys2Proof.Machine

open Sys2Proof

/-! ### What leaves the configuration record as it stands (R167) -/

section
variable {s t : State}

theorem Moves.config {b b' : Ledger} (h : Moves Beyond b s b' t) : t.config = s.config :=
  h.keeps (P := fun _ u => u.config = s.config)
    (fun _ _ _ _ hmove hu => (hmove.settled (fun _ _ => id)).1.trans hu) rfl

theorem config_of_ordinary {c : Instr} (hc : ordinary c = true) (h : exec c s = .next t) : t.config = s.config := by
  obtain ⟨_, hmoves⟩ := beyond_handles.exec hc (blankLedger_honest s) rfl h
  exact hmoves.config

theorem atPort_config (h : t.config = s.config) : (s.atPort t).config = s.config := by
  unfold State.atPort
  split
  · rfl
  · exact h

theorem restartCommand_config : s.restartCommand.config = s.config := by
  unfold State.restartCommand
  split <;> rfl

theorem readPop_config (fresh : Bool) (o : Fin 12) (n : Nat) : (s.readPop fresh o n).config = s.config := by
  unfold State.readPop
  dsimp only
  split <;> rfl

end

/-- Settles O10: an ordinary command is a row of moves, which all keep the record; of the others that are left, RESTART
clears every other block and a pop read removes a notice. -/
theorem onlyItsCommandsChangeTheRecord : Obligations.OnlyItsCommandsChangeTheRecord := by
  intro c s t h hcommit hpin hpower hwrite
  cases hc : ordinary c with
  | true => exact config_of_ordinary hc h
  | false =>
    cases c with
    | commit => exact absurd rfl hcommit
    | resetPin => exact absurd rfl hpin
    | powerOn => exact absurd rfl hpower
    | configurationWrite o v => exact absurd rfl (hwrite o v)
    | restart => cases h; exact atPort_config restartCommand_config
    | popRead fresh o n => cases h; exact atPort_config (readPop_config fresh o n)
    | _ => exact nomatch hc

/-! ### RESTART and the reset pin (R174, R175) -/

/-- R174, R175: a cleared station has the values of the reset state in every block but the configuration record. -/
theorem cleared_atRestartValues (s : State) (c : ConfigRecord) (st : StationState) (held : Bool) :
    (s.cleared c st held).AtRestartValues := reset_atRestartValues

/-- Settles O5: by whether the station is UNCONFIGURED. -/
theorem restartReturnsEveryBlockButTheRecord : Obligations.RestartReturnsEveryBlockButTheRecord := by
  intro s hreset
  rw [exec_restart hreset]
  exact ⟨fun hu => congrArg _ (if_pos hu), fun hu =>
    ⟨_, congrArg _ (if_neg hu), cleared_atRestartValues s s.config .offline false, rfl, rfl, rfl, rfl⟩⟩

theorem atPort_held {s : State} (h : s.resetHeld = true) (t : State) : s.atPort t = s := if_pos h

theorem exec_resetRelease_held {s : State} (h : s.resetHeld = true) :
    exec .resetRelease s = .next { s with resetHeld := false, elapsed := 0 } := congrArg _ (if_pos h)

theorem exec_resetRelease_released {s : State} (h : s.resetHeld = false) : exec .resetRelease s = .next s :=
  congrArg _ (if_neg (by simp [h]))

/-- Settles O6: the pin and power-on clear the station, the port takes nothing while it is held in reset, and the
release ends that and starts the elapsed-time count. -/
theorem resetPinPowerOnAndRelease : Obligations.ResetPinPowerOnAndRelease := by
  refine fun s => ⟨⟨s.heldInReset, rfl, rfl, cleared_atRestartValues s .reset .unconfigured true, rfl, rfl, rfl, rfl,
    exec_resetRelease_held rfl⟩, fun hheld => ⟨exec_resetRelease_held hheld, fun c hc => ?_⟩,
    exec_resetRelease_released⟩
  have hport : ∃ t, exec c s = .next (s.atPort t) := by
    rcases hc with rfl | rfl | rfl | rfl | ⟨o, v, rfl⟩ | ⟨i, l, rfl⟩ | ⟨v, rfl⟩ | ⟨w, rfl⟩ | ⟨v, rfl⟩ | ⟨v, rfl⟩
      | ⟨f, o, n, rfl⟩ <;> exact ⟨_, rfl⟩
  obtain ⟨t, ht⟩ := hport
  rw [ht, atPort_held hheld]

/-! ### COMMIT (R169, R170) -/

theorem within_iff {low high : Nat} {b : Byte} : within low high b = true ↔ low ≤ b.toNat ∧ b.toNat ≤ high := by
  simp [within]

/-- R166, R186: the check of COMMIT is that every field is in its range; a byte is never below 0 nor above 255. -/
theorem inRange_iff (c : ConfigRecord) : c.inRange = true ↔ c.InRanges := by
  have hbit : 0 ≤ c.bitTimeCode.toNat := Nat.zero_le _
  have hprobe : c.probeInterval.toNat ≤ 255 := Nat.le_of_lt_succ c.probeInterval.isLt
  have hlimits : c.holdLimits.toList.all (within 1 32) = true
      ↔ ∀ i : Context, 1 ≤ (c.holdLimits[i]).toNat ∧ (c.holdLimits[i]).toNat ≤ 32 := by
    simp only [List.all_eq_true, Vector.mem_toList_iff, Vector.forall_mem_iff_forall_getElem, within_iff, Fin.forall_iff,
      Fin.getElem_fin]
  simp only [ConfigRecord.inRange, ConfigRecord.InRanges, Bool.and_eq_true, within_iff, hlimits, hbit, hprobe, true_and,
    and_true, and_assoc]

section
variable {s : State}

theorem exec_commit (h : s.resetHeld = false) : exec .commit s = .next s.commit := congrArg _ (atPort_released h _)

theorem commit_accepted (h : s.config.accepted = true) : s.commit = s := if_pos h

variable (h : s.config.accepted = false)
include h

theorem commit_inRanges (hr : s.config.InRanges) : s.commit = s.acceptRecord :=
  (if_neg (by simp [h])).trans (if_pos ((inRange_iff _).2 hr))

theorem commit_out_of_range (hr : ¬ s.config.InRanges) :
    s.commit = { s with config := { s.config with rejected := true } } :=
  (if_neg (by simp [h])).trans (if_neg (fun hin => hr ((inRange_iff _).1 hin)))

end

/-- An accepted record leaves IRQ_N to interrupt enable and the notice queue (R165). -/
theorem acceptRecord_irqAsserted (s : State) :
    s.acceptRecord.irqAsserted = (s.config.interruptEnable && !s.notices.records.isEmpty) := by
  rw [Bool.eq_iff_iff, irqAsserted_iff]
  simp [State.acceptRecord, State.setStation, and_comm]

/-- Settles O7: COMMIT accepts the record, since its check is the ranges. -/
theorem commitAcceptsARecordInRange : Obligations.CommitAcceptsARecordInRange := by
  intro s hreset haccepted hr
  exact ⟨_, (exec_commit hreset).trans (congrArg _ (commit_inRanges haccepted hr)), rfl, acceptRecord_irqAsserted s⟩

/-- Settles O8: by whether the accepted flag is set. -/
theorem commitRejectsARecordOutOfRange : Obligations.CommitRejectsARecordOutOfRange := by
  intro s hreset
  rw [exec_commit hreset]
  exact ⟨fun h hr => congrArg _ (commit_out_of_range h hr), fun h => congrArg _ (commit_accepted h)⟩

/-! ### The configuration area (R167, R186) -/

/-- The bytes of the configuration area before the hold limits. -/
def ConfigRecord.headBytes (c : ConfigRecord) : List Byte :=
  [c.stationNumber, c.bitTimeCode, c.beaconInterval, c.presenceMultiple, c.probeInterval, c.spanLimit]
    ++ bytes16 c.policyVector ++ bytes16 c.contextClasses

/-- The bytes of the configuration area, in the order of their addresses. -/
def ConfigRecord.bytes (c : ConfigRecord) : List Byte :=
  c.headBytes ++ (c.holdLimits.toList ++ [(BitVec.ofBool c.interruptEnable).setWidth 8])

/-- What a byte leaves at an offset of the configuration area: interrupt enable has one bit. -/
def configStored (o : Fin 19) (b : Byte) : Byte := if o = 18 then b &&& 1 else b

theorem interruptEnable_of_byte (b : Byte) : (BitVec.ofBool (b.getLsbD 0)).setWidth 8 = b &&& 1 := by
  revert b; decide +kernel

theorem configStored_of_ne {o : Fin 19} (h : o ≠ 18) (b : Byte) : configStored o b = b := if_neg h

section
variable (c : ConfigRecord) (v : Byte) {o : Fin 19}

theorem headBytes_length : c.headBytes.length = 10 := rfl

theorem configBytes_length : c.bytes.length = 19 := by
  simp [ConfigRecord.bytes, headBytes_length]

theorem read_limit (h : 10 ≤ o.val ∧ o.val < 18) : c.read o = c.holdLimits[o.val - 10]'(by omega) := by
  unfold ConfigRecord.read
  iterate 10 rw [if_neg (by omega)]
  exact dif_pos h

theorem write_limit (h : 10 ≤ o.val ∧ o.val < 18) :
    c.write o v = { c with holdLimits := c.holdLimits.set (o.val - 10) v (by omega) } := by
  unfold ConfigRecord.write
  iterate 10 rw [if_neg (by omega)]
  exact dif_pos h

/-- The offsets before the hold limits, those of the hold limits, and that of interrupt enable. -/
theorem config_offset_cases (o : Fin 19) : o.val < 10 ∨ (10 ≤ o.val ∧ o.val < 18) ∨ o = 18 := by omega

/-- R186: the byte read at an offset is the byte of the area there. -/
theorem read_eq_configBytes (o : Fin 19) : c.read o = c.bytes.getD o.val 0 := by
  rcases config_offset_cases o with hhead | hlimit | rfl
  · obtain ⟨n, hn⟩ := o
    change n < 10 at hhead
    interval_cases n <;> rfl
  · have hlength : o.val - 10 < c.holdLimits.toList.length := by rw [Vector.length_toList]; omega
    rw [read_limit c hlimit, ConfigRecord.bytes, List.getD_append_right _ _ _ _ hlimit.1, headBytes_length,
      List.getD_append _ _ _ _ hlength, List.getD_eq_getElem _ _ hlength, Vector.getElem_toList]
  · simp [ConfigRecord.bytes, ConfigRecord.read, headBytes_length, List.getElem_append]

theorem configBytes_set_limit (h : 10 ≤ o.val ∧ o.val < 18) : c.bytes.set o.val v = c.headBytes
    ++ ((c.holdLimits.set (o.val - 10) v (by omega)).toList ++ [(BitVec.ofBool c.interruptEnable).setWidth 8]) := by
  have hlength : o.val - 10 < c.holdLimits.toList.length := by rw [Vector.length_toList]; omega
  rw [ConfigRecord.bytes, List.set_append_right _ _ h.1, headBytes_length, List.set_append_left _ _ hlength,
    Vector.toList_set]

theorem configBytes_set_last : c.bytes.set 18 v = c.headBytes ++ (c.holdLimits.toList ++ [v]) := by
  simp [ConfigRecord.bytes, headBytes_length, List.set_append]

/-- R167, R186: a byte written replaces the one at its offset. -/
theorem configBytes_write (o : Fin 19) : (c.write o v).bytes = c.bytes.set o.val (configStored o v) := by
  rcases config_offset_cases o with hhead | hlimit | rfl
  · match o, hhead with
    | 6, _ | 7, _ => exact congrArg (c.bytes.take 6 ++ · ++ c.bytes.drop 8) (bytes16_join16 ..)
    | 8, _ | 9, _ => exact congrArg (c.bytes.take 8 ++ · ++ c.bytes.drop 10) (bytes16_join16 ..)
    | 0, _ | 1, _ | 2, _ | 3, _ | 4, _ | 5, _ => rfl
  · rw [write_limit c v hlimit, configStored_of_ne (by omega), configBytes_set_limit c v hlimit]
    rfl
  · rw [configStored, if_pos rfl, ← interruptEnable_of_byte]
    exact (configBytes_set_last c _).symm

/-- R167: every byte of the area reads as before but the one written. -/
theorem read_write (o p : Fin 19) :
    (c.write o v).read p = if p = o then (if o = 18 then v &&& 1 else v) else c.read p := by
  rw [read_eq_configBytes, read_eq_configBytes, configBytes_write, List.getD_eq_getElem?_getD]
  have ho : o.val < c.bytes.length := by rw [configBytes_length]; exact o.isLt
  split
  · subst p
    rw [List.getElem?_set_self ho, Option.getD_some, configStored]
  · rename_i hne
    rw [List.getElem?_set_ne (fun h => hne (Fin.ext h.symm)), List.getD_eq_getElem?_getD]

theorem write_rejected (o : Fin 19) : (c.write o v).rejected = c.rejected := by
  unfold ConfigRecord.write
  simp only [apply_ite ConfigRecord.rejected, apply_dite ConfigRecord.rejected, ite_self, dite_eq_ite]

end

theorem exec_configurationWrite {s : State} (h : s.resetHeld = false) (o : Fin 19) (v : Byte) :
    exec (.configurationWrite o v) s
      = .next (if s.config.accepted then s else s.withConfig (s.config.write o v)) :=
  congrArg _ (atPort_released h _)

/-- Settles O9: by whether the accepted flag is set; the byte written replaces one byte of the area. -/
theorem configurationWriteStoresUntilAccepted : Obligations.ConfigurationWriteStoresUntilAccepted := by
  intro o v s hreset
  rw [exec_configurationWrite hreset]
  obtain ⟨hflag, hdigest⟩ := write_accepted s.config o v
  exact ⟨fun h => congrArg _ (if_pos h), fun h => ⟨s.config.write o v, congrArg _ (if_neg (by simp [h])),
    read_write s.config v o, hflag, hdigest, write_rejected s.config v o⟩⟩

end Sys2Proof.Machine
end

section
/-! PROOFS. The bytes that the host writes: the command that the window map makes of each byte, and the commands that a
write transaction makes of its bytes (R172, R175, R177, R178, R180, R184); and the post lock read that ends inside its
byte (R179). -/

namespace Sys2Proof.Machine

open Sys2Proof

/-! ### The post lock (R179) -/

theorem readPostLock_cut (s : State) : s.readPostLock false = s.withPort { s.port with miso := [] } := rfl

/-- Settles O18: a read that ends inside the byte does not take the lock. -/
theorem postLockReadEndedEarlyTakesNothing : Obligations.PostLockReadEndedEarlyTakesNothing := by
  intro s hreset
  rw [exec_postLockRead hreset, readPostLock_cut]
  rfl

/-! ### The window map (R172, R180, R184) -/

/-- The address of byte `o` of the record of slot `i` (R184). -/
def slotAddress (i : SlotIx) (o : Fin 16) : BitVec 12 := BitVec.ofNat 12 (0x100 + 16 * i.val + o.val)

theorem slotAddress_toNat (i : SlotIx) (o : Fin 16) : (slotAddress i o).toNat = 0x100 + 16 * i.val + o.val :=
  (BitVec.toNat_ofNat ..).trans (Nat.mod_eq_of_lt (by omega))

theorem commandOfCode_none {v : Byte} (h : v = 0 ∨ 4 < v.toNat) : commandOfCode v = none := by
  have hne : ∀ c : Byte, 1 ≤ c.toNat → c.toNat ≤ 4 → v ≠ c := by
    rintro c hlow hhigh rfl
    rcases h with rfl | h
    · exact absurd hlow (by decide)
    · omega
  rw [commandOfCode, if_neg (hne 1 (by decide) (by decide)), if_neg (hne 2 (by decide) (by decide)),
    if_neg (hne 3 (by decide) (by decide)), if_neg (hne 4 (by decide) (by decide))]

section
variable {a : BitVec 12} (v : Byte)

theorem writeCommand_configuration (h : a.toNat < 19) : writeCommand a v = .configurationWrite ⟨a.toNat, h⟩ v :=
  dif_pos h

theorem writeCommand_code : writeCommand 0x018 v = (commandOfCode v).getD (.ignoredWrite 0x018 v) := rfl

theorem writeCommand_ringStatus : writeCommand 0x040 v = .refusedWriteClear v := rfl

theorem writeCommand_end : writeCommand 0x043 v = .endWrite v := rfl

theorem writeCommand_postLock : writeCommand 0x044 v = .postLockWrite v := rfl

theorem writeCommand_slot (i : SlotIx) {o : Fin 16} (hlow : 2 ≤ o.val) (hhigh : o.val < 10) :
    writeCommand (slotAddress i o) v = .slotWrite i [(o, v)] := by
  have hi : (0x100 + 16 * i.val + o.val - 0x100) / 16 = i.val := by omega
  have ho : (0x100 + 16 * i.val + o.val - 0x100) % 16 = o.val := by omega
  simp only [writeCommand, slotAddress_toNat]
  rw [dif_neg (by omega), if_neg (by omega), if_neg (by omega), if_neg (by omega), if_neg (by omega),
    dif_pos (by omega)]
  simp only [hi, ho]

/-- R180: a byte outside every location that a write has an effect on. -/
theorem writeCommand_unmapped (hconfig : ¬ a.toNat < 19) (hcode : a.toNat ≠ 0x018) (hstatus : a.toNat ≠ 0x040)
    (hend : a.toNat ≠ 0x043) (hlock : a.toNat ≠ 0x044)
    (hslot : ¬ ((0x100 ≤ a.toNat ∧ a.toNat < 0x280) ∧ 2 ≤ a.toNat % 16 ∧ a.toNat % 16 < 10)) :
    writeCommand a v = .ignoredWrite a v := by
  simp only [writeCommand]
  rw [dif_neg hconfig, if_neg hcode, if_neg hstatus, if_neg hend, if_neg hlock, dif_neg hslot]

theorem exec_ignoredWrite {v : Byte} (h : writeCommand a v = .ignoredWrite a v) (s : State) :
    exec (.ignoredWrite a v) s = .next s := if_pos (decide_eq_true h)

end

/-- Settles O21: at the command location by the code, elsewhere by the address. -/
theorem ignoredWriteChangesNothing : Obligations.IgnoredWriteChangesNothing := by
  intro a v s hconfig hcode hstatus hend hlock hslot
  have hignored : writeCommand a v = .ignoredWrite a v := by
    by_cases ha : a.toNat = 0x018
    · obtain rfl : a = 0x018 := BitVec.eq_of_toNat_eq ha
      rw [writeCommand_code, commandOfCode_none (hcode rfl), Option.getD_none]
    · exact writeCommand_unmapped v (by omega) ha hstatus hend hlock hslot
  exact ⟨hignored, exec_ignoredWrite hignored s⟩

/-- Settles O22: row by row of the window map. -/
theorem windowMapNamesTheCommands : Obligations.WindowMapNamesTheCommands := by
  refine ⟨fun o v => ?_, writeCommand_code 1, writeCommand_code 2, writeCommand_code 3, writeCommand_code 4,
    writeCommand_ringStatus, writeCommand_end, writeCommand_postLock, fun i o v => writeCommand_slot v i⟩
  have ho : (BitVec.ofNat 12 o.val).toNat = o.val :=
    (BitVec.toNat_ofNat ..).trans (Nat.mod_eq_of_lt (by omega))
  rw [writeCommand_configuration v (ho.trans_lt o.isLt)]
  exact congrArg (Instr.configurationWrite · v) (Fin.ext ho)

/-! ### Write transactions (R177, R178) -/

/-- Each byte of a row with its place in the slot record, the first at `o`. -/
def placedFrom (o : Fin 16) : List Byte → List (Fin 16 × Byte)
  | [] => []
  | b :: data => (o, b) :: placedFrom (o + 1) data

/-- R177: the header's address is the low 12 bits of its two bytes. -/
theorem headerAddress_eq_setWidth (x : BitVec 16) :
    headerAddress (x.extractLsb' 8 8) (x.extractLsb' 0 8) = x.setWidth 12 := by
  have hhigh : (x.extractLsb' 8 8).extractLsb' 0 4 = x.extractLsb' 8 4 := BitVec.eq_of_toNat_eq <| by
    simp only [BitVec.extractLsb'_toNat]
    exact Nat.mod_mod_of_dvd _ (by decide)
  calc headerAddress (x.extractLsb' 8 8) (x.extractLsb' 0 8)
      = x.extractLsb' 8 4 ++ x.extractLsb' 0 8 := congrArg (· ++ x.extractLsb' 0 8) hhigh
    _ = x.extractLsb' 0 12 := BitVec.extractLsb'_append_extractLsb'_eq_extractLsb' rfl
    _ = x.setWidth 12 := (BitVec.setWidth_eq_extractLsb' (by decide)).symm

theorem headerAddress_slot (i : SlotIx) (o : Fin 16) :
    let x := BitVec.ofNat 16 (0x100 + 16 * i.val + o.val)
    headerAddress (x.extractLsb' 8 8) (x.extractLsb' 0 8) = slotAddress i o :=
  (headerAddress_eq_setWidth _).trans (BitVec.setWidth_ofNat_of_le (by decide) _)

theorem slotAddress_succ (i : SlotIx) {o : Fin 16} (h : o.val < 15) : slotAddress i o + 1 = slotAddress i (o + 1) := by
  have ho : (o + 1).val = o.val + 1 := Fin.val_add_one_of_lt (Fin.lt_def.2 h)
  refine BitVec.eq_of_toNat_eq ?_
  rw [BitVec.toNat_add, slotAddress_toNat, slotAddress_toNat, ho]
  exact Nat.mod_eq_of_lt (by simp; omega)

/-- Bytes written from a place on inside the request part of one slot: a SLOT_WRITE of each. -/
theorem byteCommands_slot (i : SlotIx) (data : List Byte) (o : Fin 16) (hlow : 2 ≤ o.val)
    (hhigh : o.val + data.length ≤ 10) :
    byteCommands (slotAddress i o) data = (placedFrom o data).map (fun w => .slotWrite i [w]) := by
  induction data generalizing o with
  | nil => rfl
  | cons b data ih =>
    rw [List.length_cons] at hhigh
    have ho : (o + 1).val = o.val + 1 := Fin.val_add_one_of_lt (Fin.lt_def.2 (by show o.val < 15; omega))
    rw [byteCommands, writeCommand_slot b i hlow (by omega), slotAddress_succ i (by omega),
      ih (o + 1) (by omega) (by omega)]
    rfl

theorem throughRestart_restart (l : List Instr) : throughRestart (.restart :: l) = [.restart] := if_pos rfl

theorem throughRestart_eq_self {l : List Instr} (h : .restart ∉ l) : throughRestart l = l := by
  induction l with
  | nil => rfl
  | cons c l ih =>
    obtain ⟨hc, hl⟩ := List.ne_and_not_mem_of_not_mem_cons h
    rw [throughRestart, if_neg (Ne.symm hc), ih hl]

/-- R178: writes to one slot join the one that stands first. -/
theorem foldl_joinCommand_slot (i : SlotIx) (l earlier : List (Fin 16 × Byte)) :
    (l.map (fun w => Instr.slotWrite i [w])).foldl joinCommand [.slotWrite i earlier]
      = [.slotWrite i (earlier ++ l)] := by
  induction l generalizing earlier with
  | nil => rw [List.append_nil]; rfl
  | cons w l ih =>
    have hjoin : joinCommand [.slotWrite i earlier] (.slotWrite i [w]) = [.slotWrite i (earlier ++ [w])] := if_pos rfl
    rw [List.map_cons, List.foldl_cons, hjoin, ih, List.append_assoc]
    rfl

/-- R178: bytes that fall within the request part of one slot are one write to it. -/
theorem commands_of_slot_bytes (i : SlotIx) (o : Fin 16) (b : Byte) (data : List Byte) (hlow : 2 ≤ o.val)
    (hhigh : o.val + (b :: data).length ≤ 10) :
    mergeSlotWrites (throughRestart (byteCommands (slotAddress i o) (b :: data)))
      = [.slotWrite i (placedFrom o (b :: data))] := by
  rw [byteCommands_slot i _ o hlow hhigh, throughRestart_eq_self (by simp)]
  exact foldl_joinCommand_slot i (placedFrom (o + 1) data) [(o, b)]

section
variable {h₀ h₁ : Byte} {data : List Byte}

theorem writeTransaction_read (h : h₀.msb = true) : writeTransaction (h₀ :: h₁ :: data) = [] := if_pos h

theorem writeTransaction_write (h : h₀.msb = false) : writeTransaction (h₀ :: h₁ :: data)
    = mergeSlotWrites (throughRestart (byteCommands (headerAddress h₀ h₁) data)) := if_neg (by simp [h])

theorem writeTransaction_header : writeTransaction [h₀, h₁] = [] := ite_self _

/-- R178: after a byte that issues RESTART nothing more is taken (log 21). -/
theorem writeTransaction_restart : writeTransaction (0x00 :: 0x18 :: 0x04 :: data) = [.restart] := by
  have hbyte : writeCommand (headerAddress 0x00 0x18) 0x04 = .restart := by decide
  rw [writeTransaction_write rfl, byteCommands, hbyte, throughRestart_restart]
  rfl

end

theorem writes_bytes (bytes : List Byte) :
    Transaction.writes ⟨bytes.flatMap bitsOf, none⟩ = writeTransaction bytes :=
  congrArg writeTransaction (wholeBytes_flatMap bytes)

theorem writes_reset (bits : List Bool) (n : Nat) : Transaction.writes ⟨bits, some n⟩ = [] := rfl

theorem reads_reset (bits : List Bool) (n : Nat) :
    Transaction.reads ⟨bits, some n⟩ = Transaction.reads ⟨bits.take n, none⟩ := rfl

/-- Settles O23: the eight bytes by their joining in one slot, the rest by the transaction's header, first command and
meeting with reset. -/
theorem writeTransactionGroupsItsBytes : Obligations.WriteTransactionGroupsItsBytes := by
  refine ⟨fun i b₂ b₃ b₄ b₅ b₆ b₇ b₈ b₉ => ?_, fun _ _ => ⟨rfl, rfl, writeTransaction_header⟩,
    fun _ _ _ => writeTransaction_read, fun _ => writeTransaction_restart, writes_bytes,
    fun bits n => ⟨writes_reset bits n, reads_reset bits n⟩, fun t s => State.withPending_pending s _⟩
  have hwrite : ∀ i : SlotIx, ((BitVec.ofNat 16 (0x100 + 16 * i.val + 2)).extractLsb' 8 8).msb = false := by decide
  exact (writeTransaction_write (hwrite i)).trans <| headerAddress_slot i 2 ▸
    commands_of_slot_bytes i 2 b₂ [b₃, b₄, b₅, b₆, b₇, b₈, b₉] (by decide) (by simp)

end Sys2Proof.Machine
end

section
/-! PROOFS. The step (Functional Overview of section 0): the command at the front of the queue, or on an empty queue
the choice of a due event, or the clock. -/

namespace Sys2Proof.Machine

open Sys2Proof

/-- Settles O1: the queue's front is what a step looks at first. -/
theorem stepRunsTheFrontCommand : Obligations.StepRunsTheFrontCommand := by
  intro c rest s hpending
  rw [step, hpending]

/-! ### The choice of a due event (log 2, log 3) -/

section
variable {s : State}

theorem chooseDue_none (hdue : s.due = []) : s.chooseDue = none := by
  rw [State.chooseDue, hdue]

theorem chooseDue_one {c : Instr} (hdue : s.due = [c]) : s.chooseDue = some (c, s) := by
  rw [State.chooseDue, hdue]

/-- Log 3: of several due events the free value, whatever it is, names one, and the choice is counted. -/
theorem chooseDue_several (hdue : 2 ≤ s.due.length) :
    ∃ c ∈ s.due, s.chooseDue = some (c, s.withFreeCount (s.freeCount + 1)) := by
  obtain ⟨c, d, l, hl⟩ : ∃ c d l, s.due = c :: d :: l := by
    match hl : s.due with
    | [] => simp [hl] at hdue
    | [_] => simp [hl] at hdue
    | c :: d :: l => exact ⟨c, d, l, rfl⟩
  have hchoice : s.chooseDue = some ((c :: d :: l).getD (Config.freeChoice s.freeCount % (c :: d :: l).length) c,
      s.withFreeCount (s.freeCount + 1)) := by
    rw [State.chooseDue, hl]
  rw [List.getD_eq_getElem _ c (Nat.mod_lt _ (by simp))] at hchoice
  rw [hl]
  exact ⟨_, List.getElem_mem _, hchoice⟩

theorem step_of_empty (hempty : s.pending = []) : step s = ownStep s := by
  rw [step, hempty]

theorem ownStep_none (h : s.chooseDue = none) : ownStep s = .next s.tick := by
  rw [ownStep, h]

theorem ownStep_some {c : Instr} {u : State} (h : s.chooseDue = some (c, u)) : ownStep s = exec c u := by
  rw [ownStep, h]

end

/-- Settles O2: by the number of the due events. -/
theorem emptyQueueRunsADueEventOrTheClock : Obligations.EmptyQueueRunsADueEventOrTheClock := by
  intro s hempty
  rw [step_of_empty hempty]
  refine ⟨fun hdue => ownStep_none (chooseDue_none hdue), fun c hdue => ownStep_some (chooseDue_one hdue),
    fun hdue => ?_⟩
  obtain ⟨c, hc, hchoice⟩ := chooseDue_several hdue
  exact ⟨c, hc, ownStep_some hchoice⟩

end Sys2Proof.Machine
end

section
/-! PROOFS. What the station's own events and the link's leave as it was (section 1.6): the host's side; beside that the
membership unit and the transceiver, or the lock engine, the ring and the notices, or all but the transceiver. -/

namespace Sys2Proof.Machine

open Sys2Proof

/-! ### The families of events -/

/-- Takings and the lock engine's four timers (section 5.3). -/
def TakingOrLockTimer (c : Instr) : Prop :=
  c = .taking ∨ (∃ i, c = .deadlineExpiry i) ∨ (∃ i, c = .probeTimerExpiry i) ∨ (∃ i, c = .claimRetryExpiry i) ∨
    ∃ r, c = .grantRetryExpiry r

/-- The beacon and silence timers (section 8.4). -/
def PresenceTimer (c : Instr) : Prop := c = .beaconTimerExpiry ∨ ∃ x, c = .silenceTimerExpiry x

/-- A lead, a lead heard and a passed arbitration field (section 10.1). -/
def LeadOrArbitration (c : Instr) : Prop := (∃ p, c = .lead p) ∨ c = .leadHeard ∨ c = .arbitrationFieldPassed

/-- The events that may stop a station's sending. -/
def StopsSending (c : Instr) : Prop :=
  c = .arbitrationLost ∨ c = .collision ∨ c = .truncation ∨ c = .lossOfSynchronization

/-- The veto slot, the answer field, idle regained, and the fence timer. -/
def EndsFrameOrFences (c : Instr) : Prop :=
  (∃ f m, c = .vetoSlotEnd f m) ∨ c = .answerStart ∨ (∃ l, c = .answerEnd l) ∨ c = .idleRegained ∨
    c = .fenceTimerExpiry

/-! ### Takings and the lock engine's timers -/

/-- What a change keeps, it keeps where it is made under a condition. -/
theorem ite_keeps {β : Type} (p : State → β) {P : Prop} [Decidable P] {s u : State} (h : p u = p s) :
    p (if P then u else s) = p s := by
  split
  · exact h
  · rfl

section
variable (s : State)

theorem hand_beyondLock (id : Nat) (i : SlotIx) (q : Request) : (s.hand id i q).beyondLock = s.beyondLock := by
  cases q with
  | acquire c r p limit => exact acquire_beyondLock s _
  | release c r => exact release_beyondLock s i c r
  | query r => exact queryRequest_beyondLock s id i r
  | cancel target => exact cancel_beyondLock s i target

theorem takeRequest_beyondLock (i : SlotIx) (q : Request) : (s.takeRequest i q).beyondLock = s.beyondLock :=
  hand_beyondLock _ _ i q

theorem advance_beyondLock : s.advance.beyondLock = s.beyondLock := rfl

theorem take_beyondLock (i : SlotIx) : (s.take i).beyondLock = s.beyondLock := by
  unfold State.take
  split
  · rfl
  · exact completeBare_beyondLock s i .unfilled
  · exact completeBare_beyondLock s i .unfilled
  · split
    · exact takeRequest_beyondLock s i _
    · exact completeBare_beyondLock s i .malformed

theorem expireDeadline_beyondLock (e : LockEntry) : (s.expireDeadline e).beyondLock = s.beyondLock := by
  unfold State.expireDeadline
  split
  · split
    · rfl
    · exact holdAction_beyondLock s e.id .deadline
  · exact endWait_beyondLock s e .timedOut

theorem expireClaimRetry_beyondLock (e : LockEntry) : (s.expireClaimRetry e).beyondLock = s.beyondLock := by
  unfold State.expireClaimRetry
  split
  · dsimp only
    split
    · split <;> simp
    · simp
  · rfl

theorem expireGrantRetry_beyondLock (e : LockEntry) : (s.expireGrantRetry e).beyondLock = s.beyondLock := by
  unfold State.expireGrantRetry
  split
  · exact raiseWant_beyondLock _ _
  · rfl

end

section
variable {s t : State} {c : Instr}

/-- A taking and the lock engine's timers run in the lock engine, the slots, the queue and the notices alone. -/
theorem beyondLock_of_takingOrLockTimer (hc : TakingOrLockTimer c) (h : exec c s = .next t) :
    t.beyondLock = s.beyondLock := by
  obtain rfl | ⟨i, rfl⟩ | ⟨i, rfl⟩ | ⟨i, rfl⟩ | ⟨r, rfl⟩ := hc <;> cases h
  · exact ite_keeps State.beyondLock (take_beyondLock s _)
  · split
    · exact ite_keeps State.beyondLock (expireDeadline_beyondLock s _)
    · rfl
  · split
    · exact ite_keeps State.beyondLock (immediateProbe_beyondLock s _)
    · rfl
  · split
    · exact ite_keeps State.beyondLock (expireClaimRetry_beyondLock s _)
    · rfl
  · split
    · exact ite_keeps State.beyondLock (expireGrantRetry_beyondLock s _)
    · rfl

end

/-! ### The beacon and silence timers -/

/-- What the membership unit's own frames and records leave as it was. -/
def State.besideMembership (s : State) : LockEngine × Ring × NoticeQueue × Transceiver :=
  (s.lock, s.ring, s.notices, s.link)

section
variable (s : State)

theorem setRecord_besideMembership (x : StationNo) (r : MemberRecord) :
    (s.setRecord x r).besideMembership = s.besideMembership := by
  simp [State.besideMembership]

theorem placeMember_besideMembership (c : FrameContent) :
    (s.placeMember c).besideMembership = s.besideMembership := by
  simp [State.besideMembership]

theorem wantDepart_besideMembership (x : StationNo) (g : Tag) :
    (s.wantDepart x g).besideMembership = s.besideMembership := by
  obtain ⟨-, -, hlock, hring, hnotices, hlink⟩ := wantDepart_keeps s x g
  rw [State.besideMembership, hlock, hring, hnotices, hlink]
  rfl

theorem expireSilence_besideMembership (x : StationNo) :
    (s.expireSilence x).besideMembership = s.besideMembership := by
  unfold State.expireSilence
  split
  · exact (wantDepart_besideMembership _ x _).trans (setRecord_besideMembership s x _)
  · exact setRecord_besideMembership s x _
  · exact setRecord_besideMembership s x _
  · rfl

theorem expireBeacon_besideMembership : s.expireBeacon.besideMembership = s.besideMembership := by
  unfold State.expireBeacon
  dsimp only
  split
  · exact placeMember_besideMembership _ _
  · rfl

end

section
variable {s t : State} {c : Instr}

theorem besideMembership_of_presenceTimer (hc : PresenceTimer c) (h : exec c s = .next t) :
    t.besideMembership = s.besideMembership := by
  obtain rfl | ⟨x, rfl⟩ := hc <;> cases h
  · exact ite_keeps State.besideMembership (expireBeacon_besideMembership s)
  · exact ite_keeps State.besideMembership (expireSilence_besideMembership s x)

end

/-! ### The lead and the arbitration field -/

section
variable (s : State)

theorem beginLead_eq_withLink : s.beginLead = s.withLink s.beginLead.link := by
  unfold State.beginLead
  split
  · split <;> rfl
  · rfl

theorem startArbitration_eq_withLink : s.startArbitration = s.withLink s.startArbitration.link := by
  unfold State.startArbitration
  split
  · split
    · split <;> rfl
    · rfl
  · rfl

theorem pulseFalls_eq_withLink : s.pulseFalls = s.withLink s.pulseFalls.link := by
  unfold State.pulseFalls
  split <;> rfl

theorem tailRises_eq_withLink : s.tailRises = s.withLink s.tailRises.link := by
  unfold State.tailRises
  split
  · split <;> rfl
  · rfl

end

section
variable {s t : State} {c : Instr}

theorem eq_withLink_of_leadOrArbitration (hc : LeadOrArbitration c) (h : exec c s = .next t) :
    t = s.withLink t.link := by
  obtain ⟨p, rfl⟩ | rfl | rfl := hc <;> cases h
  · cases p with
    | begins => exact beginLead_eq_withLink s
    | arbitrationStart => exact startArbitration_eq_withLink s
    | lineFalls => exact pulseFalls_eq_withLink s
    | lineRises => exact tailRises_eq_withLink s
  · split <;> rfl
  · split <;> rfl

end

/-! ### The host's side (section 1.6) -/

section
variable {s t : State} {c : Instr}

theorem shell_of_stopsSending (hc : StopsSending c) (h : exec c s = .next t) : t.shell = s.shell := by
  obtain rfl | rfl | rfl | rfl := hc <;> cases h
  · split
    · exact (reportLost_shell _ _).trans (stopSending_shell s)
    · rfl
  · split
    · exact stopSending_shell s
    · exact collide_shell s _
    · exact collide_shell s _
    · rfl
  · have hsender : ∀ o, (if (s.collide o).link.state = .listening then (s.collide o).truncated
        else s.collide o).shell = s.shell :=
      fun o => (ite_keeps State.shell (truncated_shell _)).trans (collide_shell s o)
    split
    · exact truncated_shell s
    · exact truncated_shell s
    · exact truncated_shell s
    · exact hsender _
    · exact hsender _
    · rfl
  · obtain ⟨u, hu, hshell⟩ := exec_lossOfSynchronization_shell s
    obtain rfl := Host.Outcome.next.inj hu
    exact hshell

theorem shell_of_endsFrameOrFences (hc : EndsFrameOrFences c) (h : exec c s = .next t) : t.shell = s.shell := by
  obtain ⟨f, m, rfl⟩ | rfl | ⟨l, rfl⟩ | rfl | rfl := hc
  · obtain ⟨u, hu, hshell⟩ := exec_vetoSlotEnd_shell s f m
    obtain rfl := Host.Outcome.next.inj (hu.symm.trans h)
    exact hshell
  · cases h
    split
    · split
      · rfl
      · exact answerDemand_shell s _
    · rfl
  · cases h
    split
    · exact ownFrameAccepted_shell s _ _ _
    · exact heardAnswerEnd_shell s _ _
    · rfl
  · cases h
    split
    · exact ite_keeps State.shell (regainIdle_shell s)
    · rfl
  · obtain ⟨u, hu, hshell⟩ := exec_fenceTimerExpiry_shell s
    obtain rfl := Host.Outcome.next.inj (hu.symm.trans h)
    exact hshell

theorem shell_of_presenceTimer (hc : PresenceTimer c) (h : exec c s = .next t) : t.shell = s.shell := by
  obtain rfl | ⟨x, rfl⟩ := hc <;> cases h
  · exact ite_keeps State.shell (expireBeacon_shell s)
  · exact ite_keeps State.shell (expireSilence_shell s x)

end

/-- Settles O4: each event leaves the host's side, by the family that it is of. -/
theorem stationEventsLeaveHostSideAlone : Obligations.StationEventsLeaveHostSideAlone := by
  intro c s t h hc
  have hfamily : TakingOrLockTimer c ∨ LeadOrArbitration c ∨ StopsSending c ∨ EndsFrameOrFences c ∨
      PresenceTimer c := by
    unfold TakingOrLockTimer LeadOrArbitration StopsSending EndsFrameOrFences PresenceTimer
    grind
  have hshell : t.shell = s.shell := by
    obtain hlock | hlead | hstop | hend | hpresence := hfamily
    · exact shell_of_beyondLock (beyondLock_of_takingOrLockTimer hlock h)
    · rw [eq_withLink_of_leadOrArbitration hlead h, withLink_shell]
    · exact shell_of_stopsSending hstop h
    · exact shell_of_endsFrameOrFences hend h
    · exact shell_of_presenceTimer hpresence h
  refine ⟨config_of_shell hshell, port_of_shell hshell, elapsed_of_shell hshell, resetHeld_of_shell hshell,
    freeCount_of_shell hshell, pending_of_shell hshell, fun hlock => ?_, fun hpresence => ?_, fun hlink =>
    eq_withLink_of_leadOrArbitration hlink h⟩
  · have hbeyond := beyondLock_of_takingOrLockTimer hlock h
    exact ⟨member_of_beyondLock hbeyond, link_of_beyondLock hbeyond⟩
  · simpa [State.besideMembership] using besideMembership_of_presenceTimer hpresence h

end Sys2Proof.Machine
end
